-- ==== Sys2Proof/Word.lean ====
section
/-!
DEFINITION. The words and index types every later file uses: bytes, 48-bit times, the links, eyes,
axis kinds, lens channels and reference inputs of the FL-4120, and one container for each of them.
-/

namespace Sys2Proof

/-- A byte of a message or reply. -/
abbrev Byte := BitVec 8

/-- A value of the timebase: 48 bits, in ticks of 100 ns (R1). -/
abbrev Time := BitVec 48

/-- The three station links (Conventions, "Links"). -/
inductive Link
  | a | b | c
  deriving DecidableEq, Repr

/-- The two eyes (Conventions, "Eyes, axis kinds and lens channels"). -/
inductive Eye
  | left | right
  deriving DecidableEq, Repr

/-- The three axis kinds. -/
inductive Axis
  | focus | iris | zoom
  deriving DecidableEq, Repr

/-- The two reference inputs, REFA and REFB (R9). -/
inductive RefId
  | a | b
  deriving DecidableEq, Repr

/-- How a message was addressed: to this part, or to every part on the link (R161, R163). -/
inductive Addressing
  | unicast | broadcast
  deriving DecidableEq, Repr

/-- A lens channel: one eye and one axis kind. -/
structure ChannelId where
  eye  : Eye
  axis : Axis
  deriving DecidableEq, Repr

/-- One value for each link. -/
structure PerLink (α : Type) where
  a : α
  b : α
  c : α
  deriving DecidableEq, Repr

/-- One value for each eye. -/
structure PerEye (α : Type) where
  left  : α
  right : α
  deriving DecidableEq, Repr

/-- One value for each axis kind. -/
structure PerAxis (α : Type) where
  focus : α
  iris  : α
  zoom  : α
  deriving DecidableEq, Repr

/-- One value for each reference input. -/
structure PerRef (α : Type) where
  a : α
  b : α
  deriving DecidableEq, Repr

/-- One value for each lens channel. -/
abbrev PerChannel (α : Type) := PerEye (PerAxis α)

def PerLink.get {α : Type} (p : PerLink α) : Link → α
  | .a => p.a
  | .b => p.b
  | .c => p.c

def PerLink.set {α : Type} (p : PerLink α) (l : Link) (v : α) : PerLink α :=
  match l with
  | .a => { p with a := v }
  | .b => { p with b := v }
  | .c => { p with c := v }

/-- The container whose value at every link is what `f` gives for that link. -/
def PerLink.build {α : Type} (f : Link → α) : PerLink α := ⟨f .a, f .b, f .c⟩

def PerEye.get {α : Type} (p : PerEye α) : Eye → α
  | .left => p.left
  | .right => p.right

def PerEye.set {α : Type} (p : PerEye α) (e : Eye) (v : α) : PerEye α :=
  match e with
  | .left => { p with left := v }
  | .right => { p with right := v }

def PerEye.build {α : Type} (f : Eye → α) : PerEye α := ⟨f .left, f .right⟩

def PerAxis.get {α : Type} (p : PerAxis α) : Axis → α
  | .focus => p.focus
  | .iris => p.iris
  | .zoom => p.zoom

def PerAxis.set {α : Type} (p : PerAxis α) (x : Axis) (v : α) : PerAxis α :=
  match x with
  | .focus => { p with focus := v }
  | .iris => { p with iris := v }
  | .zoom => { p with zoom := v }

def PerAxis.build {α : Type} (f : Axis → α) : PerAxis α := ⟨f .focus, f .iris, f .zoom⟩

def PerRef.get {α : Type} (p : PerRef α) : RefId → α
  | .a => p.a
  | .b => p.b

def PerRef.set {α : Type} (p : PerRef α) (r : RefId) (v : α) : PerRef α :=
  match r with
  | .a => { p with a := v }
  | .b => { p with b := v }

def PerRef.build {α : Type} (f : RefId → α) : PerRef α := ⟨f .a, f .b⟩

/-- The value for lens channel `c`. -/
def channelGet {α : Type} (p : PerChannel α) (c : ChannelId) : α := (p.get c.eye).get c.axis

/-- `p` with the value for lens channel `c` replaced. -/
def channelSet {α : Type} (p : PerChannel α) (c : ChannelId) (v : α) : PerChannel α :=
  p.set c.eye ((p.get c.eye).set c.axis v)

/-- The container whose value at every lens channel is what `f` gives for that channel. -/
def channelBuild {α : Type} (f : ChannelId → α) : PerChannel α :=
  PerEye.build fun e => PerAxis.build fun x => f ⟨e, x⟩

/-- The six lens channels in the fixed channel order of R121 and R150. -/
def channelOrder : List ChannelId :=
  [⟨.left, .focus⟩, ⟨.left, .iris⟩, ⟨.left, .zoom⟩, ⟨.right, .focus⟩, ⟨.right, .iris⟩, ⟨.right, .zoom⟩]

/-- The nine conversions of one scan, 12 bits each: the six encoders and the three wheels (R143). -/
structure Conversions where
  encoders : PerChannel (BitVec 12)
  wheels   : PerAxis (BitVec 12)
  deriving DecidableEq, Repr

/-- A timecode value: hours, minutes, seconds and frames, two BCD digits each (5.1, R181). -/
structure Timecode where
  hours   : Byte
  minutes : Byte
  seconds : Byte
  frames  : Byte
  deriving DecidableEq, Repr

end Sys2Proof
end

