-- ==== Sys2Proof/Syntax.lean ====
section
/-!
DEFINITION. The commands of the FL-4120: one constructor for each row of spec/opcode_table.json, with
the row's operands. A link command carries the link it arrived on and its argument bytes as R182 lays
them out, unchecked, so that every refusal of its owner is part of its meaning; the four commands that
may be broadcast (R172) carry their addressing too.
-/

namespace Sys2Proof

inductive Instr
  /-- PIN_RESET: assertion of RESET#, or power-up (R24). -/
  | pinReset
  /-- RESET_RELEASE: release of RESET# with these levels on the straps (R153, R161). -/
  | resetRelease (sel : BitVec 4) (rate : BitVec 2)
  /-- RECEIVE_CHARACTER: nine data bits received on a link; bit 8 marks a lead (R162, R164). -/
  | receiveCharacter (l : Link) (ch : BitVec 9) (framingError : Bool)
  /-- MESSAGE_RECEIVED: receipt of the check byte of the message being assembled (R167). -/
  | messageReceived (l : Link) (check : Byte)
  /-- INTER_CHARACTER_TIMEOUT (R166). -/
  | interCharacterTimeout (l : Link)
  /-- REPLY_SENT: the check byte of the reply has been sent (R171). -/
  | replySent (l : Link)
  | run (l : Link) (cast : Addressing) (start : Option (BitVec 32))
  | stop (l : Link) (cast : Addressing)
  | restart (l : Link) (cast : Addressing)
  | timingStatus (l : Link)
  /-- PLAN_SET: field number and four signed bytes (R27, R183). -/
  | planSet (l : Link) (field : Byte) (value : BitVec 32)
  | planCommit (l : Link)
  | planDiscard (l : Link)
  | planGet (l : Link) (which : Byte)
  | planEditLapse
  | planApply
  | pairStatus (l : Link)
  | tcSet (l : Link) (cast : Addressing) (value : Timecode) (base : Byte) (drop : Byte)
  | tcGet (l : Link)
  | timecodePendingApply
  | logAttach (l : Link)
  | logDetach (l : Link)
  | logRead (l : Link) (maximum : Byte)
  | logStatus (l : Link)
  | eventMask (l : Link) (mask : BitVec 16)
  | eventRead (l : Link)
  | identify (l : Link)
  | tableBegin (l : Link) (eye : Byte) (axis : Byte)
  /-- TABLE_ENTRY: first index and the breakpoints, each a demand and a code (R115). -/
  | tableEntry (l : Link) (eye : Byte) (axis : Byte) (first : Byte) (points : List (BitVec 16 × BitVec 16))
  | tableEnd (l : Link) (eye : Byte) (axis : Byte)
  | tableAbort (l : Link) (eye : Byte) (axis : Byte)
  | tableRead (l : Link) (eye : Byte) (axis : Byte) (index : Byte)
  | tableLapse (eye : Eye) (axis : Axis)
  | lensSource (l : Link) (axis : Byte) (source : Byte)
  | lensDemand (l : Link) (axis : Byte) (value : BitVec 16)
  | lensTrim (l : Link) (eye : Byte) (axis : Byte) (trim : BitVec 16)
  | lensTol (l : Link) (axis : Byte) (tolerance : BitVec 16) (settle : Byte)
  | lensDrive (l : Link) (eye : Byte) (axis : Byte) (drive : Byte)
  | lensRun (l : Link) (mode : Byte)
  | lensStatus (l : Link)
  | scheduleBoundary
  /-- REF_PULSE: a rising edge on a reference input (R10). -/
  | refPulse (r : RefId)
  | refAbsenceExpiry (r : RefId)
  /-- RETURN_EDGE: a rising edge on RET_L or RET_R (R56). -/
  | returnEdge (e : Eye)
  | leftReturnLapse
  | triggerDecision (e : Eye)
  | triggerPulseEnd (e : Eye)
  | synthReturn (e : Eye)
  /-- SLOT_DEADLINE of the open slot with this number (R73). -/
  | slotDeadline (number : BitVec 32)
  | reachStopped
  | arbiterGrant
  | burstEnd
  | scanDue
  /-- CONVERSIONS_DONE: the nine conversions of a scan end, with these codes made (R143, log 16). -/
  | conversionsDone (codes : Conversions)
  deriving DecidableEq, Repr

end Sys2Proof
end

