-- ==== Sys2Proof/WellFormed.lean ====
section
/-!
DEFINITION. Which commands a message can spell. Every operand's width is fixed by its type, so one
check is left: a TABLE_ENTRY carries one to four breakpoints (R115, R182).
-/

namespace Sys2Proof

/-- A command is well formed when its operands have a shape R182 gives a length for. -/
def Instr.wellFormed : Instr → Bool
  | .tableEntry _ _ _ _ points => decide (1 ≤ points.length ∧ points.length ≤ 4)
  | _ => true

end Sys2Proof
end

