-- ==== Sys2Proof/Decode.lean ====
section
/-!
DEFINITION. The command table of R182: the command that a message's code and argument bytes spell, and
after it the message that spells a command. The opcode table gives its rows no bits, so no table word
spells one.
-/

namespace Sys2Proof

/-- No row of spec/opcode_table.json has bits. -/
def decodeTableWord (_nbits _w : Nat) : Option Instr := none

/-- What the code and the length of a message name (R168). -/
inductive Parsed
  | badCode
  | badLength
  | command (i : Instr)
  deriving DecidableEq, Repr

/-- Two bytes, most significant first. -/
def word16 (b1 b0 : Byte) : BitVec 16 := b1 ++ b0

/-- Four bytes, most significant first. -/
def word32 (b3 b2 b1 b0 : Byte) : BitVec 32 := b3 ++ b2 ++ b1 ++ b0

/-- Breakpoints in groups of four bytes; nothing when bytes are left over (R182). -/
def parsePoints : List Byte → Option (List (BitVec 16 × BitVec 16))
  | [] => some []
  | d1 :: d0 :: c1 :: c0 :: rest => (parsePoints rest).map fun ps => (word16 d1 d0, word16 c1 c0) :: ps
  | _ => none

/-- A command of no argument. -/
def parseNone (i : Instr) : List Byte → Parsed
  | [] => .command i
  | _ => .badLength

/-- A command of one argument byte. -/
def parseOne (f : Byte → Instr) : List Byte → Parsed
  | [x] => .command (f x)
  | _ => .badLength

/-- A command of two argument bytes. -/
def parseTwo (f : Byte → Byte → Instr) : List Byte → Parsed
  | [x, y] => .command (f x y)
  | _ => .badLength

/-- A command of three argument bytes. -/
def parseThree (f : Byte → Byte → Byte → Instr) : List Byte → Parsed
  | [x, y, z] => .command (f x y z)
  | _ => .badLength

/-- RUN accepts 0 or 4 argument bytes (R4). -/
def parseRun (l : Link) (cast : Addressing) : List Byte → Parsed
  | [] => .command (.run l cast none)
  | [b3, b2, b1, b0] => .command (.run l cast (some (word32 b3 b2 b1 b0)))
  | _ => .badLength

def parsePlanSet (l : Link) : List Byte → Parsed
  | [field, b3, b2, b1, b0] => .command (.planSet l field (word32 b3 b2 b1 b0))
  | _ => .badLength

def parseTcSet (l : Link) (cast : Addressing) : List Byte → Parsed
  | [h, m, s, f, base, drop] => .command (.tcSet l cast ⟨h, m, s, f⟩ base drop)
  | _ => .badLength

/-- TABLE_ENTRY accepts one length per count of breakpoints, 1 to 4 (R168, R182). -/
def parseTableEntry (l : Link) : List Byte → Parsed
  | eye :: axis :: first :: rest =>
    match parsePoints rest with
    | some points =>
      if 1 ≤ points.length ∧ points.length ≤ 4 then .command (.tableEntry l eye axis first points)
      else .badLength
    | none => .badLength
  | _ => .badLength

/-- The command that a message on link `l` spells (R168, R182, R183). -/
def parseMessage (l : Link) (cast : Addressing) (code : Byte) (args : List Byte) : Parsed :=
  match code.toNat with
  | 0x10 => parseRun l cast args
  | 0x11 => parseNone (.stop l cast) args
  | 0x12 => parseNone (.restart l cast) args
  | 0x13 => parseNone (.timingStatus l) args
  | 0x18 => parsePlanSet l args
  | 0x19 => parseNone (.planCommit l) args
  | 0x1A => parseNone (.planDiscard l) args
  | 0x1B => parseOne (.planGet l) args
  | 0x20 => parseNone (.pairStatus l) args
  | 0x24 => parseTcSet l cast args
  | 0x25 => parseNone (.tcGet l) args
  | 0x28 => parseNone (.logAttach l) args
  | 0x29 => parseNone (.logDetach l) args
  | 0x2A => parseOne (.logRead l) args
  | 0x2B => parseNone (.logStatus l) args
  | 0x30 => parseTwo (fun x y => .eventMask l (word16 x y)) args
  | 0x31 => parseNone (.eventRead l) args
  | 0x32 => parseNone (.identify l) args
  | 0x38 => parseTwo (.tableBegin l) args
  | 0x39 => parseTableEntry l args
  | 0x3A => parseTwo (.tableEnd l) args
  | 0x3B => parseTwo (.tableAbort l) args
  | 0x3C => parseThree (.tableRead l) args
  | 0x40 => parseTwo (.lensSource l) args
  | 0x41 => parseThree (fun x v1 v0 => .lensDemand l x (word16 v1 v0)) args
  | 0x42 =>
    match args with
    | [eye, axis, t1, t0] => .command (.lensTrim l eye axis (word16 t1 t0))
    | _ => .badLength
  | 0x43 =>
    match args with
    | [axis, t1, t0, settle] => .command (.lensTol l axis (word16 t1 t0) settle)
    | _ => .badLength
  | 0x44 => parseThree (.lensDrive l) args
  | 0x45 => parseOne (.lensRun l) args
  | 0x46 => parseNone (.lensStatus l) args
  | _ => .badCode

/-- The four commands taken by broadcast (R172). -/
def Instr.broadcasts : Instr → Bool
  | .run _ _ _ => true
  | .stop _ _ => true
  | .restart _ _ => true
  | .tcSet _ _ _ _ _ => true
  | _ => false

/-! ### The message of a command -/

/-- The two bytes of a 16-bit field. -/
def split16 (w : BitVec 16) : List Byte := [w.extractLsb' 8 8, w.extractLsb' 0 8]

/-- The four bytes of a 32-bit field. -/
def split32 (w : BitVec 32) : List Byte :=
  [w.extractLsb' 24 8, w.extractLsb' 16 8, w.extractLsb' 8 8, w.extractLsb' 0 8]

/-- A complete message but for its lead, length and check byte. -/
structure Message where
  l    : Link
  cast : Addressing
  code : Byte
  args : List Byte
  deriving DecidableEq, Repr

/-- The message that spells a link command (R182); the part's own events have none. -/
def Instr.message : Instr → Option Message
  | .run l cast none => some ⟨l, cast, 0x10, []⟩
  | .run l cast (some n) => some ⟨l, cast, 0x10, split32 n⟩
  | .stop l cast => some ⟨l, cast, 0x11, []⟩
  | .restart l cast => some ⟨l, cast, 0x12, []⟩
  | .timingStatus l => some ⟨l, .unicast, 0x13, []⟩
  | .planSet l field value => some ⟨l, .unicast, 0x18, field :: split32 value⟩
  | .planCommit l => some ⟨l, .unicast, 0x19, []⟩
  | .planDiscard l => some ⟨l, .unicast, 0x1A, []⟩
  | .planGet l which => some ⟨l, .unicast, 0x1B, [which]⟩
  | .pairStatus l => some ⟨l, .unicast, 0x20, []⟩
  | .tcSet l cast v base drop =>
    some ⟨l, cast, 0x24, [v.hours, v.minutes, v.seconds, v.frames, base, drop]⟩
  | .tcGet l => some ⟨l, .unicast, 0x25, []⟩
  | .logAttach l => some ⟨l, .unicast, 0x28, []⟩
  | .logDetach l => some ⟨l, .unicast, 0x29, []⟩
  | .logRead l maximum => some ⟨l, .unicast, 0x2A, [maximum]⟩
  | .logStatus l => some ⟨l, .unicast, 0x2B, []⟩
  | .eventMask l mask => some ⟨l, .unicast, 0x30, split16 mask⟩
  | .eventRead l => some ⟨l, .unicast, 0x31, []⟩
  | .identify l => some ⟨l, .unicast, 0x32, []⟩
  | .tableBegin l eye axis => some ⟨l, .unicast, 0x38, [eye, axis]⟩
  | .tableEntry l eye axis first points =>
    some ⟨l, .unicast, 0x39,
      eye :: axis :: first :: (points.map fun p => split16 p.1 ++ split16 p.2).flatten⟩
  | .tableEnd l eye axis => some ⟨l, .unicast, 0x3A, [eye, axis]⟩
  | .tableAbort l eye axis => some ⟨l, .unicast, 0x3B, [eye, axis]⟩
  | .tableRead l eye axis index => some ⟨l, .unicast, 0x3C, [eye, axis, index]⟩
  | .lensSource l axis source => some ⟨l, .unicast, 0x40, [axis, source]⟩
  | .lensDemand l axis value => some ⟨l, .unicast, 0x41, axis :: split16 value⟩
  | .lensTrim l eye axis trim => some ⟨l, .unicast, 0x42, eye :: axis :: split16 trim⟩
  | .lensTol l axis tolerance settle => some ⟨l, .unicast, 0x43, axis :: (split16 tolerance ++ [settle])⟩
  | .lensDrive l eye axis drive => some ⟨l, .unicast, 0x44, [eye, axis, drive]⟩
  | .lensRun l mode => some ⟨l, .unicast, 0x45, [mode]⟩
  | .lensStatus l => some ⟨l, .unicast, 0x46, []⟩
  | .pinReset | .resetRelease _ _ | .receiveCharacter _ _ _ | .messageReceived _ _
  | .interCharacterTimeout _ | .replySent _ | .planEditLapse | .planApply | .timecodePendingApply
  | .tableLapse _ _ | .scheduleBoundary | .refPulse _ | .refAbsenceExpiry _ | .returnEdge _
  | .leftReturnLapse | .triggerDecision _ | .triggerPulseEnd _ | .synthReturn _ | .slotDeadline _
  | .reachStopped | .arbiterGrant | .burstEnd | .scanDue | .conversionsDone _ => none

end Sys2Proof
end

