-- ==== Sys2Proof/Config.lean ====
section
/-!
DEFINITION. What the spec leaves open, as constants without a body (nothing can be proved of their
values), and the fixed times the spec gives by number.
-/

namespace Sys2Proof

/-- Free value (log 14): whether a reply formed in an event that also changes its link's pending set or mask
shows the change in its EVT bit (R170 fixes the bit only "at the moment the byte is formed").
Arguments: the timebase, the link. -/
opaque Config.evtDuringEvent : Nat → Link → Bool

/-- Free value (log 15): the code of analog input `j` (0..8, in the order of R143) converted by the scan
that started at the given time, in the 200 ticks R143 gives it. Arguments: the start time, `j`. -/
opaque Config.analogInput : Nat → Nat → BitVec 12

/-- Free value (log 7): which of several events due at one instant is taken first. Arguments: the
timebase, how many are due. -/
opaque Config.tiePick : Nat → Nat → Nat

/-- The lapse time of a held STAGED plan (R28) and of a table being loaded (R119): 2.000 s. -/
def Config.lapseTicks : Nat := 20000000

/-- The inter-character timeout, 5 ms (R166), counted in ticks (log 9). -/
def Config.interCharacterTicks : Nat := 50000

/-- Ticks from one scan's due time to the next (R140). -/
def Config.scanTicks : Nat := 10000

/-- Ticks of one conversion of a scan (R143). -/
def Config.conversionTicks : Nat := 200

/-- The conversions of a scan (R143). -/
def Config.conversionCount : Nat := 9

/-- Words of Record Memory (R150). -/
def Config.memoryWords : Nat := 2048

end Sys2Proof
end

