-- ==== Sys2Proof/Machine/State.lean ====
section
/-!
DEFINITION. The state of the FL-4120, block by block as the spec's chapters own it, as plain data; the
reasons a step can stop; and the state after pin reset, at the instant RESET# is released.
-/

namespace Sys2Proof.Machine

/-! ### Frame Timing Unit -/

inductive RunState
  | stopped | running | draining
  deriving DecidableEq, Repr

/-- The seven reference states (1.5). -/
inductive RefState
  | free | seeking | lockedA | lockedB | lockedL | holdover | loop
  deriving DecidableEq, Repr

/-- Qualification of a reference input (R9). -/
inductive InputState
  | absent | qualifying | good
  deriving DecidableEq, Repr

/-- A reference input: its qualification, count 0..8, last-pulse time and absence deadline (R9). The spec gives an
ABSENT input no deadline; the model holds none there (log 35). -/
structure RefInput where
  state     : InputState
  count     : Nat
  lastPulse : Option Time
  deadline  : Option Time
  deriving DecidableEq, Repr

inductive RampHold
  | angle | time
  deriving DecidableEq, Repr

/-- The ramp in progress (R41): `frames` is K, `index` is j of the current ramp frame. -/
structure Ramp where
  frames : Nat
  p0     : Nat
  p1     : Nat
  hold   : RampHold
  eStart : Nat
  index  : Nat
  deriving DecidableEq, Repr

/-- The current frame of the run and the values fixed for it at its boundary (R2, R26): `offset` is the
eye offset D; `raised` says R43 raised the period, `clamped` that E differs from E_raw (R45). -/
structure Frame where
  start    : Time
  number   : BitVec 32
  period   : Nat
  exposure : Nat
  offset   : Int
  isRamp   : Bool
  raised   : Bool
  clamped  : Bool
  deriving DecidableEq, Repr

/-- The two steps of a re-phase (R16). -/
inductive RephaseStep
  | first | second
  deriving DecidableEq, Repr

/-- The Frame Timing Unit (R24). `next` is the scheduled boundary time N; `frame` is absent before the
first boundary of a run; `runStart` is the time the present run's RUN was taken (R19). -/
structure Timing where
  timebase   : Time
  run        : RunState
  next       : Option Time
  acc        : Nat
  ramp       : Option Ramp
  refState   : RefState
  lockHeld   : Bool
  inputs     : PerRef RefInput
  rephase    : Option RephaseStep
  pairNumber : BitVec 32
  frame      : Option Frame
  runStart   : Option Time
  deriving DecidableEq, Repr

/-! ### Plan Unit -/

inductive Dir
  | down | up
  deriving DecidableEq, Repr

inductive RefMode
  | internal | external | followLeft | loop
  deriving DecidableEq, Repr

/-- The fourteen plan fields (2.1). -/
structure Plan where
  rateNum   : Nat
  rateDen   : Nat
  angle     : Nat
  gap       : Nat
  rampLen   : Nat
  rampHold  : RampHold
  alignLine : Nat
  readoutL  : Nat
  readoutR  : Nat
  dirL      : Dir
  dirR      : Dir
  skewTol   : Nat
  refMode   : RefMode
  loopSkew  : Int
  deriving DecidableEq, Repr

inductive StagedState
  | free | editing | committing
  deriving DecidableEq, Repr

/-- The Plan Unit (R25, R28). -/
structure PlanUnit where
  active     : Plan
  staged     : Plan
  stage      : StagedState
  editor     : Option Link
  lapse      : Option Time
  generation : BitVec 8
  deriving DecidableEq, Repr

/-! ### Trigger and Return Unit -/

inductive Treatment
  | driven | virtual
  deriving DecidableEq, Repr

/-- The most recent trigger issued for an eye (R48). -/
structure Pulse where
  slot  : BitVec 32
  start : Time
  stop  : Time
  deriving DecidableEq, Repr

/-- An armed trigger not yet decided (R48). -/
structure Entry where
  slot      : BitVec 32
  time      : Time
  treatment : Treatment
  exposure  : Nat
  loopSkew  : Int
  deriving DecidableEq, Repr

/-- One eye's trigger output (R48): `active` is the line state, `waiting` the pending list. -/
structure EyeTrigger where
  active    : Bool
  lastPulse : Option Pulse
  waiting   : List Entry
  deriving DecidableEq, Repr

/-- The Trigger and Return Unit (R48, R58): `synth` holds the times of the synthesised returns to come. -/
structure TriggerUnit where
  eyes  : PerEye EyeTrigger
  synth : PerEye (List Time)
  deriving DecidableEq, Repr

/-! ### Pair Matcher -/

inductive MatchState
  | unchecked | matched | mismatched
  deriving DecidableEq, Repr

/-- One axis kind of a lens snapshot (R69). -/
structure AxisSnapshot where
  demand : Nat
  state  : MatchState
  deriving DecidableEq, Repr

inductive SlotStatus
  | collecting | closedWaiting
  deriving DecidableEq, Repr

inductive Outcome
  | paired | skewed | leftOnly | rightOnly | missed
  deriving DecidableEq, Repr

/-- A slot of the open-slot table (R66), its times the full 48 bits, as R66's own words give; where R56 says that
slots receive the low 32 bits, the record alone does (log 37). `armed` holds the time of an eye's entry not yet
decided, and the eye's trigger is pending while that stands with no trigger time filled (R67); `issued` says that the
eye's trigger was issued in the slot, and `followLeft` that the mode at its boundary was FOLLOW_LEFT (R59); the status
OPEN is `collecting`. -/
structure Slot where
  number      : BitVec 32
  start       : Time
  generation  : BitVec 8
  period      : Nat
  exposure    : Nat
  skewTol     : Nat
  trigger     : PerEye (Option Time)
  armed       : PerEye (Option Time)
  issued      : PerEye Bool
  returned    : PerEye (Option Time)
  deadline    : Time
  isRamp      : Bool
  expClamp    : Bool
  offsetClamp : Bool
  snapshot    : PerAxis AxisSnapshot
  stamp       : Timecode
  dropMark    : Bool
  refState    : RefState
  followLeft  : Bool
  status      : SlotStatus
  outcome     : Option Outcome
  deriving DecidableEq, Repr

/-- A pair record (R80). -/
structure PairRecord where
  outcome     : Outcome
  isRamp      : Bool
  expClamp    : Bool
  offsetClamp : Bool
  number      : BitVec 32
  stamp       : Timecode
  dropMark    : Bool
  generation  : BitVec 8
  refState    : RefState
  period      : Nat
  exposure    : Nat
  leftReturn  : Option (BitVec 32)
  rightReturn : Option (BitVec 32)
  skew        : Option Int
  lens        : PerAxis AxisSnapshot
  deriving DecidableEq, Repr

inductive Presence
  | unknown | present | lost
  deriving DecidableEq, Repr

/-- What the Pair Matcher keeps of an eye (R59, R63). -/
structure EyeState where
  presence : Presence
  miss     : Nat
  hit      : Nat
  stray    : Nat
  deriving DecidableEq, Repr

structure Matcher where
  slots : List Slot
  queue : List PairRecord
  eyes  : PerEye EyeState
  deriving DecidableEq, Repr

/-! ### Timecode Counter -/

/-- A pending TC_SET (R84): `owed` is the link a reply is owed to, absent for a broadcast. -/
structure PendingTimecode where
  value : Timecode
  base  : Nat
  drop  : Bool
  owed  : Option Link
  deriving DecidableEq, Repr

structure TimecodeCounter where
  current   : Timecode
  base      : Nat
  drop      : Bool
  waiting   : Option PendingTimecode
  firstMark : Bool
  deriving DecidableEq, Repr

/-! ### Pair Log -/

/-- One link's place in the log (R99). -/
structure Reader where
  attached : Bool
  cursor   : BitVec 32
  gap      : Nat
  deriving DecidableEq, Repr

/-- The ring's two numbers (R96) and the readers. -/
structure PairLog where
  next    : BitVec 32
  count   : Nat
  readers : PerLink Reader
  deriving DecidableEq, Repr

/-! ### Lens Control Unit -/

/-- Where an axis kind's demand comes from (R129). -/
inductive Source
  | link (l : Link)
  | wheel
  deriving DecidableEq, Repr

structure AxisState where
  demand    : Nat
  requested : Nat
  source    : Source
  tolerance : Nat
  settle    : Nat
  matching  : MatchState
  deriving DecidableEq, Repr

inductive HoldReason
  | noTable | loading | fault | scanOff
  deriving DecidableEq, Repr

inductive ChannelStatus
  | off
  | hold (reason : HoldReason)
  | settling
  | tracking
  | offTrack
  deriving DecidableEq, Repr

/-- A lens channel (R133). -/
structure Channel where
  trim    : Int
  drive   : Bool
  target  : Nat
  output  : Nat
  encoder : BitVec 12
  status  : ChannelStatus
  counter : Nat
  sat     : Bool
  deriving DecidableEq, Repr

inductive TableState
  | empty | loading | valid | invalid | faulted
  deriving DecidableEq, Repr

/-- A calibration table (R110); `demands` is the unit's own demand list of 32 values. -/
structure Table where
  state   : TableState
  count   : Nat
  loader  : Option Link
  lapse   : Option Time
  demands : List (BitVec 16)
  deriving DecidableEq, Repr

inductive ScanMode
  | off | free | frame
  deriving DecidableEq, Repr

inductive ScanStage
  | conversions | target
  deriving DecidableEq, Repr

/-- A target computed in a scan, with its SAT mark (R124). -/
structure Computed where
  target : Nat
  sat    : Bool
  deriving DecidableEq, Repr

/-- The scan in progress (R138): `made` holds the codes of the conversions made so far, in the order of R143;
then the demands formed, the targets computed, the parity failures held (R125), and the channels the target stage
has still to reach. -/
structure Scan where
  start     : Time
  stage     : ScanStage
  made      : List (BitVec 12)
  demands   : PerAxis Nat
  computed  : PerChannel (Option Computed)
  failed    : PerChannel Bool
  remaining : List ChannelId
  deriving DecidableEq, Repr

structure LensUnit where
  axes        : PerAxis AxisState
  channels    : PerChannel Channel
  tables      : PerChannel Table
  mode        : ScanMode
  scan        : Option Scan
  nextDue     : Option Time
  conversions : Conversions
  deriving DecidableEq, Repr

/-! ### Record Memory and Arbiter -/

/-- A word of Record Memory: 16 data bits, and the parity bit as bit 16 (R150). -/
abbrev MemWord := BitVec 17

/-- Record Memory as the list of its words that are not 0000H with good parity: addresses strictly
rising, no listed word equal to what an unlisted address reads as, which is 0 (log 1). -/
abbrev Memory := List (Nat × MemWord)

/-- The access of one link command (R154). -/
inductive LinkRequest
  | logRead (maximum : Nat)
  | tableEntry (c : ChannelId) (first : Nat) (points : List (BitVec 16 × BitVec 16))
  | tableRead (c : ChannelId) (index : Nat)
  deriving DecidableEq, Repr

/-- The Lens Control Unit's request for one segment, `lower` its lower breakpoint (R121, R122). -/
structure SegmentRequest where
  channel : ChannelId
  lower   : Nat
  deriving DecidableEq, Repr

/-- Who holds the memory, with what was fixed at the grant (R103, R120, R121, R124). A segment read is
`live` until its scan is abandoned (R142). -/
inductive Holder
  | sweep
  | record
  | segment (c : ChannelId) (lower : Nat) (trim : Int) (live : Bool)
  | logRead (l : Link) (gap : Nat) (start : BitVec 32) (k : Nat)
  | tableEntry (l : Link) (c : ChannelId) (first : Nat) (points : List (BitVec 16 × BitVec 16))
  | tableRead (l : Link) (c : ChannelId) (index : Nat) (state : TableState) (count : Nat)
  deriving DecidableEq, Repr

/-- The burst under way: its length, the words still to come, and the words read so far, in order. -/
structure Burst where
  holder : Holder
  length : Nat
  left   : Nat
  got    : List MemWord
  deriving DecidableEq, Repr

/-- Record Memory and its Arbiter (R154); `port` is absent while the memory is FREE. The Pair Matcher's
request is its write queue being non-empty, and is not held twice. -/
structure RecordMemory where
  words        : Memory
  port         : Option Burst
  lensRequest  : Option SegmentRequest
  linkRequests : PerLink (Option LinkRequest)
  lastServed   : Link
  deriving DecidableEq, Repr

/-! ### Station Links and Event Unit -/

inductive ReceiverState
  | idle | addressed | body | executing | replying
  deriving DecidableEq, Repr

/-- A set of event kinds, one bit for each of the thirteen kinds (R175, R181). -/
abbrev EventSet := BitVec 13

/-- A station link with its part of the Event Unit (10.3, R175): `tx` holds the characters of the reply
under way and `txDone` the instant its last character has gone. -/
structure LinkState where
  state      : ReceiverState
  addressing : Addressing
  buffer     : List Byte
  timer      : Option Time
  ovr        : Bool
  tx         : List (BitVec 9)
  txDone     : Option Time
  events     : EventSet
  mask       : EventSet
  deriving DecidableEq, Repr

/-- RESET# and the strap levels sampled at its last release (R161). -/
structure Pins where
  resetAsserted : Bool
  sel           : BitVec 4
  rate          : BitVec 2
  deriving DecidableEq, Repr

/-- The whole part, with the queue of commands waiting and the order in which ties are taken (log 7). -/
structure State where
  pending    : List Instr
  pins       : Pins
  timing     : Timing
  plan       : PlanUnit
  trig       : TriggerUnit
  matcher    : Matcher
  tc         : TimecodeCounter
  log        : PairLog
  lens       : LensUnit
  memory     : RecordMemory
  links      : PerLink LinkState
  tieChoices : List Nat
  deriving DecidableEq, Repr

/-- Why a step can fault. -/
inductive Fault
  /-- Raised by a tick whose burst would form an address above 7FFH, which R150 says does not exist.
  Safe: the model stops; no run from reset reaches it (log 28). -/
  | noSuchAddress
  deriving DecidableEq, Repr

/-- Why a step can be refused. -/
inductive Refusal
  /-- Raised by an arm of `exec` whose command has no meaning yet. Safe; no arm uses it. -/
  | notModelled (mnemonic : String)
  deriving DecidableEq, Repr

/-! ### Values after pin reset -/

/-- The pin-reset column of the plan field table (2.1). -/
def Plan.pinReset : Plan where
  rateNum := 24000
  rateDen := 1000
  angle := 1800
  gap := 1000
  rampLen := 0
  rampHold := .angle
  alignLine := 500
  readoutL := 0
  readoutR := 0
  dirL := .down
  dirR := .down
  skewTol := 100
  refMode := .internal
  loopSkew := 0

/-- R24. Neither input has an absence deadline (log 35). -/
def Timing.pinReset : Timing where
  timebase := 0
  run := .stopped
  next := none
  acc := 0
  ramp := none
  refState := .free
  lockHeld := false
  inputs := PerRef.build fun _ => ⟨.absent, 0, none, none⟩
  rephase := none
  pairNumber := 0
  frame := none
  runStart := none

/-- R25, R34. -/
def PlanUnit.pinReset : PlanUnit := ⟨.pinReset, .pinReset, .free, none, none, 0⟩

/-- R64. -/
def TriggerUnit.pinReset : TriggerUnit :=
  ⟨PerEye.build fun _ => ⟨false, none, []⟩, PerEye.build fun _ => []⟩

/-- R64, R83. -/
def Matcher.pinReset : Matcher := ⟨[], [], PerEye.build fun _ => ⟨.unknown, 0, 0, 0⟩⟩

/-- R95. -/
def TimecodeCounter.pinReset : TimecodeCounter := ⟨⟨0, 0, 0, 0⟩, 24, false, none, false⟩

/-- R109. -/
def PairLog.pinReset : PairLog := ⟨0, 0, PerLink.build fun _ => ⟨false, 0, 0⟩⟩

/-- Every conversion reads 0 before any scan has completed (R148). -/
def noConversions : Conversions := ⟨channelBuild fun _ => 0, PerAxis.build fun _ => 0⟩

/-- R128, R129, R149. -/
def LensUnit.pinReset : LensUnit where
  axes := PerAxis.build fun _ => ⟨0, 0, .wheel, 64, 50, .unchecked⟩
  channels := channelBuild fun _ => ⟨0, false, 0, 0, 0, .off, 0, false⟩
  tables := channelBuild fun _ => ⟨.empty, 0, none, none, List.replicate 32 0⟩
  mode := .off
  scan := none
  nextDue := none
  conversions := noConversions

/-- The burst of the initialization sweep at its grant (R153). -/
def Burst.sweep : Burst := ⟨.sweep, Config.memoryWords, Config.memoryWords, []⟩

/-- R160: FREE until RESET# is released, with no request waiting. -/
def RecordMemory.pinReset (words : Memory) : RecordMemory :=
  ⟨words, none, none, PerLink.build fun _ => none, .c⟩

/-- R179. -/
def LinkState.pinReset : LinkState := ⟨.idle, .unicast, [], none, false, [], none, 0, 0⟩

/-- The part at the instant RESET# is released: every block at its pin-reset values, the timebase at 0,
the straps sampled as 0 (log 3), and the sweep granted at timebase 0 (R153). -/
def State.reset : State where
  pending := []
  pins := ⟨false, 0, 0⟩
  timing := .pinReset
  plan := .pinReset
  trig := .pinReset
  matcher := .pinReset
  tc := .pinReset
  log := .pinReset
  lens := .pinReset
  memory := { RecordMemory.pinReset [] with port := some .sweep }
  links := PerLink.build fun _ => .pinReset
  tieChoices := []

end Sys2Proof.Machine
end

