-- ==== Sys2Proof/Machine/Reset.lean ====
section
/-!
DEFINITION. The two reset commands. They alone act while RESET# is asserted.
-/

namespace Sys2Proof.Machine

/-- The part with RESET# asserted: every block at its pin-reset values, every burst, reply and waiting
request ended without trace (R24, R159, R179). The words of Record Memory stand until the sweep rewrites
them (R151), and the straps' sampled levels until the release. -/
def assertReset (s : State) : State :=
  { State.reset with
    pending := s.pending
    pins := { s.pins with resetAsserted := true }
    memory := .pinReset s.memory.words
    tieChoices := s.tieChoices }

/-- RESET# released: the straps are sampled, the timebase counts from 0, and the sweep is granted (R153, R161). -/
def releaseReset (sel : BitVec 4) (rate : BitVec 2) (s : State) : State :=
  { s with
    pins := ⟨false, sel, rate⟩
    timing := { s.timing with timebase := 0 }
    memory := { s.memory with port := some .sweep } }

/-- PIN_RESET (R24). -/
def execPinReset (s : State) : Host.Outcome State Fault Refusal := .next (assertReset s)

/-- RESET_RELEASE; a pin that is not asserted cannot be released (R153, log 8). -/
def execResetRelease (sel : BitVec 4) (rate : BitVec 2) (s : State) : Host.Outcome State Fault Refusal :=
  .next (if s.pins.resetAsserted then releaseReset sel rate s else s)

end Sys2Proof.Machine
end

