-- ==== Sys2Proof/Machine/Ops.lean ====
section
/-!
DEFINITION. The operations every block shares: rounding and times, byte layouts, Record Memory with its
parity, updates of one link, and the reply.
-/

namespace Sys2Proof.Machine

/-! ### Arithmetic (Conventions) -/

/-- Round half up: floor((2n + d) / (2d)), a tie toward plus infinity for either sign (Conventions). -/
def roundHalfUp (n : Int) (d : Nat) : Int := (2 * n + d) / (2 * d)

/-- Saturate to `lo..hi` (Conventions). -/
def saturate (lo hi x : Int) : Int := if x < lo then lo else if hi < x then hi else x

/-- An increment that saturates at `m` (Conventions). -/
def bump (m n : Nat) : Nat := if n < m then n + 1 else m

/-! ### Times (R1): full 48-bit values compared as intervals (log 23) -/

/-- The ticks from `a` to `t`, modulo 2^48. -/
def since (a t : Time) : Nat := (t - a).toNat

/-- The time `n` ticks after `t`. -/
def later (t : Time) (n : Nat) : Time := t + BitVec.ofNat 48 n

/-- The timestamp of a time: its low 32 bits (Conventions, "Time"). -/
def timestamp (t : Time) : BitVec 32 := t.setWidth 32

/-- The timebase. -/
abbrev State.now (s : State) : Time := s.timing.timebase

/-! ### Byte layouts (chapter 11): most significant byte first -/

/-- `v` as `n` bytes, most significant first. -/
def bytesOf : Nat → Nat → List Byte
  | 0, _ => []
  | n + 1, v => BitVec.ofNat 8 (v / 256 ^ n) :: bytesOf n v

/-- A signed value as `n` bytes of two's complement. -/
def signedBytes (n : Nat) (v : Int) : List Byte := bytesOf n (v % (256 ^ n : Nat)).toNat

/-- An on/off code (R181). -/
def flagByte (b : Bool) : Byte := if b then 1 else 0

/-- The 16-bit words of a list of bytes, the first byte of each pair in the upper half (R184). -/
def wordsOf : List Byte → List (BitVec 16)
  | hi :: lo :: rest => (hi ++ lo) :: wordsOf rest
  | _ => []

/-- The two bytes of a word, upper half first (R184). -/
def wordBytes (w : BitVec 16) : List Byte := [w.extractLsb' 8 8, w.extractLsb' 0 8]

/-! ### Lists -/

/-- `xs` with its first element that meets `p` replaced by `f` of it. -/
def updateFirst {α : Type} (p : α → Bool) (f : α → α) : List α → List α
  | [] => []
  | x :: xs => if p x then f x :: xs else x :: updateFirst p f xs

/-! ### Record Memory (R150 to R152) -/

/-- The parity of the 17 bits of a word: true when the number of ones is odd. -/
def oddOnes (w : MemWord) : Bool := (List.range 17).foldl (fun odd i => odd ^^ w.getLsbD i) false

/-- A read word passes its check when its 17 bits hold an even number of ones (R152). -/
def passes (w : MemWord) : Bool := !oddOnes w

/-- The word stored by a write of 16 data bits: the parity bit makes the number of ones even (R151). -/
def withParity (d : BitVec 16) : MemWord :=
  let data : MemWord := d.setWidth 17
  if oddOnes data then data ||| (1#17 <<< 16) else data

/-- The 16 data bits of a word, handed on as they stand (R152). -/
def wordData (w : MemWord) : BitVec 16 := w.setWidth 16

/-- The word at an address; an unlisted address reads 0000H with good parity (log 1). -/
def Memory.read : Memory → Nat → MemWord
  | [], _ => 0
  | (k, w) :: m, a => if k = a then w else Memory.read m a

/-- The word `w` put in front of `m` at address `a`, unless it is what an unlisted address reads as. -/
def Memory.link (a : Nat) (w : MemWord) (m : Memory) : Memory := if w = 0 then m else (a, w) :: m

/-- `m` with the word at address `a` replaced; the canonical form is kept. -/
def Memory.write : Memory → Nat → MemWord → Memory
  | [], a, w => Memory.link a w []
  | (k, v) :: m, a, w =>
    if a < k then Memory.link a w ((k, v) :: m)
    else if k = a then Memory.link a w m
    else (k, v) :: Memory.write m a w

/-- Every address of `m` is above `lo`, rising, and no listed word is 0. -/
def Memory.wfAbove : Option Nat → Memory → Bool
  | _, [] => true
  | lo, (k, w) :: m =>
    (match lo with
      | none => true
      | some b => decide (b < k)) && decide (w ≠ 0) && Memory.wfAbove (some k) m

/-- The canonical form: addresses strictly rising, no word listed that an unlisted address reads as. -/
def Memory.wf (m : Memory) : Bool := Memory.wfAbove none m

/-! ### One link, and all links -/

/-- The state with link `l` changed by `f`. -/
def State.onLink (l : Link) (f : LinkState → LinkState) (s : State) : State :=
  { s with links := s.links.set l (f (s.links.get l)) }

/-- The state with every link changed by `f`. -/
def State.onLinks (f : Link → LinkState → LinkState) (s : State) : State :=
  { s with links := PerLink.build fun l => f l (s.links.get l) }

/-! ### Replies (R170) -/

/-- The status codes (10.7). -/
inductive Status
  | ok | chk | code | len | val | held | state | plan | par | tbl | src | pend | abrt
  deriving DecidableEq, Repr

/-- The numeric status codes of R180. -/
def Status.number : Status → BitVec 6
  | .ok => 0
  | .chk => 1
  | .code => 2
  | .len => 3
  | .val => 4
  | .held => 5
  | .state => 6
  | .plan => 7
  | .par => 8
  | .tbl => 9
  | .src => 10
  | .pend => 11
  | .abrt => 12

/-- The status byte: bits 0..5 the code, bit 6 EVT, bit 7 OVR (R180). -/
def statusByte (st : Status) (evt ovr : Bool) : Byte :=
  BitVec.ofBool ovr ++ (BitVec.ofBool evt ++ st.number)

/-- The unit code, 50H + SEL (R161). -/
def State.unitCode (s : State) : Byte := 0x50 + s.pins.sel.setWidth 8

/-- The sum of bytes modulo 256. -/
def byteSum (bs : List Byte) : Byte := bs.foldr (· + ·) 0

/-- A lead character carrying a byte: the ninth bit is 1 (R162). -/
def leadCharacter (b : Byte) : BitVec 9 := 1#1 ++ b

/-- A body character carrying a byte: the ninth bit is 0 (R162). -/
def bodyCharacter (b : Byte) : BitVec 9 := 0#1 ++ b

/-- The characters of a reply in sending order (R170, R180). -/
def replyCharacters (unit status : Byte) (data : List Byte) : List (BitVec 9) :=
  let body := status :: BitVec.ofNat 8 data.length :: data
  leadCharacter unit :: (body ++ [0 - byteSum body]).map bodyCharacter

/-- The strapped bit rate in bit/s (R161). -/
def bitRate (rate : BitVec 2) : Nat :=
  match rate.toNat with
  | 0 => 57600
  | 1 => 115200
  | 2 => 460800
  | _ => 921600

/-- The ticks, rounded up, that `n` characters of eleven bits take at the strapped rate (R161, log 9). -/
def characterTicks (rate : BitVec 2) (n : Nat) : Nat :=
  (n * 11 * 10000000 + bitRate rate - 1) / bitRate rate

/-- The condition of EVT and of the attention line: a pending kind that the mask lets through (R170, R178). -/
def LinkState.attention (x : LinkState) : Bool := x.events &&& x.mask != 0

/-- The reply is formed with this EVT bit: OVR is taken into the status byte and cleared, the receiver
becomes REPLYING and sending begins (R169, R170). -/
def replyWith (l : Link) (st : Status) (data : List Byte) (evt : Bool) (s : State) : State :=
  s.onLink l fun x =>
    { x with
      state := .replying
      buffer := []
      timer := none
      tx := replyCharacters s.unitCode (statusByte st evt x.ovr) data
      txDone := some (later s.now (characterTicks s.pins.rate (data.length + 4)))
      ovr := false }

/-- The reply formed on the state as it stands. -/
def reply (l : Link) (st : Status) (data : List Byte) (s : State) : State :=
  replyWith l st data (s.links.get l).attention s

/-- The reply formed in an event that began in state `before` and has by now changed the link's pending set or
mask: where the two show the same EVT bit it is that bit, and otherwise it is the free value (log 14). -/
def replyDuring (before : State) (l : Link) (st : Status) (data : List Byte) (s : State) : State :=
  let old := (before.links.get l).attention
  let new := (s.links.get l).attention
  replyWith l st data (if old = new then new else Config.evtDuringEvent s.now.toNat l) s

/-- The answer of an owner to a command: a reply, or nothing for a broadcast (R172). -/
def answer (l : Link) (cast : Addressing) (st : Status) (data : List Byte) (s : State) : State :=
  match cast with
  | .unicast => reply l st data s
  | .broadcast => s

/-- The answer formed in an event that also moves pending sets (log 14). -/
def answerDuring (before : State) (l : Link) (cast : Addressing) (st : Status) (data : List Byte)
    (s : State) : State :=
  match cast with
  | .unicast => replyDuring before l st data s
  | .broadcast => s

/-- The receiver is executing a command or sending a reply. -/
def LinkState.busy (x : LinkState) : Bool := x.state == .executing || x.state == .replying

/-- A complete command of link `l` reaches its owner. A unicast one makes the receiver EXECUTING, a
broadcast one leaves it IDLE (R168, R172). On a busy link the message's characters are discarded
instead, and set the OVR mark (R169, log 10). -/
def handOver (l : Link) (cast : Addressing) (owner : State → State) (s : State) : State :=
  if (s.links.get l).busy then s.onLink l fun x => { x with ovr := true }
  else
    owner (s.onLink l fun x =>
      { x with
        state := match cast with
          | .unicast => .executing
          | .broadcast => .idle
        addressing := cast
        buffer := []
        timer := none })

/-- Everything the part does, it does with RESET# released: while it is asserted only the two reset
commands act (R24, R179, log 4). -/
def live (s : State) (f : State → State) : Host.Outcome State Fault Refusal :=
  .next (if s.pins.resetAsserted then s else f s)

end Sys2Proof.Machine
end

