-- ==== Sys2Proof/Machine/Flags.lean ====
section
/-!
DEFINITION. The Event Unit's flags: the thirteen event kinds, posting, and the LOG_READY level condition.
-/

namespace Sys2Proof.Machine

/-- The thirteen kinds of R175. -/
inductive EventKind
  | logReady | logGap | planApplied | planLapsed | tableLapsed | refChange | eyeLost | eyeBack
  | lensMismatch | tableFault | linkFault | strayReturn | timingStopped
  deriving DecidableEq, Repr

/-- The bit of the event set that stands for a kind (R181). -/
def EventKind.bit : EventKind → Nat
  | .logReady => 0
  | .logGap => 1
  | .planApplied => 2
  | .planLapsed => 3
  | .tableLapsed => 4
  | .refChange => 5
  | .eyeLost => 6
  | .eyeBack => 7
  | .lensMismatch => 8
  | .tableFault => 9
  | .linkFault => 10
  | .strayReturn => 11
  | .timingStopped => 12

/-- The event set that holds this kind alone. -/
def EventKind.mask (k : EventKind) : EventSet := 1#13 <<< k.bit

/-- Whether a set holds a kind. -/
def holds (e : EventSet) (k : EventKind) : Bool := e.getLsbD k.bit

/-- Post a kind to one link (R175). -/
def post (k : EventKind) (l : Link) (s : State) : State :=
  s.onLink l fun x => { x with events := x.events ||| k.mask }

/-- Post a kind to all links (R175). -/
def postAll (k : EventKind) (s : State) : State :=
  s.onLinks fun _ x => { x with events := x.events ||| k.mask }

/-- The unread count of a link: from its cursor up to the next LSN (R99). -/
def PairLog.unread (g : PairLog) (l : Link) : Nat := (g.next - (g.readers.get l).cursor).toNat

/-- The LOG_READY condition: attached, with records unread (R107). -/
def PairLog.ready (g : PairLog) (l : Link) : Bool :=
  (g.readers.get l).attached && decide (0 < g.unread l)

/-- A pending set that shows LOG_READY exactly as its condition stands (R175). -/
def showReady (ready : Bool) (e : EventSet) : EventSet :=
  if ready then e ||| EventKind.logReady.mask else e &&& ~~~EventKind.logReady.mask

/-- The LOG_READY condition of one link is re-formed and shown in its pending set (R107). -/
def reformReady (l : Link) (s : State) : State :=
  s.onLink l fun x => { x with events := showReady (s.log.ready l) x.events }

/-- The LOG_READY conditions of all links are re-formed. -/
def reformReadyAll (s : State) : State :=
  s.onLinks fun l x => { x with events := showReady (s.log.ready l) x.events }

end Sys2Proof.Machine
end

