-- ==== Sys2Proof/Machine/Operands.lean ====
section
/-!
DEFINITION. The operand codes of R181 both ways, and the plan fields as PLAN_SET carries them (R25, R183).
-/

namespace Sys2Proof.Machine

/-! ### Codes read from arguments: absent where the code names no value -/

def eyeOfCode (b : Byte) : Option Eye :=
  match b.toNat with
  | 0 => some .left
  | 1 => some .right
  | _ => none

def axisOfCode (b : Byte) : Option Axis :=
  match b.toNat with
  | 0 => some .focus
  | 1 => some .iris
  | 2 => some .zoom
  | _ => none

/-- The lens channel, or table, named by an eye code and an axis code (R113, R134). -/
def channelOfCodes (eye axis : Byte) : Option ChannelId :=
  match eyeOfCode eye, axisOfCode axis with
  | some e, some x => some ⟨e, x⟩
  | _, _ => none

/-- The number of a lens channel in the fixed channel order: of its table (R150), and of its encoder among the
conversions (R143). -/
def tableNumber (c : ChannelId) : Nat :=
  (match c.eye with
    | .left => 0
    | .right => 3) +
  match c.axis with
  | .focus => 0
  | .iris => 1
  | .zoom => 2

def sourceOfCode (b : Byte) : Option Source :=
  match b.toNat with
  | 0 => some (.link .a)
  | 1 => some (.link .b)
  | 2 => some (.link .c)
  | 3 => some .wheel
  | _ => none

def boolOfCode (b : Byte) : Option Bool :=
  match b.toNat with
  | 0 => some false
  | 1 => some true
  | _ => none

def scanModeOfCode (b : Byte) : Option ScanMode :=
  match b.toNat with
  | 0 => some .off
  | 1 => some .free
  | 2 => some .frame
  | _ => none

/-! ### Codes sent in replies and records -/

def linkCode : Link → Byte
  | .a => 0
  | .b => 1
  | .c => 2

/-- The letter of a link in IDENTIFY's reply (R183). -/
def linkLetter : Link → Byte
  | .a => 0x41
  | .b => 0x42
  | .c => 0x43

/-- The editor in PLAN_GET's reply; FFH when absent (R181). -/
def editorCode : Option Link → Byte
  | none => 0xFF
  | some l => linkCode l

def RunState.code : RunState → Byte
  | .stopped => 0
  | .running => 1
  | .draining => 2

def RefState.code : RefState → Byte
  | .free => 0
  | .seeking => 1
  | .lockedA => 2
  | .lockedB => 3
  | .lockedL => 4
  | .holdover => 5
  | .loop => 6

def InputState.code : InputState → Byte
  | .absent => 0
  | .qualifying => 1
  | .good => 2

def StagedState.code : StagedState → Byte
  | .free => 0
  | .editing => 1
  | .committing => 2

def Presence.code : Presence → Byte
  | .unknown => 0
  | .present => 1
  | .lost => 2

def MatchState.code : MatchState → Byte
  | .unchecked => 0
  | .matched => 1
  | .mismatched => 2

def HoldReason.code : HoldReason → Byte
  | .noTable => 0x10
  | .loading => 0x11
  | .fault => 0x12
  | .scanOff => 0x13

def ChannelStatus.code : ChannelStatus → Byte
  | .off => 0
  | .settling => 1
  | .tracking => 2
  | .offTrack => 3
  | .hold r => r.code

def TableState.code : TableState → Byte
  | .empty => 0
  | .loading => 1
  | .valid => 2
  | .invalid => 3
  | .faulted => 4

def ScanMode.code : ScanMode → Byte
  | .off => 0
  | .free => 1
  | .frame => 2

def Source.code : Source → Byte
  | .link l => linkCode l
  | .wheel => 3

def Outcome.code : Outcome → Byte
  | .paired => 0
  | .skewed => 1
  | .leftOnly => 2
  | .rightOnly => 3
  | .missed => 4

/-- The outcome byte of a CORRUPT stub (R105, R181). -/
def corruptCode : Byte := 0x80

/-! ### Plan fields -/

/-- The value, when it lies in `lo..hi`, as a natural number. -/
def inRange (lo hi : Nat) (v : Int) : Option Nat :=
  if (lo : Int) ≤ v ∧ v ≤ hi then some v.toNat else none

def rampHoldOfValue (v : Int) : Option RampHold :=
  if v = 0 then some .angle else if v = 1 then some .time else none

def dirOfValue (v : Int) : Option Dir :=
  if v = 0 then some .down else if v = 1 then some .up else none

def refModeOfValue (v : Int) : Option RefMode :=
  if v = 0 then some .internal
  else if v = 1 then some .external
  else if v = 2 then some .followLeft
  else if v = 3 then some .loop
  else none

/-- The plan with field number `field` set to `v`, or nothing when the number or the value is out of
range (R25, R27 and the field table of 2.1). -/
def Plan.withField (p : Plan) (field : Nat) (v : Int) : Option Plan :=
  match field with
  | 1 => (inRange 1000 240000 v).map fun n => { p with rateNum := n }
  | 2 => (inRange 1000 1001 v).map fun n => { p with rateDen := n }
  | 3 => (inRange 1 3600 v).map fun n => { p with angle := n }
  | 4 => (inRange 0 100000 v).map fun n => { p with gap := n }
  | 5 => (inRange 0 255 v).map fun n => { p with rampLen := n }
  | 6 => (rampHoldOfValue v).map fun h => { p with rampHold := h }
  | 7 => (inRange 0 1000 v).map fun n => { p with alignLine := n }
  | 8 => (inRange 0 500000 v).map fun n => { p with readoutL := n }
  | 9 => (inRange 0 500000 v).map fun n => { p with readoutR := n }
  | 10 => (dirOfValue v).map fun d => { p with dirL := d }
  | 11 => (dirOfValue v).map fun d => { p with dirR := d }
  | 12 => (inRange 1 65535 v).map fun n => { p with skewTol := n }
  | 13 => (refModeOfValue v).map fun m => { p with refMode := m }
  | 14 => if -1000 ≤ v ∧ v ≤ 1000 then some { p with loopSkew := v } else none
  | _ => none

def RampHold.value : RampHold → Int
  | .angle => 0
  | .time => 1

def Dir.value : Dir → Int
  | .down => 0
  | .up => 1

def RefMode.value : RefMode → Int
  | .internal => 0
  | .external => 1
  | .followLeft => 2
  | .loop => 3

/-- Fields 1 to 14 of a plan in field order, as PLAN_GET sends them (R183). -/
def Plan.values (p : Plan) : List Int :=
  [p.rateNum, p.rateDen, p.angle, p.gap, p.rampLen, p.rampHold.value, p.alignLine, p.readoutL,
   p.readoutR, p.dirL.value, p.dirR.value, p.skewTol, p.refMode.value, p.loopSkew]

end Sys2Proof.Machine
end

