-- ==== Sys2Proof/Machine/Tables.lean ====
section
/-!
DEFINITION. The calibration tables: hold reasons and channel status, the load protocol, the check of a
loaded table, segments and interpolation, and the table commands.
-/

namespace Sys2Proof.Machine

/-! ### Channel status outside the check (R111, R137) -/

/-- The hold reason a table state gives (R111). -/
def TableState.holdReason : TableState → Option HoldReason
  | .empty => some .noTable
  | .loading => some .loading
  | .invalid => some .noTable
  | .faulted => some .fault
  | .valid => none

/-- The status the table of R137 gives a channel. -/
def formedStatus (drive : Bool) (reason : Option HoldReason) (scanning : Bool) : ChannelStatus :=
  if drive then
    match reason with
    | some r => .hold r
    | none => if scanning then .settling else .hold .scanOff
  else .off

/-- A channel enters a status: an entry into SETTLING loads the settle counter, one into OFF or HOLD
clears it, and a channel already there is left as it is (R137). -/
def Channel.enter (st : ChannelStatus) (settle : Nat) (ch : Channel) : Channel :=
  if ch.status = st then ch
  else
    match st with
    | .settling => { ch with status := st, counter := settle }
    | .off => { ch with status := st, counter := 0 }
    | .hold _ => { ch with status := st, counter := 0 }
    | .tracking => { ch with status := st }
    | .offTrack => { ch with status := st }

/-- "Scanning running": the mode is FREE or FRAME (R137). -/
def LensUnit.scanning (u : LensUnit) : Bool := u.mode != .off

/-- A channel with its status re-formed under R137 from its drive, its table and the scan mode. -/
def LensUnit.reformed (u : LensUnit) (c : ChannelId) : Channel :=
  let ch := channelGet u.channels c
  ch.enter (formedStatus ch.drive (channelGet u.tables c).state.holdReason u.scanning)
    (u.axes.get c.axis).settle

/-- One channel's status is re-formed (R111, R137). -/
def LensUnit.reform (u : LensUnit) (c : ChannelId) : LensUnit :=
  { u with channels := channelSet u.channels c (u.reformed c) }

/-- Every channel's status is re-formed (R137). -/
def LensUnit.reformAll (u : LensUnit) : LensUnit := { u with channels := channelBuild u.reformed }

/-- The unit with one table changed. -/
def LensUnit.withTableOf (u : LensUnit) (c : ChannelId) (f : Table → Table) : LensUnit :=
  { u with tables := channelSet u.tables c (f (channelGet u.tables c)) }

/-- The state with one table changed, in a way that is no change of its state. -/
def editTable (c : ChannelId) (f : Table → Table) (s : State) : State :=
  { s with lens := s.lens.withTableOf c f }

/-- The state with one table's state changed and its channel's status re-formed (R111). -/
def onTable (c : ChannelId) (f : Table → Table) (s : State) : State :=
  { s with lens := (s.lens.withTableOf c f).reform c }

/-! ### Loading -/

/-- A load opened or restarted (R114). -/
def Table.begun (l : Link) (lapse : Option Time) (t : Table) : Table :=
  { t with state := .loading, loader := some l, lapse := lapse, count := 0 }

/-- A load ended with this state: no loader, timer stopped, count and breakpoints kept (R117 to R119). -/
def Table.ended (st : TableState) (t : Table) : Table := { t with state := st, loader := none, lapse := none }

/-- The demand of index `i` in the demand list. -/
def Table.demandAt (t : Table) (i : Nat) : Nat := (t.demands.getD i 0).toNat

/-- Whether index `i` offends: d_i ≤ d_{i-1} (R117). -/
def Table.offends (t : Table) (i : Nat) : Bool := decide (0 < i) && decide (t.demandAt i ≤ t.demandAt (i - 1))

/-- The data of a TBL reply, or nothing when the loaded table passes (R117). -/
def Table.fault (t : Table) : Option (List Byte) :=
  if t.count < 2 then some [1]
  else ((List.range t.count).find? t.offends).map fun i => [2, BitVec.ofNat 8 i]

/-- The demand list with the demands of breakpoints written from index `first` (R116). -/
def writeDemands (first : Nat) : List (BitVec 16 × BitVec 16) → List (BitVec 16) → List (BitVec 16)
  | [], ds => ds
  | p :: ps, ds => writeDemands (first + 1) ps (ds.set first p.1)

/-- A table after a completed TABLE_ENTRY write (R116). -/
def Table.entered (first : Nat) (points : List (BitVec 16 × BitVec 16)) (lapse : Option Time) (t : Table) :
    Table :=
  { t with demands := writeDemands first points t.demands
           count := max t.count (first + points.length)
           lapse := lapse }

/-! ### Segment and interpolation (R122 to R124) -/

/-- The lower index of the segment for demand `x` (R122). -/
def Table.segment (t : Table) (x : Nat) : Nat :=
  if x < t.demandAt 1 then 0
  else if t.demandAt (t.count - 2) ≤ x then t.count - 2
  else
    ((List.range (t.count - 1)).find? fun i =>
      decide (t.demandAt i ≤ x) && decide (x < t.demandAt (i + 1))).getD 0

/-- The base code from a segment's four values (R123). -/
def baseCode (d0 c0 d1 c1 x : Nat) : Int :=
  if x < d0 then c0
  else if d1 ≤ x then c1
  else c0 + roundHalfUp (((c1 : Int) - c0) * ((x : Int) - d0)) (d1 - d0)

/-- The target and SAT mark: base plus trim, saturated to 0..4095 (R124). -/
def targetOf (base trim : Int) : Computed :=
  ⟨(saturate 0 4095 (base + trim)).toNat, decide (base + trim < 0) || decide (4095 < base + trim)⟩

/-! ### Commands -/

/-- A table command's common check: the codes must name a table (R113); then its own rule. -/
def withTable (l : Link) (eye axis : Byte) (own : ChannelId → State → State) (s : State) : State :=
  match channelOfCodes eye axis with
  | some c => own c s
  | none => reply l .val [] s

/-- A load command's hold check: STATE unless LOADING, HELD unless the sender is the loader (R115, R117, R118). -/
def withLoad (l : Link) (c : ChannelId) (own : State → State) (s : State) : State :=
  let t := channelGet s.lens.tables c
  if t.state ≠ .loading then reply l .state [] s
  else if t.loader ≠ some l then reply l .held [] s
  else own s

/-- The time 2.000 s from now (R119). -/
def tableLapse (s : State) : Option Time := some (later s.now Config.lapseTicks)

/-- Owner's part of TABLE_BEGIN (R114). -/
def takeTableBegin (l : Link) (eye axis : Byte) (s : State) : State :=
  withTable l eye axis (s := s) fun c s =>
    let t := channelGet s.lens.tables c
    if t.state = .loading ∧ t.loader ≠ some l then reply l .held [] s
    else reply l .ok [] (onTable c (Table.begun l (tableLapse s)) s)

/-- Owner's part of TABLE_ENTRY: the checks of R113 and R115; then the lapse timer stops and the write is
requested for the sending link (R116). -/
def takeTableEntry (l : Link) (eye axis first : Byte) (points : List (BitVec 16 × BitVec 16)) (s : State) :
    State :=
  if points.length < 1 ∨ 4 < points.length then reply l .len [] s
  else
    withTable l eye axis (s := s) fun c s =>
      withLoad l c (s := s) fun s =>
        let t := channelGet s.lens.tables c
        if t.count < first.toNat ∨ 32 < first.toNat + points.length ∨ points.any (fun p => 4095 < p.2.toNat)
        then reply l .val [] s
        else
          let s1 := editTable c (fun t => { t with lapse := none }) s
          { s1 with
            memory :=
              { s1.memory with
                linkRequests := s1.memory.linkRequests.set l (some (.tableEntry c first.toNat points)) } }

/-- Owner's part of TABLE_END (R117). -/
def takeTableEnd (l : Link) (eye axis : Byte) (s : State) : State :=
  withTable l eye axis (s := s) fun c s =>
    withLoad l c (s := s) fun s =>
      match (channelGet s.lens.tables c).fault with
      | some data => reply l .tbl data (onTable c (Table.ended .invalid) s)
      | none => reply l .ok [] (onTable c (Table.ended .valid) s)

/-- Owner's part of TABLE_ABORT (R118). -/
def takeTableAbort (l : Link) (eye axis : Byte) (s : State) : State :=
  withTable l eye axis (s := s) fun c s =>
    withLoad l c (s := s) fun s => reply l .ok [] (onTable c (Table.ended .invalid) s)

/-- Owner's part of TABLE_READ at its taking (R120). -/
def takeTableRead (l : Link) (eye axis index : Byte) (s : State) : State :=
  withTable l eye axis (s := s) fun c s =>
    if (channelGet s.lens.tables c).count ≤ index.toNat then reply l .val [] s
    else
      { s with
        memory :=
          { s.memory with linkRequests := s.memory.linkRequests.set l (some (.tableRead c index.toNat)) } }

/-- Whether a table's lapse timer expires now (R119). -/
def tableLapseDue (c : ChannelId) (s : State) : Bool :=
  let t := channelGet s.lens.tables c
  t.state == .loading && t.lapse == some s.now

/-- The lapse of a load: INVALID, and TABLE_LAPSED to the loader's link alone (R119). -/
def lapseTable (c : ChannelId) (s : State) : State :=
  let s1 := onTable c (Table.ended .invalid) s
  match (channelGet s.lens.tables c).loader with
  | some l => post .tableLapsed l s1
  | none => s1

/-- TABLE_BEGIN. -/
def execTableBegin (l : Link) (eye axis : Byte) (s : State) : Host.Outcome State Fault Refusal :=
  live s (handOver l .unicast (takeTableBegin l eye axis))

/-- TABLE_ENTRY. -/
def execTableEntry (l : Link) (eye axis first : Byte) (points : List (BitVec 16 × BitVec 16)) (s : State) :
    Host.Outcome State Fault Refusal :=
  live s (handOver l .unicast (takeTableEntry l eye axis first points))

/-- TABLE_END. -/
def execTableEnd (l : Link) (eye axis : Byte) (s : State) : Host.Outcome State Fault Refusal :=
  live s (handOver l .unicast (takeTableEnd l eye axis))

/-- TABLE_ABORT. -/
def execTableAbort (l : Link) (eye axis : Byte) (s : State) : Host.Outcome State Fault Refusal :=
  live s (handOver l .unicast (takeTableAbort l eye axis))

/-- TABLE_READ. -/
def execTableRead (l : Link) (eye axis index : Byte) (s : State) : Host.Outcome State Fault Refusal :=
  live s (handOver l .unicast (takeTableRead l eye axis index))

/-- TABLE_LAPSE: the expiry of a table's lapse timer, when it expires now (R119). -/
def execTableLapse (eye : Eye) (axis : Axis) (s : State) : Host.Outcome State Fault Refusal :=
  live s fun s => if tableLapseDue ⟨eye, axis⟩ s then lapseTable ⟨eye, axis⟩ s else s

end Sys2Proof.Machine
end

