-- ==== Sys2Proof/Machine/Lens.lean ====
section
/-!
DEFINITION. The Lens Control Unit's scan from its start to its completion or abandonment, and the LENS_
commands.
-/

namespace Sys2Proof.Machine

/-! ### Start and abandonment -/

/-- A scan with start time `t` and no work done yet (R138). -/
def Scan.begun (t : Time) : Scan where
  start := t
  stage := .conversions
  made := []
  demands := PerAxis.build fun _ => 0
  computed := channelBuild fun _ => none
  failed := channelBuild fun _ => false
  remaining := []

/-- A segment read under way whose words are to be discarded at its end (R142). -/
def Burst.orphan (b : Burst) : Burst :=
  match b.holder with
  | .segment c i trim _ => { b with holder := .segment c i trim false }
  | _ => b

/-- The scan in progress is abandoned: its work is discarded, its waiting request withdrawn, and a segment
read under way runs on to be discarded (R142, R158). -/
def abandonScan (s : State) : State :=
  if s.lens.scan.isSome then
    { s with
      lens := { s.lens with scan := none }
      memory := { s.memory with lensRequest := none, port := s.memory.port.map Burst.orphan } }
  else s

/-- A scan starts now. -/
def startScan (s : State) : State := { s with lens := { s.lens with scan := some (Scan.begun s.now) } }

/-- The next due time 10,000 ticks after `t` (R138, R140, R141). -/
def scanDueAfter (t : Time) : Option Time := some (later t Config.scanTicks)

/-- The Lens Control Unit's part of a boundary (R141): nothing but in FRAME mode. -/
def frameScan (s : State) : State :=
  if s.lens.mode = .frame then
    let s1 := startScan (abandonScan s)
    { s1 with lens := { s1.lens with nextDue := scanDueAfter s.now } }
  else s

/-! ### Conversions (R143) -/

/-- The code of conversion `j`, once it is made. -/
def Scan.code (sc : Scan) (j : Nat) : BitVec 12 := sc.made.getD j 0

/-- The nine conversions of a scan by their inputs: the six encoders in channel order, then the wheels (R143). -/
def Scan.conversions (sc : Scan) : Conversions where
  encoders := channelBuild fun c => sc.code (tableNumber c)
  wheels := ⟨sc.code 6, sc.code 7, sc.code 8⟩

/-- Whether conversion `sc.made.length` of a scan ends at time `t`: 200 ticks after the one before it (R143). -/
def Scan.convertsAt (sc : Scan) (t : Time) : Bool :=
  sc.stage == .conversions && decide (sc.made.length < Config.conversionCount) &&
    later sc.start (Config.conversionTicks * (sc.made.length + 1)) == t

/-- A scan with its next conversion made, its code the free value of that input (log 15). -/
def Scan.converted (sc : Scan) : Scan :=
  { sc with made := sc.made ++ [Config.analogInput sc.start.toNat sc.made.length] }

/-- The unit when the timebase reaches `t`: the conversion of the scan in progress that ends then is made and held
with the scan's work (R138, R143). -/
def LensUnit.convert (t : Time) (u : LensUnit) : LensUnit :=
  { u with scan := u.scan.map fun sc => if sc.convertsAt t then sc.converted else sc }

/-! ### Demands (R130) -/

/-- The demand of a wheel conversion: 16w + floor(w / 256) (R130). -/
def wheelDemand (w : BitVec 12) : Nat := 16 * w.toNat + w.toNat / 256

/-- The demand formed for an axis kind (R130). -/
def formedDemand (a : AxisState) (w : BitVec 12) : Nat :=
  match a.source with
  | .wheel => wheelDemand w
  | .link _ => a.requested

/-! ### Check (R145 to R147) -/

/-- The magnitude of the difference of two codes. -/
def apart (a b : Nat) : Nat := ((a : Int) - b).natAbs

/-- A channel after its check, with the target before and after the output stage (R145, R146). -/
def Channel.checked (tolerance settle before : Nat) (ch : Channel) : Channel :=
  match ch.status with
  | .off => ch
  | .hold _ => ch
  | _ =>
    let judged : Channel :=
      if 0 < ch.counter then { ch with status := .settling, counter := ch.counter - 1 }
      else if tolerance < apart ch.encoder.toNat before then { ch with status := .offTrack }
      else { ch with status := .tracking }
    if tolerance < apart ch.target before then { judged with counter := settle } else judged

/-- The match state of two channel statuses (R147). -/
def matchOf (l r : ChannelStatus) : MatchState :=
  if l = .tracking ∧ r = .tracking then .matched
  else if l = .offTrack ∨ r = .offTrack then .mismatched
  else .unchecked

/-! ### Completion (R144) -/

/-- A table whose held parity failure makes it FAULTED: still VALID (R125). -/
def LensUnit.faults (u : LensUnit) (sc : Scan) (c : ChannelId) : Bool :=
  channelGet sc.failed c && (channelGet u.tables c).state == .valid

/-- Step 1 of the output stage: held parity failures are settled and those channels re-formed (R125). -/
def LensUnit.settleFaults (u : LensUnit) (sc : Scan) : LensUnit :=
  let u1 :=
    { u with
      tables := channelBuild fun c =>
        let t := channelGet u.tables c
        if u.faults sc c then { t with state := .faulted } else t }
  { u1 with channels := channelBuild fun c => if u.faults sc c then u1.reformed c else channelGet u.channels c }

/-- A channel after steps 2 to 4 of the output stage (R144). -/
def Channel.written (computed : Option Computed) (encoder : BitVec 12) (ch : Channel) : Channel :=
  let target := match computed with
    | some k => k.target
    | none => ch.target
  let sat := match computed with
    | some k => k.sat
    | none => ch.sat
  { ch with target := target, sat := sat, encoder := encoder, output := if ch.drive then target else 0 }

/-- The output stage but for the faults (R144). -/
def LensUnit.output (u : LensUnit) (sc : Scan) : LensUnit :=
  { u with
    axes := PerAxis.build fun x => { u.axes.get x with demand := sc.demands.get x }
    channels := channelBuild fun c =>
      (channelGet u.channels c).written (channelGet sc.computed c) (channelGet sc.conversions.encoders c)
    conversions := sc.conversions }

/-- The check stage, `before` holding the targets in force until this completion (R145, R146). -/
def LensUnit.check (u : LensUnit) (before : PerChannel Channel) : LensUnit :=
  { u with
    channels := channelBuild fun c =>
      let a := u.axes.get c.axis
      (channelGet u.channels c).checked a.tolerance a.settle (channelGet before c).target }

/-- The match states formed from the channel statuses (R147). -/
def LensUnit.formMatches (u : LensUnit) : LensUnit :=
  { u with
    axes := PerAxis.build fun x =>
      { u.axes.get x with
        matching := matchOf (channelGet u.channels ⟨.left, x⟩).status (channelGet u.channels ⟨.right, x⟩).status } }

/-- Whether an axis kind became MISMATCHED between two states of the unit (R147). -/
def becameMismatched (old new : LensUnit) (x : Axis) : Bool :=
  (new.axes.get x).matching == .mismatched && (old.axes.get x).matching != .mismatched

/-- The stop of scanning: statuses re-formed with scanning OFF, match states UNCHECKED (R139). -/
def LensUnit.stopped (u : LensUnit) : LensUnit :=
  { u.reformAll with axes := PerAxis.build fun x => { u.axes.get x with matching := .unchecked } }

/-- The completion of the scan in progress: faults settled, output stage, check stage, match states, and
the stop if the mode is OFF (R144 to R147, R139). -/
def completeScan (s : State) : State :=
  match s.lens.scan with
  | none => s
  | some sc =>
    let u := s.lens
    let u1 := u.settleFaults sc
    let u2 := ((u1.output sc).check u1.channels).formMatches
    let u3 := { u2 with scan := none }
    let s1 := { s with lens := if u3.mode = .off then u3.stopped else u3 }
    let s2 := if channelOrder.any (u.faults sc) then postAll .tableFault s1 else s1
    if [Axis.focus, .iris, .zoom].any (becameMismatched u u2) then postAll .lensMismatch s2 else s2

/-! ### Target stage (R121) -/

/-- The scan in progress changed. -/
def onScan (f : Scan → Scan) (s : State) : State :=
  { s with lens := { s.lens with scan := s.lens.scan.map f } }

/-- The demand a scan formed for a channel. -/
def scanDemand (s : State) (c : ChannelId) : Nat :=
  match s.lens.scan with
  | some sc => sc.demands.get c.axis
  | none => 0

/-- The target stage goes on to the first of these channels whose table is VALID, and requests its
segment; with none left, the scan completes (R121). -/
def nextSegment : List ChannelId → State → State
  | [], s => completeScan s
  | c :: rest, s =>
    if (channelGet s.lens.tables c).state = .valid then
      let lower := (channelGet s.lens.tables c).segment (scanDemand s c)
      let s1 := onScan (fun sc => { sc with remaining := rest }) s
      { s1 with memory := { s1.memory with lensRequest := some ⟨c, lower⟩ } }
    else nextSegment rest s

/-- The target stage goes on after a channel's grant has ended. -/
def continueTargets (s : State) : State :=
  match s.lens.scan with
  | some sc => nextSegment sc.remaining s
  | none => s

/-- Whether the nine conversions of the scan in progress end now (R143). -/
def conversionsDue (s : State) : Bool :=
  match s.lens.scan with
  | some sc =>
    sc.stage == .conversions && later sc.start (Config.conversionTicks * Config.conversionCount) == s.now
  | none => false

/-- The end of the conversions: the demands are formed and the target stage begins (R143, R130). -/
def endConversions (s : State) : State :=
  nextSegment channelOrder
    (onScan
      (fun sc =>
        { sc with
          stage := .target
          demands := PerAxis.build fun x => formedDemand (s.lens.axes.get x) (sc.conversions.wheels.get x) })
      s)

/-- Whether the scan timer's due time is now (R140). -/
def scanTimerDue (s : State) : Bool := s.lens.mode != .off && s.lens.nextDue == some s.now

/-- The due time: a scan starts, or is skipped if one is in progress; the next due time moves on (R140). -/
def scanTimer (s : State) : State :=
  let s1 := if s.lens.scan.isSome then s else startScan s
  { s1 with lens := { s1.lens with nextDue := scanDueAfter s.now } }

/-- The conversions of the scan in progress. -/
def scanConversions (s : State) : Conversions :=
  match s.lens.scan with
  | some sc => sc.conversions
  | none => noConversions

/-- CONVERSIONS_DONE: the end of the nine conversions, when it falls now and these are the codes made (R143, log 16). -/
def execConversionsDone (codes : Conversions) (s : State) : Host.Outcome State Fault Refusal :=
  live s fun s => if conversionsDue s ∧ codes = scanConversions s then endConversions s else s

/-- SCAN_DUE (R140). -/
def execScanDue (s : State) : Host.Outcome State Fault Refusal :=
  live s fun s => if scanTimerDue s then scanTimer s else s

/-! ### Commands -/

/-- The state with one axis kind's items changed. -/
def onAxis (x : Axis) (f : AxisState → AxisState) (s : State) : State :=
  { s with lens := { s.lens with axes := s.lens.axes.set x (f (s.lens.axes.get x)) } }

/-- The state with one channel's items changed. -/
def onChannel (c : ChannelId) (f : Channel → Channel) (s : State) : State :=
  { s with lens := { s.lens with channels := channelSet s.lens.channels c (f (channelGet s.lens.channels c)) } }

/-- A new source: the requested demand becomes the present demand; the same source changes nothing (R131). -/
def AxisState.withSource (src : Source) (a : AxisState) : AxisState :=
  if a.source = src then a else { a with source := src, requested := a.demand }

/-- Owner's part of LENS_SOURCE (R131). -/
def takeLensSource (l : Link) (axis source : Byte) (s : State) : State :=
  match axisOfCode axis, sourceOfCode source with
  | some x, some src => reply l .ok [] (onAxis x (AxisState.withSource src) s)
  | _, _ => reply l .val [] s

/-- Owner's part of LENS_DEMAND (R132). -/
def takeLensDemand (l : Link) (axis : Byte) (value : BitVec 16) (s : State) : State :=
  match axisOfCode axis with
  | none => reply l .val [] s
  | some x =>
    if (s.lens.axes.get x).source = .link l then
      reply l .ok [] (onAxis x (fun a => { a with requested := value.toNat }) s)
    else reply l .src [] s

/-- Owner's part of LENS_TRIM (R134). -/
def takeLensTrim (l : Link) (eye axis : Byte) (trim : BitVec 16) (s : State) : State :=
  match channelOfCodes eye axis with
  | none => reply l .val [] s
  | some c =>
    if -2048 ≤ trim.toInt ∧ trim.toInt ≤ 2047 then
      reply l .ok [] (onChannel c (fun ch => { ch with trim := trim.toInt }) s)
    else reply l .val [] s

/-- Owner's part of LENS_TOL (R135). -/
def takeLensTol (l : Link) (axis : Byte) (tolerance : BitVec 16) (settle : Byte) (s : State) : State :=
  match axisOfCode axis with
  | none => reply l .val [] s
  | some x =>
    if 4095 < tolerance.toNat then reply l .val [] s
    else
      reply l .ok []
        (onAxis x (fun a => { a with tolerance := tolerance.toNat, settle := settle.toNat }) s)

/-- A channel's drive set to `on` (R136): the value already in force changes nothing. -/
def setDrive (c : ChannelId) (on : Bool) (s : State) : State :=
  let ch := channelGet s.lens.channels c
  if ch.drive = on then s
  else
    let s1 := onChannel c (fun ch => { ch with drive := on, output := if on then ch.target else 0 }) s
    { s1 with lens := s1.lens.reform c }

/-- Owner's part of LENS_DRIVE (R136). -/
def takeLensDrive (l : Link) (eye axis drive : Byte) (s : State) : State :=
  match channelOfCodes eye axis, boolOfCode drive with
  | some c, some on => reply l .ok [] (setDrive c on s)
  | _, _ => reply l .val [] s

/-- The scan mode set (R138, R139). Scanning started again while a stopping scan runs leaves the match states as they
stand until that scan completes (log 39). -/
def setScanMode (m : ScanMode) (s : State) : State :=
  match s.lens.mode, m with
  | .off, .off => s
  | .off, _ =>
    let s1 := if s.lens.scan.isSome then s else startScan s
    { s1 with lens := ({ s1.lens with mode := m, nextDue := scanDueAfter s.now }).reformAll }
  | _, .off =>
    let u := { s.lens with mode := .off, nextDue := none }
    { s with lens := if u.scan.isSome then u else u.stopped }
  | _, _ => { s with lens := { s.lens with mode := m } }

/-- Owner's part of LENS_RUN (R138). -/
def takeLensRun (l : Link) (mode : Byte) (s : State) : State :=
  match scanModeOfCode mode with
  | some m => reply l .ok [] (setScanMode m s)
  | none => reply l .val [] s

def axisReport (a : AxisState) : List Byte :=
  bytesOf 2 a.demand ++ bytesOf 2 a.requested ++ [a.source.code] ++ bytesOf 2 a.tolerance ++
    [BitVec.ofNat 8 a.settle, a.matching.code]

def channelReport (ch : Channel) (t : Table) : List Byte :=
  signedBytes 2 ch.trim ++ [flagByte ch.drive] ++ bytesOf 2 ch.target ++ bytesOf 2 ch.output ++
    bytesOf 2 ch.encoder.toNat ++ [ch.status.code, BitVec.ofNat 8 ch.counter, flagByte ch.sat, t.state.code]

/-- The reply data of LENS_STATUS (R148, R183). -/
def lensReport (u : LensUnit) : List Byte :=
  [u.mode.code, flagByte u.scan.isSome] ++
    ([Axis.focus, .iris, .zoom].map fun x => axisReport (u.axes.get x)).flatten ++
    (channelOrder.map fun c => channelReport (channelGet u.channels c) (channelGet u.tables c)).flatten ++
    (channelOrder.map fun c => bytesOf 2 (channelGet u.conversions.encoders c).toNat).flatten ++
    ([Axis.focus, .iris, .zoom].map fun x => bytesOf 2 (u.conversions.wheels.get x).toNat).flatten

/-- Owner's part of LENS_STATUS (R148). -/
def takeLensStatus (l : Link) (s : State) : State := reply l .ok (lensReport s.lens) s

/-- LENS_SOURCE. -/
def execLensSource (l : Link) (axis source : Byte) (s : State) : Host.Outcome State Fault Refusal :=
  live s (handOver l .unicast (takeLensSource l axis source))

/-- LENS_DEMAND. -/
def execLensDemand (l : Link) (axis : Byte) (value : BitVec 16) (s : State) : Host.Outcome State Fault Refusal :=
  live s (handOver l .unicast (takeLensDemand l axis value))

/-- LENS_TRIM. -/
def execLensTrim (l : Link) (eye axis : Byte) (trim : BitVec 16) (s : State) : Host.Outcome State Fault Refusal :=
  live s (handOver l .unicast (takeLensTrim l eye axis trim))

/-- LENS_TOL. -/
def execLensTol (l : Link) (axis : Byte) (tolerance : BitVec 16) (settle : Byte) (s : State) :
    Host.Outcome State Fault Refusal :=
  live s (handOver l .unicast (takeLensTol l axis tolerance settle))

/-- LENS_DRIVE. -/
def execLensDrive (l : Link) (eye axis drive : Byte) (s : State) : Host.Outcome State Fault Refusal :=
  live s (handOver l .unicast (takeLensDrive l eye axis drive))

/-- LENS_RUN. -/
def execLensRun (l : Link) (mode : Byte) (s : State) : Host.Outcome State Fault Refusal :=
  live s (handOver l .unicast (takeLensRun l mode))

/-- LENS_STATUS. -/
def execLensStatus (l : Link) (s : State) : Host.Outcome State Fault Refusal :=
  live s (handOver l .unicast (takeLensStatus l))

end Sys2Proof.Machine
end

