-- ==== Sys2Proof/Machine/Timing.lean ====
section
/-!
DEFINITION. The Frame Timing Unit's own operations: the arithmetic of rate, offset, period, ramp and
exposure (2.4 to 2.7), the reference inputs (1.4), the reference state (1.5, 1.6) and the re-phase (1.7).
-/

namespace Sys2Proof.Machine

/-! ### Rate and offset -/

/-- The base period Q of a plan's rate (R38); it is Pn too. -/
def Plan.basePeriod (p : Plan) : Nat := 10000000 * p.rateDen / p.rateNum

/-- The remainder r of a plan's rate (R38). -/
def Plan.remainder (p : Plan) : Nat := 10000000 * p.rateDen % p.rateNum

/-- The line fraction of one eye, in per mille of its readout (R46). -/
def lineFraction (d : Dir) (align : Nat) : Int :=
  match d with
  | .down => align
  | .up => 1000 - align

/-- The eye offset D (R46). -/
def Plan.eyeOffset (p : Plan) : Int :=
  roundHalfUp (lineFraction p.dirL p.alignLine * p.readoutL - lineFraction p.dirR p.alignLine * p.readoutR)
    1000

/-- The fit floor GAP + |D| + 20 (R43). -/
def Plan.fitFloor (p : Plan) : Nat := p.gap + p.eyeOffset.natAbs + 20

/-! ### Period and exposure -/

/-- What the period generator gives a frame: its period, the generator left behind, whether it is a ramp
frame, whether R43 raised its period, and the exposure a ramp held on TIME gives it (R44). -/
structure Draw where
  period  : Nat
  acc     : Nat
  ramp    : Option Ramp
  isRamp  : Bool
  raised  : Bool
  held    : Option Nat
  deriving DecidableEq, Repr

/-- A frame's period from the accumulator (R39). -/
def drawAccumulator (p : Plan) (acc : Nat) : Draw :=
  let a := acc + p.remainder
  if p.rateNum ≤ a then ⟨p.basePeriod + 1, a - p.rateNum, none, false, false, none⟩
  else ⟨p.basePeriod, a, none, false, false, none⟩

/-- The formula of R41 for ramp frame `j`. -/
def Ramp.formula (r : Ramp) (j : Nat) : Int :=
  r.p0 + roundHalfUp (((r.p1 : Int) - r.p0) * j) r.frames

/-- The next ramp frame's period: the formula of R41, at least the fit floor (R43); E_raw is E_start in
frames 1 to K - 1 of a ramp held on TIME (R44). -/
def drawRamp (p : Plan) (acc : Nat) (r : Ramp) : Draw :=
  let j := r.index + 1
  let raised := decide (r.formula j < p.fitFloor)
  { period := if raised then p.fitFloor else (r.formula j).toNat
    acc := acc
    ramp := some { r with index := j }
    isRamp := true
    raised := raised
    held := if r.hold = .time ∧ j < r.frames then some r.eStart else none }

/-- The period generator at a boundary: the ramp while one runs; after ramp frame K the ramp is cleared
and the accumulator is 0 (R42); the accumulator otherwise. -/
def drawPeriod (p : Plan) (acc : Nat) : Option Ramp → Draw
  | none => drawAccumulator p acc
  | some r => if r.index < r.frames then drawRamp p acc r else drawAccumulator p 0

/-- The unclamped exposure E_raw (R44). -/
def rawExposure (p : Plan) (d : Draw) : Nat :=
  match d.held with
  | some e => e
  | none => (roundHalfUp (d.period * p.angle) 3600).toNat

/-- The exposure E: E_raw held to 20 .. P - GAP - |D| (R45). -/
def clampExposure (p : Plan) (period raw : Nat) : Nat :=
  min (max raw 20) (period - p.gap - p.eyeOffset.natAbs)

/-! ### Reference inputs -/

/-- The reference input after a pulse at `t`, qualified against `pn` (R10). -/
def RefInput.pulse (pn : Nat) (t : Time) (x : RefInput) : RefInput :=
  let deadline := some (later t (2 * pn))
  match x.state, x.lastPulse with
  | .absent, _ => ⟨.qualifying, 0, some t, deadline⟩
  | _, none => ⟨.qualifying, 0, some t, deadline⟩
  | st, some last =>
    let error := ((since last t : Int) - pn).natAbs
    if error ≤ pn / 1024 then
      let count := if x.count < 8 then x.count + 1 else 8
      ⟨if count = 8 then .good else st, count, some t, deadline⟩
    else ⟨.qualifying, 0, some t, deadline⟩

/-- The reference input after its absence expiry (R11); it has no deadline until its next pulse (log 35). -/
def RefInput.expired : RefInput := ⟨.absent, 0, none, none⟩

/-- The reference input after a rate change applied at `t` (R11). -/
def RefInput.requalify (pn : Nat) (t : Time) (x : RefInput) : RefInput :=
  ⟨.qualifying, 0, x.lastPulse, some (later t (2 * pn))⟩

/-- Both inputs after a rate change to `pn` (R11). -/
def requalifyInputs (pn : Nat) (s : State) : State :=
  { s with
    timing := { s.timing with inputs := PerRef.build fun r => (s.timing.inputs.get r).requalify pn s.now } }

/-! ### Reference state -/

/-- The selected input (R14). -/
def Timing.selected (t : Timing) : Option RefId :=
  if t.inputs.a.state = .good then some .a
  else if t.inputs.b.state = .good then some .b
  else none

/-- The locked state of a reference input. -/
def lockedTo : RefId → RefState
  | .a => .lockedA
  | .b => .lockedB

def RefState.isLocked : RefState → Bool
  | .lockedA | .lockedB | .lockedL => true
  | _ => false

/-- The value the mode rules give the reference state (R12 to R14, R19, R20). Under FOLLOW_LEFT in a run
the state moves by left returns and lapses alone, and keeps its value here. -/
def refValue (s : State) : RefState :=
  match s.plan.active.refMode with
  | .internal => .free
  | .loop => .loop
  | .external =>
    match s.timing.selected with
    | some r => lockedTo r
    | none => if s.timing.lockHeld && s.timing.run != .stopped then .holdover else .seeking
  | .followLeft => if s.timing.run = .stopped then .seeking else s.timing.refState

/-- The value on entering a mode or a run: as `refValue`, but SEEKING under FOLLOW_LEFT (R19, R21). -/
def refValueEntered (s : State) : RefState :=
  match s.plan.active.refMode with
  | .followLeft => .seeking
  | _ => refValue s

/-- The reference state takes the value `v`. If that is a change: REF_CHANGE is posted to all links; the
lock record is set when `v` is locked in a run that has had its first boundary (R12); a re-phase in
progress is dropped, and a move into LOCKED_A or LOCKED_B in RUNNING after the first boundary begins
one (R16, R17). -/
def setRef (v : RefState) (s : State) : State :=
  if v = s.timing.refState then s
  else
    let begun := s.timing.frame.isSome
    let rephases := (v == .lockedA || v == .lockedB) && s.timing.run == .running && begun
    postAll .refChange
      { s with
        timing :=
          { s.timing with
            refState := v
            lockHeld := s.timing.lockHeld || (v.isLocked && s.timing.run != .stopped && begun)
            rephase := if rephases then some .first else none } }

/-- The reference state is recomputed (R12). -/
def recomputeRef (s : State) : State := setRef (refValue s) s

/-- Whether the arrival of N is a boundary in the present reference state (R3, R16). -/
def scheduleInService (s : State) : Bool :=
  match s.timing.refState with
  | .free | .holdover | .loop => true
  | .seeking => s.plan.active.refMode != .followLeft
  | .lockedA | .lockedB => s.timing.rephase == some .first
  | .lockedL => false

/-- Whether a boundary is owed at once if the schedule comes into service: N is past (R3), or the run has
not had its first boundary (R4, R19). An N that falls at the very instant of the change counts as past (log 34). -/
def boundaryOwed (s : State) : Bool :=
  match s.timing.frame, s.timing.next with
  | some f, some n => decide (since f.start n ≤ since f.start s.now)
  | _, _ => true

/-- Whether a pulse now is after the threshold of the current frame: its latest exposure end plus the GAP of the active
plan (R16). A pulse at the threshold is passed over even where the threshold is N itself (log 38). -/
def afterThreshold (s : State) : Bool :=
  match s.timing.frame with
  | none => true
  | some f => decide (f.offset.natAbs + f.exposure + s.plan.active.gap < since f.start s.now)

/-- The planned period: P of the current frame, or before the first boundary Q of the active rate (R2). -/
def plannedPeriod (s : State) : Nat :=
  match s.timing.frame with
  | some f => f.period
  | none => s.plan.active.basePeriod

/-- The half-period test for a left return now (R18); the first left return of a run passes (R19). -/
def halfPeriodTest (s : State) : Bool :=
  match s.timing.frame with
  | none => true
  | some f => decide (f.period ≤ 2 * since f.start s.now)

/-- The time at which left returns have lapsed: 2 planned periods after the last boundary, or after RUN
if there is none (R18, R19). -/
def leftLapseTime (s : State) : Option Time :=
  match s.timing.frame, s.timing.runStart with
  | some f, _ => some (later f.start (2 * f.period))
  | none, some t => some (later t (2 * s.plan.active.basePeriod))
  | none, none => none

/-- Whether the 2-period lapse of left returns falls now (R18, R19): in LOCKED_L or SEEKING under
FOLLOW_LEFT, in RUNNING or DRAINING. -/
def leftLapseDue (s : State) : Bool :=
  s.plan.active.refMode == .followLeft && s.timing.run != .stopped &&
    (s.timing.refState == .lockedL || s.timing.refState == .seeking) && leftLapseTime s == some s.now

/-- Whether the schedule's own boundary falls now (R3). -/
def scheduleDue (s : State) : Bool :=
  s.timing.run == .running && scheduleInService s && s.timing.next == some s.now

/-- The period TIMING_STATUS reports (R23). -/
def reportedPeriod (s : State) : Nat :=
  if s.timing.run = .stopped then s.plan.active.basePeriod else plannedPeriod s

/-- The ramp frame index TIMING_STATUS reports (R23). -/
def reportedRampIndex (s : State) : Nat :=
  match s.timing.ramp with
  | some r => r.index
  | none => 0

end Sys2Proof.Machine
end

