-- ==== Sys2Proof/Machine/Plan.lean ====
section
/-!
DEFINITION. The Plan Unit: editing, validation, the application of a committed plan with its effects on
the Frame Timing Unit, and the plan commands that need no boundary.
-/

namespace Sys2Proof.Machine

/-- The lapse timer set to expire 2.000 s from now (R28, R119). -/
def lapseFromNow (s : State) : Option Time := some (later s.now Config.lapseTicks)

/-- The staged plan is freed: FREE, no editor, timer stopped, recopied from the active plan (R28, R32, R34). -/
def PlanUnit.freed (u : PlanUnit) : PlanUnit :=
  { u with staged := u.active, stage := .free, editor := none, lapse := none }

/-! ### Validation (R30) -/

/-- The room that FIT asks for: min(Q_old, Q_new) - GAP - |D|. -/
def fitRoom (active staged : Plan) : Int :=
  (min active.basePeriod staged.basePeriod : Int) - staged.gap - staged.eyeOffset.natAbs

/-- The reason byte a staged plan fails with, FIT before RAMP_EXT, or nothing when it is valid (R30). -/
def planFault (active staged : Plan) : Option Byte :=
  if fitRoom active staged < 20 then some 1
  else if 0 < staged.rampLen ∧ staged.refMode = .external then some 2
  else none

/-! ### Application (R35) -/

/-- A change of RATE_NUM or RATE_DEN. -/
def rateChanges (u : PlanUnit) : Bool :=
  u.staged.rateNum != u.active.rateNum || u.staged.rateDen != u.active.rateDen

/-- A change of REF_MODE. -/
def modeChanges (u : PlanUnit) : Bool := u.staged.refMode != u.active.refMode

/-- The generator at an application (R40 to R42): restarted, or a ramp begun from the frame that ends, when
the rate changes; a ramp cleared when the mode becomes EXTERNAL at an unchanged rate. A ramp that begins sets the
accumulator to 0 as well, so that it stays below the new RATE_NUM (R39, log 36). -/
def Timing.restartGenerator (u : PlanUnit) (atBoundary : Bool) (t : Timing) : Timing :=
  if rateChanges u then
    match atBoundary && decide (0 < u.staged.rampLen), t.frame with
    | true, some f =>
      { t with
        ramp := some ⟨u.staged.rampLen, f.period, u.staged.basePeriod, u.staged.rampHold, f.exposure, 0⟩
        acc := 0 }
    | _, _ => { t with ramp := none, acc := 0 }
  else if modeChanges u && u.staged.refMode == .external && t.ramp.isSome then
    { t with ramp := none, acc := 0 }
  else t

/-- The staged plan becomes active, the generation rises, and the staged plan is FREE (R35). -/
def PlanUnit.applied (u : PlanUnit) : PlanUnit :=
  { u with active := u.staged, generation := u.generation + 1, stage := .free, editor := none, lapse := none }

/-- The application but for the reference state and the reply: the plan, the generator, the inputs put
back to QUALIFYING by a rate change (R11), the lock record cleared by a mode change (R12), and
PLAN_APPLIED to all links (R36). -/
def applyStaged (atBoundary : Bool) (s : State) : State :=
  let u := s.plan
  let t := s.timing.restartGenerator u atBoundary
  let s1 := { s with plan := u.applied, timing := { t with lockHeld := t.lockHeld && !modeChanges u } }
  let s2 := if rateChanges u then requalifyInputs u.staged.basePeriod s1 else s1
  postAll .planApplied s2

/-- The reference state after an application that changed the plan unit `u` (R12, R21). -/
def settleReference (u : PlanUnit) (s : State) : State :=
  if modeChanges u then setRef (refValueEntered s) s
  else if rateChanges u then recomputeRef s
  else s

/-- The committer's reply: OK with the new generation and the pair number of the first slot under it (R36). -/
def answerCommitter (before : State) (l : Link) (pair : BitVec 32) (s : State) : State :=
  replyDuring before l .ok (s.plan.generation :: bytesOf 4 pair.toNat) s

/-- A waiting commit's committer. -/
def PlanUnit.committer (u : PlanUnit) : Option Link :=
  if u.stage = .committing then u.editor else none

/-- A commit applied while STOPPED, for the event that began in `before` (R31, R35, R36). -/
def applyWhileStopped (before : State) (committer : Option Link) (s : State) : State :=
  let s1 := settleReference s.plan (applyStaged false s)
  match committer with
  | some l => answerCommitter before l s1.timing.pairNumber s1
  | none => s1

/-! ### Commands -/

/-- Owner's part of PLAN_SET (R27). -/
def takePlanSet (l : Link) (field : Byte) (value : BitVec 32) (s : State) : State :=
  let u := s.plan
  match u.staged.withField field.toNat value.toInt with
  | none => reply l .val [] s
  | some p =>
    match u.stage with
    | .committing => reply l .pend [] s
    | .free =>
      reply l .ok []
        { s with plan := { u with staged := p, stage := .editing, editor := some l, lapse := lapseFromNow s } }
    | .editing =>
      if u.editor = some l then
        reply l .ok [] { s with plan := { u with staged := p, lapse := lapseFromNow s } }
      else reply l .held [] s

/-- Owner's part of PLAN_COMMIT (R29): validated, then applied at once in STOPPED and left waiting in
COMMITTING otherwise. -/
def takePlanCommit (l : Link) (s : State) : State :=
  let u := s.plan
  match u.stage with
  | .free => reply l .state [] s
  | .committing => reply l .pend [] s
  | .editing =>
    if u.editor = some l then
      match planFault u.active u.staged with
      | some reason => reply l .plan [reason] { s with plan := { u with lapse := lapseFromNow s } }
      | none =>
        if s.timing.run = .stopped then applyWhileStopped s (some l) s
        else { s with plan := { u with stage := .committing, lapse := none } }
    else reply l .held [] s

/-- Owner's part of PLAN_DISCARD (R32). -/
def takePlanDiscard (l : Link) (s : State) : State :=
  let u := s.plan
  match u.stage with
  | .free => reply l .ok [] s
  | .committing => reply l .pend [] s
  | .editing =>
    if u.editor = some l then reply l .ok [] { s with plan := u.freed } else reply l .held [] s

/-- The reply data of PLAN_GET (R33, R183). -/
def planReport (p : Plan) (u : PlanUnit) : List Byte :=
  (p.values.map (signedBytes 4)).flatten ++ [u.generation, u.stage.code, editorCode u.editor]

/-- Owner's part of PLAN_GET (R33). -/
def takePlanGet (l : Link) (which : Byte) (s : State) : State :=
  match which.toNat with
  | 0 => reply l .ok (planReport s.plan.active s.plan) s
  | 1 => reply l .ok (planReport s.plan.staged s.plan) s
  | _ => reply l .val [] s

/-- Whether the edit lapse timer expires now (R28). -/
def editLapseDue (s : State) : Bool := s.plan.stage == .editing && s.plan.lapse == some s.now

/-- The lapse of the edit: the plan is freed and PLAN_LAPSED goes to the editor's link alone (R28). -/
def lapseEdit (s : State) : State :=
  let s1 := { s with plan := s.plan.freed }
  match s.plan.editor with
  | some l => post .planLapsed l s1
  | none => s1

/-- PLAN_SET. -/
def execPlanSet (l : Link) (field : Byte) (value : BitVec 32) (s : State) : Host.Outcome State Fault Refusal :=
  live s (handOver l .unicast (takePlanSet l field value))

/-- PLAN_COMMIT. -/
def execPlanCommit (l : Link) (s : State) : Host.Outcome State Fault Refusal :=
  live s (handOver l .unicast (takePlanCommit l))

/-- PLAN_DISCARD. -/
def execPlanDiscard (l : Link) (s : State) : Host.Outcome State Fault Refusal :=
  live s (handOver l .unicast (takePlanDiscard l))

/-- PLAN_GET. -/
def execPlanGet (l : Link) (which : Byte) (s : State) : Host.Outcome State Fault Refusal :=
  live s (handOver l .unicast (takePlanGet l which))

/-- PLAN_EDIT_LAPSE: the expiry of the edit lapse timer, when it expires now (R28). -/
def execPlanEditLapse (s : State) : Host.Outcome State Fault Refusal :=
  live s fun s => if editLapseDue s then lapseEdit s else s

end Sys2Proof.Machine
end

