-- ==== Sys2Proof/Machine/Matcher.lean ====
section
/-!
DEFINITION. The Pair Matcher: skew and outcome, eye judgement and presence, strays, closing and release,
the pair record and its stored form, the assignment of returns, and PAIR_STATUS.
-/

namespace Sys2Proof.Machine

/-! ### Skew and outcome -/

/-- One eye's trigger-to-return delay, from 32-bit timestamps modulo 2^32 (R47). -/
def returnDelay (trigger ret : Time) : Nat := (timestamp ret - timestamp trigger).toNat

/-- The skew S, when both eyes have a trigger and a return (R47). -/
def Slot.skew (x : Slot) : Option Int :=
  match x.trigger.left, x.returned.left, x.trigger.right, x.returned.right with
  | some tl, some rl, some tr, some rr => some ((returnDelay tr rr : Int) - returnDelay tl rl)
  | _, _, _, _ => none

/-- The outcome formed at a close from the returns held (R78). -/
def Slot.judged (x : Slot) : Outcome :=
  match x.returned.left, x.returned.right with
  | some _, some _ => if (x.skew.getD 0).natAbs ≤ x.skewTol then .paired else .skewed
  | some _, none => .leftOnly
  | none, some _ => .rightOnly
  | none, none => .missed

/-! ### Deadline and completion -/

/-- Ticks from the slot's boundary to a time, 0 if it is absent. -/
def Slot.offsetOf (x : Slot) : Option Time → Nat
  | some t => since x.start t
  | none => 0

/-- Ticks from the boundary to the later of an eye's trigger times that count: the one filled, and that of its entry
not yet decided (R72). Of a left entry armed beside a left return's trigger time only the return's time counts once the
entry is decided, issued or withheld (log 40). -/
def Slot.triggerOffset (x : Slot) (e : Eye) : Nat := max (x.offsetOf (x.trigger.get e)) (x.offsetOf (x.armed.get e))

/-- The deadline: the latest counted trigger time plus P, or b + P if there is none (R72). -/
def Slot.formDeadline (x : Slot) : Time :=
  later x.start (max (x.triggerOffset .left) (x.triggerOffset .right) + x.period)

/-- The trigger pending mark of an eye: its entry is not yet decided, and no left return has filled its trigger time
(R66, R67). -/
def Slot.isPending (x : Slot) (e : Eye) : Bool := (x.armed.get e).isSome && (x.trigger.get e).isNone

/-- An eye's part of completeness: no trigger pending, and a return if its trigger time is present (R77). -/
def Slot.settled (x : Slot) (e : Eye) : Bool :=
  !x.isPending e && ((x.trigger.get e).isNone || (x.returned.get e).isSome)

/-- A slot is complete when no trigger is pending and each trigger present has its return (R77). -/
def Slot.complete (x : Slot) : Bool := x.settled .left && x.settled .right

/-! ### Judgement of the eyes -/

/-- An eye is expected in a slot when its trigger was issued there, and the left eye always when
FOLLOW_LEFT was in force at the slot's boundary (R59). A trigger time that a left return filled is no issued trigger. -/
def Slot.expects (x : Slot) (e : Eye) : Bool := x.issued.get e || (e == .left && x.followLeft)

/-- The counts and presence of an eye after a hit (R59, R60). -/
def EyeState.afterHit (y : EyeState) : EyeState :=
  let hit := bump 255 y.hit
  { y with
    miss := 0
    hit := hit
    presence := match y.presence with
      | .unknown => .present
      | .present => .present
      | .lost => if hit = 2 then .present else .lost }

/-- The counts and presence of an eye after a miss (R59, R60). -/
def EyeState.afterMiss (y : EyeState) : EyeState :=
  let miss := bump 255 y.miss
  { y with
    hit := 0
    miss := miss
    presence := match y.presence with
      | .lost => .lost
      | p => if miss = 4 then .lost else p }

/-- The event a presence change posts (R60). -/
def presenceEvent : Presence → Presence → Option EventKind
  | .unknown, .lost => some .eyeLost
  | .present, .lost => some .eyeLost
  | .lost, .present => some .eyeBack
  | _, _ => none

/-- What one eye's state becomes when a slot closes (R59). -/
def EyeState.afterClose (x : Slot) (e : Eye) (y : EyeState) : EyeState :=
  if x.expects e then
    if (x.returned.get e).isSome then y.afterHit else y.afterMiss
  else y

/-- One eye is judged for a closed slot, and EYE_LOST or EYE_BACK posted (R59, R60). -/
def judgeEye (x : Slot) (e : Eye) (s : State) : State :=
  let old := s.matcher.eyes.get e
  let new := old.afterClose x e
  let s1 := { s with matcher := { s.matcher with eyes := s.matcher.eyes.set e new } }
  match presenceEvent old.presence new.presence with
  | some k => postAll k s1
  | none => s1

/-- A return that no slot takes: its eye's stray count rises, saturating, and STRAY_RETURN goes to all
links (R62, R63). -/
def strayReturn (e : Eye) (s : State) : State :=
  let y := s.matcher.eyes.get e
  postAll .strayReturn
    { s with
      matcher := { s.matcher with eyes := s.matcher.eyes.set e { y with stray := bump 65535 y.stray } } }

/-! ### The pair record -/

/-- The record built from a slot at its release (R80). -/
def Slot.record (x : Slot) : PairRecord where
  outcome := x.outcome.getD x.judged
  isRamp := x.isRamp
  expClamp := x.expClamp
  offsetClamp := x.offsetClamp
  number := x.number
  stamp := x.stamp
  dropMark := x.dropMark
  generation := x.generation
  refState := x.refState
  period := x.period
  exposure := x.exposure
  leftReturn := x.returned.left.map timestamp
  rightReturn := x.returned.right.map timestamp
  skew := match x.returned.left, x.returned.right with
    | some _, some _ => some (saturate (-8388608) 8388607 (x.skew.getD 0))
    | _, _ => none
  lens := x.snapshot

/-- The flags byte of the stored form (R184). -/
def PairRecord.flags (r : PairRecord) : Byte :=
  0#2 ++ BitVec.ofBool r.rightReturn.isSome ++ BitVec.ofBool r.leftReturn.isSome ++
    BitVec.ofBool r.dropMark ++ BitVec.ofBool r.offsetClamp ++ BitVec.ofBool r.expClamp ++
    BitVec.ofBool r.isRamp

def timecodeBytes (v : Timecode) : List Byte := [v.hours, v.minutes, v.seconds, v.frames]

def AxisSnapshot.bytes (a : AxisSnapshot) : List Byte := a.state.code :: bytesOf 2 a.demand

/-- The 38 bytes of the stored form (R184). -/
def PairRecord.bytes (r : PairRecord) : List Byte :=
  [r.outcome.code, r.flags] ++ bytesOf 4 r.number.toNat ++ timecodeBytes r.stamp ++
    [r.generation, r.refState.code] ++ bytesOf 3 r.period ++ bytesOf 3 r.exposure ++
    bytesOf 4 (r.leftReturn.getD 0).toNat ++ bytesOf 4 (r.rightReturn.getD 0).toNat ++
    signedBytes 3 (r.skew.getD 0) ++ r.lens.focus.bytes ++ r.lens.iris.bytes ++ r.lens.zoom.bytes

/-- The 19 words of the stored form (R184). -/
def PairRecord.words (r : PairRecord) : List (BitVec 16) := wordsOf r.bytes

/-! ### Close and release -/

/-- A slot whose status is CLOSED_WAITING. -/
def Slot.closed (x : Slot) : Bool := x.status == .closedWaiting

/-- The OPEN slot with this number. -/
def Slot.isOpenNumber (n : BitVec 32) (x : Slot) : Bool := x.number == n && x.status == .collecting

/-- Pending entries of slots with these numbers are withdrawn (R53). -/
def EyeTrigger.withdraw (numbers : List (BitVec 32)) (y : EyeTrigger) : EyeTrigger :=
  { y with waiting := y.waiting.filter fun n => !numbers.contains n.slot }

/-- The head and the slots directly behind it, as far as they are closed, leave the table in order; their
records join the write queue and their pending entries are withdrawn (R79, R81, R53). -/
def releaseSlots (s : State) : State :=
  let out := s.matcher.slots.takeWhile Slot.closed
  let numbers := out.map (·.number)
  { s with
    matcher :=
      { s.matcher with
        slots := s.matcher.slots.dropWhile Slot.closed
        queue := s.matcher.queue ++ out.map Slot.record }
    trig := { s.trig with eyes := PerEye.build fun e => (s.trig.eyes.get e).withdraw numbers } }

/-- An OPEN slot closes: its outcome is formed, each eye is judged, and it is released if it is the head
(R78). It is CLOSED_WAITING from here until its release. -/
def closeSlot (n : BitVec 32) (s : State) : State :=
  match s.matcher.slots.find? (Slot.isOpenNumber n) with
  | none => s
  | some x =>
    let slots := updateFirst (Slot.isOpenNumber n)
      (fun y => { y with status := .closedWaiting, outcome := some x.judged }) s.matcher.slots
    let s1 := { s with matcher := { s.matcher with slots := slots } }
    releaseSlots (judgeEye x .right (judgeEye x .left s1))

/-- The completion test for an OPEN slot, which closes it if it holds (R77). -/
def closeIfComplete (n : BitVec 32) (s : State) : State :=
  match s.matcher.slots.find? (Slot.isOpenNumber n) with
  | none => s
  | some x => if x.complete then closeSlot n s else s

/-- A boundary that finds 4 slots closes the head (R68). -/
def forceClosure (s : State) : State :=
  match s.matcher.slots with
  | head :: _ => if 4 ≤ s.matcher.slots.length then closeSlot head.number s else s
  | [] => s

/-! ### Returns and decisions -/

/-- Whether an OPEN slot's window for an eye holds a return at `t` (R74). -/
def Slot.takes (e : Eye) (t : Time) (x : Slot) : Bool :=
  x.status == .collecting && (x.returned.get e).isNone &&
    match x.trigger.get e with
    | some trigger => decide (since trigger t < x.period)
    | none => false

/-- A return handed to the Pair Matcher now: assigned to the oldest slot that takes it, with the
completion test, or a stray (R74). -/
def assignReturn (e : Eye) (s : State) : State :=
  match s.matcher.slots.find? (Slot.takes e s.now) with
  | none => strayReturn e s
  | some x =>
    let slots := updateFirst (Slot.takes e s.now)
      (fun y => { y with returned := y.returned.set e (some s.now) }) s.matcher.slots
    closeIfComplete x.number { s with matcher := { s.matcher with slots := slots } }

/-- The slot after the decision of an eye's entry: the pending mark cleared, an issued trigger noted (R59), its time
filled if none is filled yet (R66), and the deadline recomputed (R71, R72). Where a left return had filled trigger_L, an
issued left entry's own time is stored nowhere in the slot and leaves the deadline again: with D < 0 it falls back from
b + |D| + P to b + P, the model's choice (log 40). -/
def Slot.decided (e : Eye) (issued : Option Time) (x : Slot) : Slot :=
  let y :=
    { x with
      armed := x.armed.set e none
      issued := x.issued.set e (x.issued.get e || issued.isSome)
      trigger := x.trigger.set e ((x.trigger.get e).or issued) }
  { y with deadline := y.formDeadline }

/-- A decision handed to the Pair Matcher (R71), with the completion test (R77). -/
def decideSlot (n : BitVec 32) (e : Eye) (issued : Option Time) (s : State) : State :=
  let slots := updateFirst (Slot.isOpenNumber n) (Slot.decided e issued) s.matcher.slots
  closeIfComplete n { s with matcher := { s.matcher with slots := slots } }

/-- RUN and RESTART: presence UNKNOWN with the counts at 0, strays kept (R4, R61). -/
def EyeState.forgotten (y : EyeState) : EyeState := { y with presence := .unknown, miss := 0, hit := 0 }

/-! ### Commands -/

/-- SLOT_DEADLINE: the OPEN slot with this number closes when its deadline is now (R73). -/
def execSlotDeadline (n : BitVec 32) (s : State) : Host.Outcome State Fault Refusal :=
  live s fun s =>
    match s.matcher.slots.find? (Slot.isOpenNumber n) with
    | some x => if x.deadline = s.now then closeSlot n s else s
    | none => s

def eyeReport (y : EyeState) : List Byte :=
  [y.presence.code, BitVec.ofNat 8 y.miss, BitVec.ofNat 8 y.hit]

/-- The reply data of PAIR_STATUS (R82, R183). -/
def pairReport (m : Matcher) : List Byte :=
  eyeReport m.eyes.left ++ eyeReport m.eyes.right ++ bytesOf 2 m.eyes.left.stray ++
    bytesOf 2 m.eyes.right.stray ++
    [BitVec.ofNat 8 m.slots.length, BitVec.ofNat 8 (m.slots.countP Slot.closed)] ++
    bytesOf 4 (match m.slots with
      | x :: _ => x.number.toNat
      | [] => 0) ++
    [BitVec.ofNat 8 m.queue.length]

/-- Owner's part of PAIR_STATUS (R82). -/
def takePairStatus (l : Link) (s : State) : State := reply l .ok (pairReport s.matcher) s

/-- PAIR_STATUS. -/
def execPairStatus (l : Link) (s : State) : Host.Outcome State Fault Refusal :=
  live s (handOver l .unicast (takePairStatus l))

end Sys2Proof.Machine
end

