-- ==== Sys2Proof/Machine/Timecode.lean ====
section
/-!
DEFINITION. The Timecode Counter: legal values, the BCD increment with the drop step, the stamp of a
boundary, pending sets, and the two timecode commands.
-/

namespace Sys2Proof.Machine

/-! ### Legal values (R85) -/

/-- The tens digit of a BCD byte. -/
def tens (b : Byte) : Nat := b.toNat / 16

/-- The units digit of a BCD byte. -/
def units (b : Byte) : Nat := b.toNat % 16

/-- Both digits are 0..9. -/
def bcdDigits (b : Byte) : Bool := decide (tens b ≤ 9) && decide (units b ≤ 9)

/-- The number a BCD byte shows. -/
def bcdValue (b : Byte) : Nat := 10 * tens b + units b

/-- The bases (R84). -/
def legalBase (base : Nat) : Bool := [24, 25, 30, 48, 50, 60].contains base

/-- The first frame label kept in a dropping minute: 02 for base 30, 04 for base 60 (R85, R87). -/
def dropFrames (base : Nat) : Byte := if base = 60 then 4 else 2

/-- A legal timecode value for a base and a drop mode (R85). -/
def legalTimecode (v : Timecode) (base : Nat) (drop : Bool) : Bool :=
  bcdDigits v.hours && bcdDigits v.minutes && bcdDigits v.seconds && bcdDigits v.frames &&
    decide (bcdValue v.hours ≤ 23) && decide (bcdValue v.minutes ≤ 59) && decide (bcdValue v.seconds ≤ 59) &&
    decide (bcdValue v.frames < base) &&
    (!drop || base == 30 || base == 60) &&
    !(drop && v.seconds == 0 && units v.minutes != 0 &&
      decide (bcdValue v.frames < bcdValue (dropFrames base)))

/-! ### The increment (R86, R87) -/

/-- A BCD byte raised by one, with the carry from units into tens (R86). -/
def bcdRaise (b : Byte) : Byte :=
  if units b < 9 then b + 1 else BitVec.ofNat 8 (16 * (tens b + 1))

/-- The drop step: the frames after a carry into the minutes (R87). -/
def droppedFrames (minutes : Byte) (base : Nat) (drop : Bool) : Byte :=
  if drop && units minutes != 0 then dropFrames base else 0

/-- The increment by one frame label (R86, R87). -/
def nextTimecode (v : Timecode) (base : Nat) (drop : Bool) : Timecode :=
  let f := bcdRaise v.frames
  if bcdValue f ≠ base then { v with frames := f }
  else
    let sec := bcdRaise v.seconds
    if bcdValue sec ≠ 60 then { v with seconds := sec, frames := 0 }
    else
      let m := bcdRaise v.minutes
      if bcdValue m ≠ 60 then ⟨v.hours, m, 0, droppedFrames m base drop⟩
      else
        let h := bcdRaise v.hours
        if bcdValue h ≠ 24 then ⟨h, 0, 0, droppedFrames 0 base drop⟩
        else ⟨0, 0, 0, droppedFrames 0 base drop⟩

/-! ### Stamps and pending sets -/

/-- A pending set becomes current (R88, R92). -/
def TimecodeCounter.applyWaiting (c : TimecodeCounter) : TimecodeCounter :=
  match c.waiting with
  | some w => { c with current := w.value, base := w.base, drop := w.drop, waiting := none }
  | none => c

/-- The counter at a boundary; its current value is then the stamp and its drop mode the drop mark (R88). -/
def TimecodeCounter.atBoundary (c : TimecodeCounter) : TimecodeCounter :=
  let c1 :=
    if c.waiting.isSome then c.applyWaiting
    else if c.firstMark then c
    else { c with current := nextTimecode c.current c.base c.drop }
  { c1 with firstMark := false }

/-- The link a reply to the pending set is owed to (R84). -/
def TimecodeCounter.owed (c : TimecodeCounter) : Option Link :=
  match c.waiting with
  | some w => w.owed
  | none => none

/-- The reply OK or ABRT owed for a pending set that ends in the event begun in `before` (R91 to R93). -/
def answerOwed (before : State) (owed : Option Link) (st : Status) (s : State) : State :=
  match owed with
  | some l => replyDuring before l st [] s
  | none => s

/-- The counter's part of a boundary, but for the reply owed (R88). -/
def stampTimecode (s : State) : State := { s with tc := s.tc.atBoundary }

/-- A pending set applied on reaching STOPPED (R92). -/
def applyPendingTimecode (before : State) (s : State) : State :=
  answerOwed before s.tc.owed .ok { s with tc := s.tc.applyWaiting }

/-! ### Commands -/

/-- Owner's part of TC_SET (R90, R91, R93). -/
def takeTcSet (l : Link) (cast : Addressing) (value : Timecode) (base drop : Byte) (s : State) : State :=
  match boolOfCode drop with
  | none => answer l cast .val [] s
  | some d =>
    if legalBase base.toNat && legalTimecode value base.toNat d then
      if s.tc.waiting.isSome then answer l cast .pend [] s
      else if s.timing.run = .stopped then
        answer l cast .ok [] { s with tc := { s.tc with current := value, base := base.toNat, drop := d } }
      else
        let owed := match cast with
          | .unicast => some l
          | .broadcast => none
        { s with tc := { s.tc with waiting := some ⟨value, base.toNat, d, owed⟩ } }
    else answer l cast .val [] s

/-- The reply data of TC_GET (R94, R183). -/
def timecodeReport (c : TimecodeCounter) : List Byte :=
  timecodeBytes c.current ++ [BitVec.ofNat 8 c.base, flagByte c.drop, flagByte c.waiting.isSome]

/-- Owner's part of TC_GET (R94). -/
def takeTcGet (l : Link) (s : State) : State := reply l .ok (timecodeReport s.tc) s

/-- TC_SET. -/
def execTcSet (l : Link) (cast : Addressing) (value : Timecode) (base drop : Byte) (s : State) :
    Host.Outcome State Fault Refusal :=
  live s (handOver l cast (takeTcSet l cast value base drop))

/-- TC_GET. -/
def execTcGet (l : Link) (s : State) : Host.Outcome State Fault Refusal :=
  live s (handOver l .unicast (takeTcGet l))

end Sys2Proof.Machine
end

