-- ==== Sys2Proof/Machine/Triggers.lean ====
section
/-!
DEFINITION. The Trigger and Return Unit: decisions of armed triggers, pulse ends, synthesised returns,
and what RESTART does to the unit.
-/

namespace Sys2Proof.Machine

/-- The state with one eye's trigger output changed. -/
def onEyeTrigger (e : Eye) (f : EyeTrigger → EyeTrigger) (s : State) : State :=
  { s with trig := { s.trig with eyes := s.trig.eyes.set e (f (s.trig.eyes.get e)) } }

/-- Whether a pulse still occupies the time `t`: its end is at or after `t` (R51, log 23). -/
def Pulse.occupies (p : Pulse) (t : Time) : Bool := decide (since p.start t ≤ since p.start p.stop)

/-- An eye's entry is withheld at `t` when the last pulse of the eye ends at or after `t` (R51). -/
def EyeTrigger.withholds (y : EyeTrigger) (t : Time) : Bool :=
  match y.lastPulse with
  | some p => p.occupies t
  | none => false

/-- The ticks from a VIRTUAL trigger to its synthesised return (R58). -/
def synthDelay (e : Eye) (loopSkew : Int) : Nat :=
  match e with
  | .left => 50
  | .right => (max 0 (50 + loopSkew)).toNat

/-- The trigger of an entry is issued now: the line goes ACTIVE for a DRIVEN one, the last pulse is
recorded, and a VIRTUAL one schedules its synthesised return (R51, R58). -/
def issueTrigger (e : Eye) (n : Entry) (s : State) : State :=
  let pulse : Pulse := ⟨n.slot, n.time, later n.time n.exposure⟩
  match n.treatment with
  | .driven => onEyeTrigger e (fun y => { y with active := true, lastPulse := some pulse }) s
  | .virtual =>
    let s1 := onEyeTrigger e (fun y => { y with lastPulse := some pulse }) s
    let due := later n.time (synthDelay e n.loopSkew)
    { s1 with trig := { s1.trig with synth := s1.trig.synth.set e (s1.trig.synth.get e ++ [due]) } }

/-- The first entry of an eye whose trigger time is now. -/
def dueEntry (e : Eye) (s : State) : Option Entry :=
  (s.trig.eyes.get e).waiting.find? fun n => n.time == s.now

/-- The entry of an eye whose trigger time is now, if there is one, is decided and leaves the pending list:
issued, or withheld because the last pulse has not ended before now. The decision is handed to the Pair
Matcher (R51, R71). -/
def decideTrigger (e : Eye) (s : State) : State :=
  match dueEntry e s with
  | none => s
  | some n =>
    let s1 := onEyeTrigger e (fun y => { y with waiting := y.waiting.eraseP fun m => m.time == s.now }) s
    if (s1.trig.eyes.get e).withholds n.time then decideSlot n.slot e none s1
    else decideSlot n.slot e (some n.time) (issueTrigger e n s1)

/-- Whether an eye's pulse on the line ends now (R52). -/
def pulseEndDue (e : Eye) (s : State) : Bool :=
  let y := s.trig.eyes.get e
  y.active && (y.lastPulse.map (·.stop)) == some s.now

/-- Both lines forced INACTIVE, both pending lists and the synthesised returns discarded, and both
last-pulse records absent (R55). -/
def TriggerUnit.cut : TriggerUnit := TriggerUnit.pinReset

/-- TRIGGER_DECISION (R51). -/
def execTriggerDecision (e : Eye) (s : State) : Host.Outcome State Fault Refusal := live s (decideTrigger e)

/-- TRIGGER_PULSE_END: the line becomes INACTIVE at its pulse's end; the last pulse is kept (R52). -/
def execTriggerPulseEnd (e : Eye) (s : State) : Host.Outcome State Fault Refusal :=
  live s fun s => if pulseEndDue e s then onEyeTrigger e (fun y => { y with active := false }) s else s

/-- A synthesised return of an eye that falls due now is handed to the Pair Matcher (R58). -/
def handSynth (e : Eye) (s : State) : State :=
  if (s.trig.synth.get e).contains s.now then
    assignReturn e
      { s with trig := { s.trig with synth := s.trig.synth.set e ((s.trig.synth.get e).erase s.now) } }
  else s

/-- SYNTH_RETURN. -/
def execSynthReturn (e : Eye) (s : State) : Host.Outcome State Fault Refusal := live s (handSynth e)

end Sys2Proof.Machine
end

