-- ==== Sys2Proof/Machine/Boundary.lean ====
section
/-!
DEFINITION. The frame boundary, the one event on which the frame-rate blocks act together (R2): the parts
each block takes in it, and the whole.
-/

namespace Sys2Proof.Machine

/-- What the boundary comes from: the schedule, a reference pulse, or a left return. -/
inductive Cause
  | schedule | pulse | leftReturn
  deriving DecidableEq, Repr

/-- A re-phase moves on at a boundary: from its first to its second step when N was the boundary, and to
its end when a pulse was (R16). -/
def advanceRephase (cause : Cause) : Option RephaseStep → Option RephaseStep
  | none => none
  | some step =>
    match cause with
    | .schedule => some .second
    | .pulse => none
    | .leftReturn => some step

/-- A boundary taken in a locked state sets the lock record (R12), and a re-phase moves on. -/
def enterBoundary (cause : Cause) (s : State) : State :=
  { s with
    timing :=
      { s.timing with
        lockHeld := s.timing.lockHeld || s.timing.refState.isLocked
        rephase := advanceRephase cause s.timing.rephase } }

/-- A commit waiting in COMMITTING is applied at the boundary, but for the reference state and the reply (R31, R35). -/
def applyWaitingCommit (s : State) : State := if s.plan.stage = .committing then applyStaged true s else s

/-- The frame that a boundary at `b` begins, from the draw of its period (R26, R45). -/
def frameOf (p : Plan) (b : Time) (number : BitVec 32) (d : Draw) : Frame where
  start := b
  number := number
  period := d.period
  exposure := clampExposure p d.period (rawExposure p d)
  offset := p.eyeOffset
  isRamp := d.isRamp
  raised := d.raised
  clamped := clampExposure p d.period (rawExposure p d) != rawExposure p d

/-- The four things of R2: the new frame, its pair number and the counter's advance, its period, and N. -/
def beginFrame (s : State) : State :=
  let p := s.plan.active
  let d := drawPeriod p s.timing.acc s.timing.ramp
  { s with
    timing :=
      { s.timing with
        acc := d.acc
        ramp := d.ramp
        frame := some (frameOf p s.now s.timing.pairNumber d)
        next := some (later s.now d.period)
        pairNumber := s.timing.pairNumber + 1 } }

/-- The trigger time of an eye in a frame at `b` with eye offset `d` (R46). -/
def triggerTime (b : Time) (d : Int) (e : Eye) : Time :=
  match e with
  | .left => later b (max 0 (-d)).toNat
  | .right => later b (max 0 d).toNat

/-- The entry armed for an eye at a boundary (R49, R50). Under FOLLOW_LEFT the right trigger is at
b + max(D, 0), which `triggerTime` gives for either sign. -/
def armedEntry (p : Plan) (f : Frame) (e : Eye) : Option Entry :=
  let entry (treatment : Treatment) : Entry :=
    ⟨f.number, triggerTime f.start f.offset e, treatment, f.exposure, p.loopSkew⟩
  match p.refMode, e with
  | .internal, _ => some (entry .driven)
  | .external, _ => some (entry .driven)
  | .loop, _ => some (entry .virtual)
  | .followLeft, .left => none
  | .followLeft, .right => some (entry .driven)

/-- The lens snapshot (R69): demands and match states of the last completed scan; UNCHECKED while the scan mode is OFF,
even while the scan that LENS_RUN OFF found runs on to its completion (R139). -/
def lensSnapshot (u : LensUnit) : PerAxis AxisSnapshot :=
  PerAxis.build fun x =>
    ⟨(u.axes.get x).demand, if u.mode = .off then .unchecked else (u.axes.get x).matching⟩

/-- The slot a boundary opens for frame `f` (R67, R69, R70). A left return taken as a boundary fills trigger_L and
return_L, whatever mode a commit applied there leaves (R18, R50, R67, log 19). -/
def newSlot (cause : Cause) (f : Frame) (s : State) : Slot :=
  let p := s.plan.active
  let filled := if cause = .leftReturn then some f.start else none
  let x : Slot :=
    { number := f.number
      start := f.start
      generation := s.plan.generation
      period := f.period
      exposure := f.exposure
      skewTol := p.skewTol
      trigger := ⟨filled, none⟩
      armed := PerEye.build fun e => (armedEntry p f e).map (·.time)
      issued := ⟨false, false⟩
      returned := ⟨filled, none⟩
      deadline := f.start
      isRamp := f.isRamp
      expClamp := f.clamped || f.raised
      offsetClamp := p.refMode == .followLeft && decide (f.offset < 0)
      snapshot := lensSnapshot s.lens
      stamp := s.tc.current
      dropMark := s.tc.drop
      refState := s.timing.refState
      followLeft := p.refMode == .followLeft
      status := .collecting
      outcome := none }
  { x with deadline := x.formDeadline }

/-- The new slot joins the table at its tail and its triggers are armed (R67, R49). -/
def openSlot (cause : Cause) (s : State) : State :=
  match s.timing.frame with
  | none => s
  | some f =>
    { s with
      matcher := { s.matcher with slots := s.matcher.slots ++ [newSlot cause f s] }
      trig :=
        { s.trig with
          eyes := PerEye.build fun e =>
            let y := s.trig.eyes.get e
            { y with waiting := y.waiting ++ (armedEntry s.plan.active f e).toList } } }

/-- The committer of the commit that a boundary taken in the state `before` applied is answered, with that boundary's
pair number (R36); `begun` is the state in which the event began. -/
def answerBoundaryCommit (begun before : State) (s : State) : State :=
  match before.plan.committer with
  | some l => answerCommitter begun l before.timing.pairNumber s
  | none => s

/-- The frame timing and plan part of a boundary: everything up to the new frame's reference state (R2, R21, R35). -/
def boundaryTiming (cause : Cause) (s : State) : State :=
  let s1 := beginFrame (applyWaitingCommit (enterBoundary cause s))
  if s.plan.stage = .committing then settleReference s.plan s1 else s1

/-- The replies owed at a boundary taken in the state `before`, in an event that began in `begun`: to the committer of
the commit it applied, and to the sender of the timecode set it applied (R36, R88). -/
def answerAtBoundary (begun before : State) (s : State) : State :=
  answerOwed begun before.tc.owed .ok (answerBoundaryCommit begun before s)

/-- A boundary taken now, in the order of log 18: the Frame Timing Unit and the Plan Unit, the timecode stamp, the
forced closure, the slot, the triggers whose time is now, the Lens Control Unit, and the replies owed. The event that
brought it began in `begun`; the EVT bits of its replies are open where they differ from there on (log 14). -/
def boundary (begun : State) (cause : Cause) (s : State) : State :=
  let s1 := openSlot cause (forceClosure (stampTimecode (boundaryTiming cause s)))
  answerAtBoundary begun s (frameScan (decideTrigger .right (decideTrigger .left s1)))

/-- The Frame Timing Unit takes a boundary only in RUNNING (R2). -/
def takeBoundary (begun : State) (cause : Cause) (s : State) : State :=
  if s.timing.run = .running then boundary begun cause s else s

/-- After an event that began in `before`: if the reference state has changed to one in which the schedule is in
service and N is past, or the run still owes its first boundary, a boundary is taken at once (R3, R4). -/
def boundaryAfterChange (before : State) (s : State) : State :=
  if s.timing.refState ≠ before.timing.refState ∧ scheduleInService s ∧ boundaryOwed s then
    takeBoundary before .schedule s
  else s

end Sys2Proof.Machine
end

