-- ==== Sys2Proof/Machine/PairLog.lean ====
section
/-!
DEFINITION. The Pair Log: append and drop, attach and detach, the read point and end of a LOG_READ with
the carried forms of its records, and the log commands.
-/

namespace Sys2Proof.Machine

/-! ### Ring and readers -/

/-- The oldest LSN, N - c (R96). -/
def PairLog.oldest (g : PairLog) : BitVec 32 := g.next - BitVec.ofNat 32 g.count

/-- The newest LSN, N - 1 (R96). -/
def PairLog.newest (g : PairLog) : BitVec 32 := g.next - 1

/-- The state with one link's place in the log changed. -/
def onReader (l : Link) (f : Reader → Reader) (s : State) : State :=
  { s with log := { s.log with readers := s.log.readers.set l (f (s.log.readers.get l)) } }

/-- Whether a drop of the LSN moves this reader (R98). -/
def Reader.losesAt (r : Reader) (lsn : BitVec 32) : Bool := r.attached && r.cursor == lsn

/-- The reader moved on past a dropped record (R98). -/
def Reader.moved (r : Reader) : Reader := { r with cursor := r.cursor + 1, gap := bump 255 r.gap }

/-- The oldest record leaves the log; attached links whose cursor pointed at it move on, count a gap and
receive LOG_GAP (R98). -/
def dropOldest (s : State) : State :=
  let lsn := s.log.oldest
  let g := s.log
  let readers := PerLink.build fun l =>
    let r := g.readers.get l
    if r.losesAt lsn then r.moved else r
  { s with log := { g with count := g.count - 1, readers := readers } }.onLinks fun l x =>
    if (g.readers.get l).losesAt lsn then { x with events := x.events ||| EventKind.logGap.mask } else x

/-- An append at the completion of a record write: the oldest record is dropped if the log is full, the
record takes the next LSN, and LOG_READY is re-formed (R97). -/
def appendRecord (s : State) : State :=
  let s1 := if 64 ≤ s.log.count then dropOldest s else s
  reformReadyAll { s1 with log := { s1.log with next := s1.log.next + 1, count := s1.log.count + 1 } }

/-- The log emptied by RESTART: the count and gap counts 0, every cursor at N, attach flags kept (R108). -/
def PairLog.emptied (g : PairLog) : PairLog :=
  { g with count := 0, readers := PerLink.build fun l => ⟨(g.readers.get l).attached, g.next, 0⟩ }

/-! ### Carried forms (R185) -/

/-- The carried form of a record from its 38 stored bytes: the optional fields that flag bits 4 and 5 as
read direct (R185). -/
def carriedForm (stored : List Byte) : List Byte :=
  let flags := stored.getD 1 0
  let left := flags.getLsbD 4
  let right := flags.getLsbD 5
  stored.take 18 ++ (if left then (stored.drop 18).take 4 else []) ++
    (if right then (stored.drop 22).take 4 else []) ++
    (if left && right then (stored.drop 26).take 3 else []) ++ (stored.drop 29).take 9

/-- A record as carried, from its 19 words as read: the CORRUPT stub if a word fails (R105, R185). -/
def carriedRecord (words : List MemWord) : List Byte :=
  if words.all passes then carriedForm ((words.map fun w => wordBytes (wordData w)).flatten)
  else [corruptCode]

/-- `k` records from the words of a burst, each preceded by its length (R185). -/
def carriedRecords : Nat → List MemWord → List Byte
  | 0, _ => []
  | k + 1, ws =>
    let r := carriedRecord (ws.take 19)
    BitVec.ofNat 8 r.length :: r ++ carriedRecords k (ws.drop 19)

/-- The reply data of a LOG_READ (R185). -/
def logReadReport (gap k : Nat) (start : BitVec 32) (words : List MemWord) : List Byte :=
  [BitVec.ofNat 8 gap, BitVec.ofNat 8 k] ++ bytesOf 4 start.toNat ++ carriedRecords k words

/-! ### Reading -/

/-- The number of records a LOG_READ takes at its read point (R103). -/
def PairLog.readCount (g : PairLog) (l : Link) (maximum : Nat) : Nat := min maximum (g.unread l)

/-- The gap count is cleared at the read point (R103). -/
def clearGap (l : Link) (s : State) : State := onReader l (fun r => { r with gap := 0 }) s

/-- The end of a LOG_READ: the cursor rises by k, LOG_READY is re-formed, and the reply is sent (R104). -/
def finishLogRead (l : Link) (gap k : Nat) (start : BitVec 32) (words : List MemWord) (s : State) : State :=
  let s1 := reformReady l (onReader l (fun r => { r with cursor := r.cursor + BitVec.ofNat 32 k }) s)
  reply l .ok (logReadReport gap k start words) s1

/-- A LOG_READ that reads nothing, from its read point to its reply (R102, R103, R104). -/
def readNothing (l : Link) (s : State) : State :=
  let r := s.log.readers.get l
  finishLogRead l r.gap 0 r.cursor [] (clearGap l s)

/-! ### Commands -/

/-- Owner's part of LOG_ATTACH (R100). Whether the EVT bit of its reply shows a LOG_READY that the attach puts in is
left open (log 14). -/
def takeLogAttach (l : Link) (s : State) : State :=
  let cursor := s.log.oldest
  replyDuring s l .ok (bytesOf 4 cursor.toNat) (reformReady l (onReader l (fun _ => ⟨true, cursor, 0⟩) s))

/-- Owner's part of LOG_DETACH (R101). -/
def takeLogDetach (l : Link) (s : State) : State :=
  if (s.log.readers.get l).attached then
    replyDuring s l .ok [] (reformReady l (onReader l (fun r => { r with attached := false }) s))
  else reply l .state [] s

/-- Owner's part of LOG_READ at its taking (R102). -/
def takeLogRead (l : Link) (maximum : Byte) (s : State) : State :=
  if !(s.log.readers.get l).attached then reply l .state [] s
  else if maximum.toNat < 1 ∨ 4 < maximum.toNat then reply l .val [] s
  else if s.log.unread l = 0 then readNothing l s
  else
    { s with
      memory :=
        { s.memory with linkRequests := s.memory.linkRequests.set l (some (.logRead maximum.toNat)) } }

/-- The reply data of LOG_STATUS (R106, R183). -/
def logReport (g : PairLog) (l : Link) : List Byte :=
  let r := g.readers.get l
  [BitVec.ofNat 8 g.count] ++ bytesOf 4 g.oldest.toNat ++ bytesOf 4 g.newest.toNat ++
    bytesOf 4 r.cursor.toNat ++ [BitVec.ofNat 8 r.gap, flagByte r.attached]

/-- Owner's part of LOG_STATUS (R106). -/
def takeLogStatus (l : Link) (s : State) : State :=
  if (s.log.readers.get l).attached then reply l .ok (logReport s.log l) s else reply l .state [] s

/-- LOG_ATTACH. -/
def execLogAttach (l : Link) (s : State) : Host.Outcome State Fault Refusal :=
  live s (handOver l .unicast (takeLogAttach l))

/-- LOG_DETACH. -/
def execLogDetach (l : Link) (s : State) : Host.Outcome State Fault Refusal :=
  live s (handOver l .unicast (takeLogDetach l))

/-- LOG_READ. -/
def execLogRead (l : Link) (maximum : Byte) (s : State) : Host.Outcome State Fault Refusal :=
  live s (handOver l .unicast (takeLogRead l maximum))

/-- LOG_STATUS. -/
def execLogStatus (l : Link) (s : State) : Host.Outcome State Fault Refusal :=
  live s (handOver l .unicast (takeLogStatus l))

end Sys2Proof.Machine
end

