-- ==== Sys2Proof/Machine/Run.lean ====
section
/-!
DEFINITION. Runs: RUN, STOP, RESTART and TIMING_STATUS, the reaching of STOPPED, the boundaries' sources
(the schedule, reference pulses, left returns and their lapse), and the two events that apply what waits
for a boundary or for STOPPED.
-/

namespace Sys2Proof.Machine

/-! ### Reaching STOPPED (R6) -/

/-- In DRAINING with the slot table and the write queue empty (R6). -/
def drained (s : State) : Bool :=
  s.timing.run == .draining && s.matcher.slots.isEmpty && s.matcher.queue.isEmpty

/-- The run's own state at its end: STOPPED, no N, no ramp, no frame, no re-phase, the lock record clear (R6, R7, R12). -/
def Timing.ended (t : Timing) : Timing :=
  { t with run := .stopped, next := none, ramp := none, lockHeld := false, rephase := none, frame := none,
           runStart := none }

/-- STOPPED is reached, in an event that began in `begun`: TIMING_STOPPED to all links, the reference state's STOPPED
value, and a waiting commit and timecode set applied (R6, R12, R31, R92). -/
def reachStopped (begun : State) (s : State) : State :=
  let s1 := recomputeRef (postAll .timingStopped { s with timing := s.timing.ended })
  let s2 := if s.plan.stage = .committing then applyWhileStopped begun s.plan.committer s1 else s1
  applyPendingTimecode begun s2

/-- STOPPED is reached if the part has drained. -/
def stopIfDrained (begun : State) (s : State) : State := if drained s then reachStopped begun s else s

/-! ### RUN (R4) -/

/-- The Frame Timing Unit's own state on taking RUN (R4). -/
def Timing.started (start : Option (BitVec 32)) (t : Timing) : Timing :=
  { t with
    run := .running, next := none, acc := 0, ramp := none, lockHeld := false, rephase := none, frame := none
    pairNumber := start.getD t.pairNumber
    runStart := some t.timebase }

/-- Eye presence forgotten, strays kept (R61). -/
def Matcher.forgetEyes (m : Matcher) : Matcher :=
  { m with eyes := PerEye.build fun e => (m.eyes.get e).forgotten }

/-- RUN taken, before its reply and first boundary (R4). -/
def startRun (start : Option (BitVec 32)) (s : State) : State :=
  let s1 :=
    { s with
      timing := s.timing.started start
      matcher := s.matcher.forgetEyes
      tc := { s.tc with firstMark := true } }
  setRef (refValueEntered s1) s1

/-- Whether the first boundary is taken at the instant of RUN: INTERNAL and LOOP, and EXTERNAL with no
input selected (R4). -/
def firstBoundaryAtRun (s : State) : Bool :=
  match s.plan.active.refMode with
  | .internal => true
  | .loop => true
  | .external => s.timing.selected.isNone
  | .followLeft => false

/-- Owner's part of RUN (R4). The EVT bit of its reply is open where the change of the reference state moves it
(log 14). -/
def takeRun (l : Link) (cast : Addressing) (start : Option (BitVec 32)) (s : State) : State :=
  if s.timing.run = .stopped then
    let s1 := answerDuring s l cast .ok [] (startRun start s)
    if firstBoundaryAtRun s1 then takeBoundary s .schedule s1 else s1
  else answer l cast .state [] s

/-! ### STOP (R5) -/

/-- Owner's part of STOP (R5): DRAINING, the re-phase ended (R17), and STOPPED at once if nothing is in
flight. -/
def takeStop (l : Link) (cast : Addressing) (s : State) : State :=
  if s.timing.run = .running then
    let s1 := { s with timing := { s.timing with run := .draining, rephase := none } }
    answerDuring s l cast .ok [] (stopIfDrained s s1)
  else answer l cast .state [] s

/-! ### RESTART (R7, R8) -/

/-- What RESTART leaves of the Pair Matcher (R8, R83). -/
def Matcher.restarted (m : Matcher) : Matcher :=
  ⟨[], [], PerEye.build fun e => { (m.eyes.get e).forgotten with stray := 0 }⟩

/-- The bursts that RESTART cuts: a record write and a LOG_READ (R159). -/
def Burst.restartCuts (b : Burst) : Bool :=
  match b.holder with
  | .record => true
  | .logRead .. => true
  | _ => false

/-- The port after RESTART: FREE if the burst under way was cut (R159). -/
def RecordMemory.restarted (m : RecordMemory) : RecordMemory :=
  { m with port := m.port.filter fun b => !b.restartCuts }

/-- The reply of a LOG_READ whose burst RESTART cut: the gap value taken at the read point, no records, and
the cursor as RESTART left it (R104). -/
def answerCutRead (before : State) (s : State) : State :=
  match before.memory.port with
  | some ⟨.logRead l gap _ _, _, _, _⟩ =>
    replyDuring before l .ok (logReadReport gap 0 (s.log.readers.get l).cursor []) s
  | _ => s

/-- RESTART in every block but for replies (R7, R8, R34, R55, R92, R108, R159). -/
def restartBlocks (s : State) : State :=
  let s1 :=
    { s with
      timing := s.timing.ended
      trig := TriggerUnit.cut
      matcher := s.matcher.restarted
      log := s.log.emptied
      plan := s.plan.freed
      tc := { s.tc with waiting := none }
      memory := s.memory.restarted }
  let s2 := recomputeRef (reformReadyAll s1)
  if s.timing.run = .stopped then s2 else postAll .timingStopped s2

/-- The reply ABRT to the committer of a discarded commit (R8, R31). -/
def abortCommit (before : State) (s : State) : State :=
  match before.plan.committer with
  | some l => replyDuring before l .abrt [] s
  | none => s

/-- Owner's part of RESTART (R7, R8). -/
def takeRestart (l : Link) (cast : Addressing) (s : State) : State :=
  let s1 := restartBlocks s
  let s2 := answerCutRead s (answerOwed s s.tc.owed .abrt (abortCommit s s1))
  answerDuring s l cast .ok [] s2

/-! ### TIMING_STATUS (R23) -/

/-- The reply data of TIMING_STATUS (R23, R183). -/
def timingReport (s : State) : List Byte :=
  let t := s.timing
  [t.run.code, t.refState.code, t.inputs.a.state.code, BitVec.ofNat 8 t.inputs.a.count,
   t.inputs.b.state.code, BitVec.ofNat 8 t.inputs.b.count, s.plan.generation] ++
    bytesOf 3 (reportedPeriod s) ++ [BitVec.ofNat 8 (reportedRampIndex s)] ++ bytesOf 4 t.pairNumber.toNat

/-- Owner's part of TIMING_STATUS. -/
def takeTimingStatus (l : Link) (s : State) : State := reply l .ok (timingReport s) s

/-! ### Reference inputs -/

/-- The state with one reference input changed; a change of its qualification state re-forms the
reference state (R12, R14). -/
def onInput (r : RefId) (f : RefInput → RefInput) (s : State) : State :=
  let x := s.timing.inputs.get r
  let s1 := { s with timing := { s.timing with inputs := s.timing.inputs.set r (f x) } }
  if (f x).state = x.state then s1 else recomputeRef s1

/-- A pulse of the selected input that may be a boundary: it is one, unless a re-phase is in progress and
the pulse is not after the threshold (R15, R16). -/
def pulseBoundary (begun : State) (s : State) : State :=
  if s.timing.rephase.isSome ∧ ¬ afterThreshold s then s else takeBoundary begun .pulse s

/-- A pulse on a reference input now (R10, R14 to R16): qualification first, then the boundary. -/
def refPulse (r : RefId) (s : State) : State :=
  let s1 := onInput r (RefInput.pulse s.plan.active.basePeriod s.now) s
  let stayedGood := (s.timing.inputs.get r).state = .good ∧ (s1.timing.inputs.get r).state = .good
  if stayedGood ∧ s1.plan.active.refMode = .external ∧ s1.timing.refState = lockedTo r then pulseBoundary s s1
  else boundaryAfterChange s s1

/-- Whether an input's absence deadline is now (R11). -/
def absenceDue (r : RefId) (s : State) : Bool :=
  let x := s.timing.inputs.get r
  x.state != .absent && x.deadline == some s.now

/-- The absence expiry of an input (R11), with what follows from the change of selection. -/
def expireInput (r : RefId) (s : State) : State :=
  boundaryAfterChange s (onInput r (fun _ => RefInput.expired) s)

/-! ### Returns -/

/-- A FOLLOW_LEFT left return now (R18, R19): in RUNNING a boundary in LOCKED_L if the half-period test
passes; otherwise, and in the other run states, a stray. -/
def leftReturn (s : State) : State :=
  if s.timing.run = .running ∧ halfPeriodTest s then takeBoundary s .leftReturn (setRef .lockedL s)
  else strayReturn .left s

/-- An edge on a return input, routed by the active REF_MODE and the run state (R56). -/
def routeReturn (e : Eye) (s : State) : State :=
  match s.plan.active.refMode, e with
  | .loop, _ => s
  | .followLeft, .left => leftReturn s
  | _, _ => if s.timing.run = .stopped then strayReturn e s else assignReturn e s

/-- Left returns have lapsed: HOLDOVER, with a boundary at once in RUNNING (R18, R19). -/
def lapseLeft (s : State) : State := takeBoundary s .schedule (setRef .holdover s)

/-! ### What waits for a boundary or for STOPPED -/

/-- The event now at which a waiting commit or timecode set ends: in STOPPED both are applied; in DRAINING the
reaching of STOPPED, in RUNNING the scheduled boundary, if it falls now (R31, R92, log 17). -/
def settleWaiting (s : State) : State :=
  match s.timing.run with
  | .stopped =>
    applyPendingTimecode s
      (if s.plan.stage = .committing then applyWhileStopped s s.plan.committer s else s)
  | .draining => stopIfDrained s s
  | .running => if scheduleDue s then takeBoundary s .schedule s else s

/-! ### Meanings -/

/-- RUN. -/
def execRun (l : Link) (cast : Addressing) (start : Option (BitVec 32)) (s : State) :
    Host.Outcome State Fault Refusal :=
  live s (handOver l cast (takeRun l cast start))

/-- STOP. -/
def execStop (l : Link) (cast : Addressing) (s : State) : Host.Outcome State Fault Refusal :=
  live s (handOver l cast (takeStop l cast))

/-- RESTART. -/
def execRestart (l : Link) (cast : Addressing) (s : State) : Host.Outcome State Fault Refusal :=
  live s (handOver l cast (takeRestart l cast))

/-- TIMING_STATUS. -/
def execTimingStatus (l : Link) (s : State) : Host.Outcome State Fault Refusal :=
  live s (handOver l .unicast (takeTimingStatus l))

/-- SCHEDULE_BOUNDARY: the arrival of N, a boundary when the schedule is in service in RUNNING (R3). -/
def execScheduleBoundary (s : State) : Host.Outcome State Fault Refusal :=
  live s fun s => if scheduleDue s then takeBoundary s .schedule s else s

/-- REF_PULSE (R10). -/
def execRefPulse (r : RefId) (s : State) : Host.Outcome State Fault Refusal := live s (refPulse r)

/-- REF_ABSENCE_EXPIRY (R11). -/
def execRefAbsenceExpiry (r : RefId) (s : State) : Host.Outcome State Fault Refusal :=
  live s fun s => if absenceDue r s then expireInput r s else s

/-- RETURN_EDGE (R56). -/
def execReturnEdge (e : Eye) (s : State) : Host.Outcome State Fault Refusal := live s (routeReturn e)

/-- LEFT_RETURN_LAPSE (R18, R19). -/
def execLeftReturnLapse (s : State) : Host.Outcome State Fault Refusal :=
  live s fun s => if leftLapseDue s then lapseLeft s else s

/-- REACH_STOPPED (R6). -/
def execReachStopped (s : State) : Host.Outcome State Fault Refusal :=
  live s fun s => stopIfDrained s s

/-- PLAN_APPLY: the event that ends a waiting commit, when it falls now (R31, R35, log 17). -/
def execPlanApply (s : State) : Host.Outcome State Fault Refusal :=
  live s fun s => if s.plan.stage = .committing then settleWaiting s else s

/-- TIMECODE_PENDING_APPLY: the event that ends a pending set, when it falls now (R92, log 17). -/
def execTimecodePendingApply (s : State) : Host.Outcome State Fault Refusal :=
  live s fun s => if s.tc.waiting.isSome then settleWaiting s else s

end Sys2Proof.Machine
end

