-- ==== Sys2Proof/Machine/Arbiter.lean ====
section
/-!
DEFINITION. Record Memory's Arbiter: the grant decision, the word accesses of a burst, and what each holder
does at the end of its burst.
-/

namespace Sys2Proof.Machine

/-! ### Grants (R155, R156) -/

/-- The links in the order of preference that follows the last link served (R156). -/
def linkOrder : Link → List Link
  | .a => [.b, .c, .a]
  | .b => [.c, .a, .b]
  | .c => [.a, .b, .c]

/-- The link a decision among links falls to (R156). -/
def RecordMemory.nextLink (m : RecordMemory) : Option Link :=
  (linkOrder m.lastServed).find? fun l => (m.linkRequests.get l).isSome

/-- The memory becomes BUSY with a burst of `n` words (R155, R157). -/
def grantBurst (h : Holder) (n : Nat) (s : State) : State :=
  { s with memory := { s.memory with port := some ⟨h, n, n, []⟩ } }

/-- The Lens Control Unit's grant: four words if the table is still VALID, with the trim in force now; no
word otherwise, and the target stage goes on (R121, R124). -/
def grantSegment (q : SegmentRequest) (s : State) : State :=
  let s1 := { s with memory := { s.memory with lensRequest := none } }
  if (channelGet s.lens.tables q.channel).state = .valid then
    grantBurst (.segment q.channel q.lower (channelGet s.lens.channels q.channel).trim true) 4 s1
  else continueTargets s1

/-- A link's grant: it becomes the last link served, and its request is served as its command's rule gives
(R156, R103, R116, R120). -/
def grantLink (l : Link) (q : LinkRequest) (s : State) : State :=
  let s1 :=
    { s with memory := { s.memory with linkRequests := s.memory.linkRequests.set l none, lastServed := l } }
  match q with
  | .logRead maximum =>
    let r := s.log.readers.get l
    let k := s.log.readCount l maximum
    if k = 0 then readNothing l s1 else grantBurst (.logRead l r.gap r.cursor k) (19 * k) (clearGap l s1)
  | .tableEntry c first points => grantBurst (.tableEntry l c first points) (2 * points.length) s1
  | .tableRead c index =>
    let t := channelGet s.lens.tables c
    if t.count ≤ index then reply l .val [] s1 else grantBurst (.tableRead l c index t.state t.count) 2 s1

/-- Whether a grant decision is due: the memory FREE and a request waiting (R155). -/
def grantDue (s : State) : Bool :=
  s.memory.port.isNone &&
    (!s.matcher.queue.isEmpty || s.memory.lensRequest.isSome || s.memory.nextLink.isSome)

/-- The grant decision: the Pair Matcher, then the Lens Control Unit, then the links (R155). -/
def grant (s : State) : State :=
  if !s.matcher.queue.isEmpty then grantBurst .record 19 s
  else
    match s.memory.lensRequest with
    | some q => grantSegment q s
    | none =>
      match s.memory.nextLink with
      | none => s
      | some l =>
        match s.memory.linkRequests.get l with
        | some q => grantLink l q s
        | none => s

/-! ### Word accesses (R150, R157) -/

/-- The first address of a table's place (R150). -/
def tablePlace (c : ChannelId) : Nat := 64 * tableNumber c

/-- The first address of the record place of an LSN: 180H + 19 (k mod 64) (R96, R150). -/
def recordPlace (lsn : BitVec 32) : Nat := 0x180 + 19 * (lsn.toNat % 64)

/-- The address of word `j` of a burst (R157). -/
def wordAddress (g : PairLog) (h : Holder) (j : Nat) : Nat :=
  match h with
  | .sweep => j
  | .record => recordPlace g.next + j
  | .segment c lower _ _ => tablePlace c + 2 * lower + j
  | .logRead _ _ start _ => recordPlace (start + BitVec.ofNat 32 (j / 19)) + j % 19
  | .tableEntry _ c first _ => tablePlace c + 2 * first + j
  | .tableRead _ c index _ _ => tablePlace c + 2 * index + j

/-- The words of breakpoints in the order they are written: demand, code, demand, code, … (R112). -/
def pointWords : List (BitVec 16 × BitVec 16) → List (BitVec 16)
  | [] => []
  | p :: ps => p.1 :: p.2 :: pointWords ps

/-- What word `j` of a burst writes, or nothing for a burst that reads (R153, R157). -/
def wordWritten (m : Matcher) (h : Holder) (j : Nat) : Option (BitVec 16) :=
  match h with
  | .sweep => some 0
  | .record =>
    match m.queue with
    | r :: _ => some (r.words.getD j 0)
    | [] => some 0
  | .tableEntry _ _ _ points => some ((pointWords points).getD j 0)
  | _ => none

/-- The address of the word a burst accesses in the coming tick, if one is under way with words to come. -/
def nextAccess (s : State) : Option Nat :=
  match s.memory.port with
  | none => none
  | some b => if b.left = 0 then none else some (wordAddress s.log b.holder (b.length - b.left))

/-- The word access of one tick (R157): the next word of the burst is written, or read and kept. -/
def accessWord (s : State) : State :=
  match s.memory.port with
  | none => s
  | some b =>
    if b.left = 0 then s
    else
      let j := b.length - b.left
      let a := wordAddress s.log b.holder j
      match wordWritten s.matcher b.holder j with
      | some d =>
        { s with
          memory :=
            { s.memory with
              words := s.memory.words.write a (withParity d)
              port := some { b with left := b.left - 1 } } }
      | none =>
        { s with
          memory :=
            { s.memory with port := some { b with left := b.left - 1, got := b.got ++ [s.memory.words.read a] } } }

/-! ### Ends of bursts (R157) -/

/-- The end of a record write: the record leaves the queue and is appended, and STOPPED is reached if that
was the drain's last (R81, R97, R6). -/
def endRecord (s : State) : State :=
  stopIfDrained s (appendRecord { s with matcher := { s.matcher with queue := s.matcher.queue.tail } })

/-- What a segment read gives a channel from its four words: a target, or nothing when a word fails (R123 to R125). -/
def segmentResult (words : List MemWord) (x : Nat) (trim : Int) : Option Computed :=
  match words with
  | [d0, c0, d1, c1] =>
    if words.all passes then
      some (targetOf
        (baseCode (wordData d0).toNat (wordData c0).toNat (wordData d1).toNat (wordData c1).toNat x) trim)
    else none
  | _ => none

/-- The end of a segment read (R123 to R125); the words of an abandoned scan are discarded (R142). -/
def endSegment (c : ChannelId) (trim : Int) (isLive : Bool) (words : List MemWord) (s : State) : State :=
  if isLive then
    match segmentResult words (scanDemand s c) trim with
    | some k => continueTargets (onScan (fun sc => { sc with computed := channelSet sc.computed c (some k) }) s)
    | none => continueTargets (onScan (fun sc => { sc with failed := channelSet sc.failed c true }) s)
  else s

/-- The end of a TABLE_ENTRY write (R116). -/
def endTableEntry (l : Link) (c : ChannelId) (first : Nat) (points : List (BitVec 16 × BitVec 16)) (s : State) :
    State :=
  reply l .ok [] (editTable c (Table.entered first points (tableLapse s)) s)

/-- The end of a TABLE_READ (R120). -/
def endTableRead (l : Link) (state : TableState) (count : Nat) (words : List MemWord) (s : State) : State :=
  if words.all passes then
    reply l .ok
      ([state.code, BitVec.ofNat 8 count] ++ (words.map fun w => wordBytes (wordData w)).flatten) s
  else reply l .par [] s

/-- Whether the burst under way ends now: none of its words is still to come (R157). -/
def burstEndDue (s : State) : Bool :=
  match s.memory.port with
  | some b => b.left == 0
  | none => false

/-- The end of a burst: the memory becomes FREE and the holder acts on the completion (R157). -/
def endBurst (b : Burst) (s : State) : State :=
  let s1 := { s with memory := { s.memory with port := none } }
  match b.holder with
  | .sweep => s1
  | .record => endRecord s1
  | .segment c _ trim isLive => endSegment c trim isLive b.got s1
  | .logRead l gap start k => finishLogRead l gap k start b.got s1
  | .tableEntry l c first points => endTableEntry l c first points s1
  | .tableRead l _ _ state count => endTableRead l state count b.got s1

/-- The end of the burst under way, if it ends now. -/
def finishBurst (s : State) : State :=
  match s.memory.port with
  | some b => if b.left = 0 then endBurst b s else s
  | none => s

/-- ARBITER_GRANT (R155). -/
def execArbiterGrant (s : State) : Host.Outcome State Fault Refusal :=
  live s fun s => if grantDue s then grant s else s

/-- BURST_END (R157). -/
def execBurstEnd (s : State) : Host.Outcome State Fault Refusal := live s finishBurst

end Sys2Proof.Machine
end

