-- ==== Sys2Proof/Machine/Links.lean ====
section
/-!
DEFINITION. The station links: the receiver, the judging of a complete message and its dispatch to the
owner, the end of a reply, and the Event Unit's own commands.
-/

namespace Sys2Proof.Machine

/-! ### The Event Unit's commands -/

/-- Owner's part of EVENT_MASK (R177): bits 13..15 stand for no kind. Whether the EVT bit of its reply goes by the
old mask or the new one is left open (log 14). -/
def takeEventMask (l : Link) (mask : BitVec 16) (s : State) : State :=
  if 8192 ≤ mask.toNat then reply l .val [] s
  else replyDuring s l .ok [] (s.onLink l fun x => { x with mask := mask.setWidth 13 })

/-- Owner's part of EVENT_READ (R176): the set as it stands is the data; every kind but LOG_READY is then
cleared, and the reply formed after that. -/
def takeEventRead (l : Link) (s : State) : State :=
  let taken := (s.links.get l).events
  reply l .ok (bytesOf 2 taken.toNat) (s.onLink l fun x => { x with events := x.events &&& EventKind.logReady.mask })

/-- The reply data of IDENTIFY (R174, R183). -/
def identity (l : Link) (s : State) : List Byte := [0x41, 0x20, 0x01, s.unitCode, linkLetter l]

/-- Owner's part of IDENTIFY (R174). -/
def takeIdentify (l : Link) (s : State) : State := reply l .ok (identity l s) s

/-- EVENT_MASK. -/
def execEventMask (l : Link) (mask : BitVec 16) (s : State) : Host.Outcome State Fault Refusal :=
  live s (handOver l .unicast (takeEventMask l mask))

/-- EVENT_READ. -/
def execEventRead (l : Link) (s : State) : Host.Outcome State Fault Refusal :=
  live s (handOver l .unicast (takeEventRead l))

/-- IDENTIFY. -/
def execIdentify (l : Link) (s : State) : Host.Outcome State Fault Refusal :=
  live s (handOver l .unicast (takeIdentify l))

/-! ### Judging a complete message -/

/-- The owner's part of a link command (R168, R173). The part's own events are no link command. -/
def takeCommand (i : Instr) (s : State) : State :=
  match i with
  | .run l cast start => takeRun l cast start s
  | .stop l cast => takeStop l cast s
  | .restart l cast => takeRestart l cast s
  | .timingStatus l => takeTimingStatus l s
  | .planSet l field value => takePlanSet l field value s
  | .planCommit l => takePlanCommit l s
  | .planDiscard l => takePlanDiscard l s
  | .planGet l which => takePlanGet l which s
  | .pairStatus l => takePairStatus l s
  | .tcSet l cast value base drop => takeTcSet l cast value base drop s
  | .tcGet l => takeTcGet l s
  | .logAttach l => takeLogAttach l s
  | .logDetach l => takeLogDetach l s
  | .logRead l maximum => takeLogRead l maximum s
  | .logStatus l => takeLogStatus l s
  | .eventMask l mask => takeEventMask l mask s
  | .eventRead l => takeEventRead l s
  | .identify l => takeIdentify l s
  | .tableBegin l eye axis => takeTableBegin l eye axis s
  | .tableEntry l eye axis first points => takeTableEntry l eye axis first points s
  | .tableEnd l eye axis => takeTableEnd l eye axis s
  | .tableAbort l eye axis => takeTableAbort l eye axis s
  | .tableRead l eye axis index => takeTableRead l eye axis index s
  | .lensSource l axis source => takeLensSource l axis source s
  | .lensDemand l axis value => takeLensDemand l axis value s
  | .lensTrim l eye axis trim => takeLensTrim l eye axis trim s
  | .lensTol l axis tolerance settle => takeLensTol l axis tolerance settle s
  | .lensDrive l eye axis drive => takeLensDrive l eye axis drive s
  | .lensRun l mode => takeLensRun l mode s
  | .lensStatus l => takeLensStatus l s
  | .pinReset | .resetRelease _ _ | .receiveCharacter _ _ _ | .messageReceived _ _
  | .interCharacterTimeout _ | .replySent _ | .planEditLapse | .planApply | .timecodePendingApply
  | .tableLapse _ _ | .scheduleBoundary | .refPulse _ | .refAbsenceExpiry _ | .returnEdge _
  | .leftReturnLapse | .triggerDecision _ | .triggerPulseEnd _ | .synthReturn _ | .slotDeadline _
  | .reachStopped | .arbiterGrant | .burstEnd | .scanDue | .conversionsDone _ => s

/-- A complete unicast message that passes its check is dispatched: CODE, LEN, or to its owner (R168). -/
def dispatchUnicast (l : Link) (code : Byte) (args : List Byte) (s : State) : State :=
  match parseMessage l .unicast code args with
  | .badCode => reply l .code [] s
  | .badLength => reply l .len [] s
  | .command i => handOver l .unicast (takeCommand i) s

/-- A complete broadcast message that passes its check is handed over if it is RUN, STOP, RESTART or TC_SET
with an accepted length, and is discarded otherwise (R172). -/
def dispatchBroadcast (l : Link) (code : Byte) (args : List Byte) (s : State) : State :=
  match parseMessage l .broadcast code args with
  | .command i => if i.broadcasts then handOver l .broadcast (takeCommand i) s else s
  | _ => s

/-- The receiver back in IDLE with its buffer empty and its timer stopped. -/
def LinkState.rested (x : LinkState) : LinkState := { x with state := .idle, buffer := [], timer := none }

/-- The message in the buffer is judged with its check byte (R167). -/
def judgeMessage (l : Link) (check : Byte) (s : State) : State :=
  let x := s.links.get l
  let s1 := s.onLink l LinkState.rested
  match x.buffer with
  | code :: length :: args =>
    let sound := byteSum (code :: length :: args) + check == 0
    match x.addressing with
    | .unicast => if sound then dispatchUnicast l code args s1 else reply l .chk [] s1
    | .broadcast => if sound then dispatchBroadcast l code args s1 else s1
  | _ => s1

/-! ### The receiver (R163 to R166, R169) -/

/-- A fault while a message is assembled: it is abandoned and LINK_FAULT goes to this link alone (R166). -/
def linkFault (l : Link) (s : State) : State := post .linkFault l (s.onLink l LinkState.rested)

/-- The inter-character timer started or restarted now (R164, R166). -/
def characterTimer (s : State) : Option Time := some (later s.now Config.interCharacterTicks)

/-- A lead received in IDLE (R163), or in ADDRESSED or BODY after the message being assembled has been
dropped (R165). -/
def receiveLead (l : Link) (b : Byte) (s : State) : State :=
  let addressed (cast : Addressing) : State :=
    s.onLink l fun x => { x with state := .addressed, addressing := cast, buffer := [], timer := characterTimer s }
  if b = s.unitCode then addressed .unicast
  else if b = 0xFF then addressed .broadcast
  else s.onLink l LinkState.rested

/-- Whether the next body character is the check byte: the buffer holds the command code, the length and
all the arguments (R164). -/
def LinkState.awaitsCheck (x : LinkState) : Bool :=
  match x.buffer with
  | _ :: length :: args => args.length == length.toNat
  | _ => false

/-- A body character received in ADDRESSED or BODY takes its place in the message (R164); a length above 64
is a fault (R166). -/
def receiveBody (l : Link) (b : Byte) (s : State) : State :=
  let x := s.links.get l
  if x.awaitsCheck then judgeMessage l b s
  else if x.buffer.length = 1 ∧ 64 < b.toNat then linkFault l s
  else s.onLink l fun x => { x with state := .body, buffer := x.buffer ++ [b], timer := characterTimer s }

/-- A character received at its stop bit (R162 to R166, R169). -/
def receiveCharacter (l : Link) (ch : BitVec 9) (framingError : Bool) (s : State) : State :=
  let x := s.links.get l
  let lead := ch.getLsbD 8
  let b : Byte := ch.setWidth 8
  match x.state with
  | .executing => s.onLink l fun x => { x with ovr := true }
  | .replying => s.onLink l fun x => { x with ovr := true }
  | .idle => if framingError || !lead || (b != s.unitCode && b != 0xFF) then s else receiveLead l b s
  | .addressed => if framingError then linkFault l s else if lead then receiveLead l b s else receiveBody l b s
  | .body => if framingError then linkFault l s else if lead then receiveLead l b s else receiveBody l b s

/-- Whether a message is being assembled. -/
def LinkState.assembling (x : LinkState) : Bool := x.state == .addressed || x.state == .body

/-- RECEIVE_CHARACTER. -/
def execReceiveCharacter (l : Link) (ch : BitVec 9) (framingError : Bool) (s : State) :
    Host.Outcome State Fault Refusal :=
  live s (receiveCharacter l ch framingError)

/-- MESSAGE_RECEIVED: the receipt of the check byte, as a body character, by a receiver that awaits it, or
by one that is busy and discards it (R167, R169, log 12). -/
def execMessageReceived (l : Link) (check : Byte) (s : State) : Host.Outcome State Fault Refusal :=
  live s fun s =>
    let x := s.links.get l
    if (x.state = .body ∧ x.awaitsCheck) ∨ x.busy then receiveCharacter l (bodyCharacter check) false s else s

/-- INTER_CHARACTER_TIMEOUT: the expiry of the timer while a message is being assembled (R166, log 9). -/
def execInterCharacterTimeout (l : Link) (s : State) : Host.Outcome State Fault Refusal :=
  live s fun s =>
    let x := s.links.get l
    if x.assembling ∧ x.timer.isSome then linkFault l s else s

/-- REPLY_SENT: the reply's check byte has been sent, and the receiver returns to IDLE (R171, log 9). -/
def execReplySent (l : Link) (s : State) : Host.Outcome State Fault Refusal :=
  live s fun s =>
    if (s.links.get l).state = .replying then
      s.onLink l fun x => { x with state := .idle, tx := [], txDone := none }
    else s

end Sys2Proof.Machine
end

