-- ==== Sys2Proof/Machine/Tick.lean ====
section
/-!
DEFINITION. What the part does of its own: the events of its own that are due at the present instant, the
choice among them, and the passing of one tick when nothing is due (log 6).
-/

namespace Sys2Proof.Machine

/-- A list of one event when it is due. -/
def whenDue (due : Bool) (i : Instr) : List Instr := if due then [i] else []

/-- The two events of a link that its own timers bring (R166, R171, log 9). -/
def linkDue (s : State) (l : Link) : List Instr :=
  let x := s.links.get l
  whenDue (x.assembling && x.timer == some s.now) (.interCharacterTimeout l) ++
    whenDue (x.state == .replying && x.txDone == some s.now) (.replySent l)

/-- The three events of an eye that fall due at a time (R51, R52, R58). -/
def eyeDue (s : State) (e : Eye) : List Instr :=
  whenDue (dueEntry e s).isSome (.triggerDecision e) ++ whenDue (pulseEndDue e s) (.triggerPulseEnd e) ++
    whenDue ((s.trig.synth.get e).contains s.now) (.synthReturn e)

/-- The open slots whose deadline is now (R73). -/
def slotsDue (s : State) : List Instr :=
  (s.matcher.slots.filter fun x => x.status == .collecting && x.deadline == s.now).map
    fun x => .slotDeadline x.number

/-- The events of the frame-rate blocks that fall due now. -/
def timingDue (s : State) : List Instr :=
  whenDue (scheduleDue s) .scheduleBoundary ++ whenDue (absenceDue .a s) (.refAbsenceExpiry .a) ++
    whenDue (absenceDue .b s) (.refAbsenceExpiry .b) ++ whenDue (leftLapseDue s) .leftReturnLapse ++
    eyeDue s .left ++ eyeDue s .right ++ slotsDue s ++ whenDue (drained s) .reachStopped ++
    whenDue (s.timing.run == .stopped && s.plan.stage == .committing) .planApply ++
    whenDue (s.timing.run == .stopped && s.tc.waiting.isSome) .timecodePendingApply ++
    whenDue (editLapseDue s) .planEditLapse

/-- The events of the Lens Control Unit and of Record Memory that fall due now. -/
def lensDue (s : State) : List Instr :=
  whenDue (burstEndDue s) .burstEnd ++ whenDue (scanTimerDue s) .scanDue ++
    whenDue (conversionsDue s) (.conversionsDone (scanConversions s)) ++
    (channelOrder.map fun c => whenDue (tableLapseDue c s) (.tableLapse c.eye c.axis)).flatten

/-- All of the part's own events that are due at this instant, but for the Arbiter's decision. -/
def dueEvents (s : State) : List Instr :=
  timingDue s ++ lensDue s ++ linkDue s .a ++ linkDue s .b ++ linkDue s .c

/-- The number that settles a tie among `n` events: the next of the state's choices, or the free value when
they are used up (log 7). -/
def tieNumber (s : State) (n : Nat) : Nat :=
  (match s.tieChoices with
    | k :: _ => k
    | [] => Config.tiePick s.now.toNat n) % n

/-- One of the events due, taken first: a tie uses up a choice (log 7). -/
def pickEvent (s : State) (i : Instr) : List Instr → State
  | [] => { s with pending := [i] }
  | rest =>
    let due := i :: rest
    { s with pending := [due.getD (tieNumber s due.length) i], tieChoices := s.tieChoices.tail }

/-- One tick passes: the burst under way accesses its next word, the timebase counts, and the conversion that ends
with the tick is made (R1, R143, R157). -/
def passTick (s : State) : State :=
  let s1 := accessWord s
  { s1 with
    timing := { s1.timing with timebase := later s1.now 1 }
    lens := s1.lens.convert (later s1.now 1) }

/-- Whether the coming tick would access a word that does not exist (R150). -/
def accessMissing (s : State) : Bool :=
  match nextAccess s with
  | some a => decide (Config.memoryWords ≤ a)
  | none => false

/-- The coming tick, or the fault of an address that does not exist (log 28). -/
def tick (s : State) : Host.Outcome State Fault Refusal :=
  if accessMissing s then .fault .noSuchAddress else .next (passTick s)

/-- The part left to itself with no command waiting (log 6): nothing while RESET# is asserted; else one of the
events due now is put into the queue; with none due, the Arbiter's decision, which judges every request
present at the instant (R155); and with nothing to do at this instant, one tick passes. -/
def idle (s : State) : Host.Outcome State Fault Refusal :=
  if s.pins.resetAsserted then .next s
  else
    match dueEvents s with
    | i :: rest => .next (pickEvent s i rest)
    | [] => if grantDue s then .next { s with pending := [.arbiterGrant] } else tick s

end Sys2Proof.Machine
end

