-- ==== Sys2Proof/Machine/Dispatch.lean ====
section
/-!
DEFINITION. The meaning of every command: one arm for each row of spec/opcode_table.json.
-/

namespace Sys2Proof.Machine

def exec (i : Instr) (s : State) : Host.Outcome State Fault Refusal :=
  match i with
  | .pinReset => Sys2Proof.Machine.execPinReset s
  | .resetRelease sel rate => Sys2Proof.Machine.execResetRelease sel rate s
  | .receiveCharacter l ch framingError => Sys2Proof.Machine.execReceiveCharacter l ch framingError s
  | .messageReceived l check => Sys2Proof.Machine.execMessageReceived l check s
  | .interCharacterTimeout l => Sys2Proof.Machine.execInterCharacterTimeout l s
  | .replySent l => Sys2Proof.Machine.execReplySent l s
  | .run l cast start => Sys2Proof.Machine.execRun l cast start s
  | .stop l cast => Sys2Proof.Machine.execStop l cast s
  | .restart l cast => Sys2Proof.Machine.execRestart l cast s
  | .timingStatus l => Sys2Proof.Machine.execTimingStatus l s
  | .planSet l field value => Sys2Proof.Machine.execPlanSet l field value s
  | .planCommit l => Sys2Proof.Machine.execPlanCommit l s
  | .planDiscard l => Sys2Proof.Machine.execPlanDiscard l s
  | .planGet l which => Sys2Proof.Machine.execPlanGet l which s
  | .planEditLapse => Sys2Proof.Machine.execPlanEditLapse s
  | .planApply => Sys2Proof.Machine.execPlanApply s
  | .pairStatus l => Sys2Proof.Machine.execPairStatus l s
  | .tcSet l cast value base drop => Sys2Proof.Machine.execTcSet l cast value base drop s
  | .tcGet l => Sys2Proof.Machine.execTcGet l s
  | .timecodePendingApply => Sys2Proof.Machine.execTimecodePendingApply s
  | .logAttach l => Sys2Proof.Machine.execLogAttach l s
  | .logDetach l => Sys2Proof.Machine.execLogDetach l s
  | .logRead l maximum => Sys2Proof.Machine.execLogRead l maximum s
  | .logStatus l => Sys2Proof.Machine.execLogStatus l s
  | .eventMask l mask => Sys2Proof.Machine.execEventMask l mask s
  | .eventRead l => Sys2Proof.Machine.execEventRead l s
  | .identify l => Sys2Proof.Machine.execIdentify l s
  | .tableBegin l eye axis => Sys2Proof.Machine.execTableBegin l eye axis s
  | .tableEntry l eye axis first points => Sys2Proof.Machine.execTableEntry l eye axis first points s
  | .tableEnd l eye axis => Sys2Proof.Machine.execTableEnd l eye axis s
  | .tableAbort l eye axis => Sys2Proof.Machine.execTableAbort l eye axis s
  | .tableRead l eye axis index => Sys2Proof.Machine.execTableRead l eye axis index s
  | .tableLapse eye axis => Sys2Proof.Machine.execTableLapse eye axis s
  | .lensSource l axis source => Sys2Proof.Machine.execLensSource l axis source s
  | .lensDemand l axis value => Sys2Proof.Machine.execLensDemand l axis value s
  | .lensTrim l eye axis trim => Sys2Proof.Machine.execLensTrim l eye axis trim s
  | .lensTol l axis tolerance settle => Sys2Proof.Machine.execLensTol l axis tolerance settle s
  | .lensDrive l eye axis drive => Sys2Proof.Machine.execLensDrive l eye axis drive s
  | .lensRun l mode => Sys2Proof.Machine.execLensRun l mode s
  | .lensStatus l => Sys2Proof.Machine.execLensStatus l s
  | .scheduleBoundary => Sys2Proof.Machine.execScheduleBoundary s
  | .refPulse r => Sys2Proof.Machine.execRefPulse r s
  | .refAbsenceExpiry r => Sys2Proof.Machine.execRefAbsenceExpiry r s
  | .returnEdge e => Sys2Proof.Machine.execReturnEdge e s
  | .leftReturnLapse => Sys2Proof.Machine.execLeftReturnLapse s
  | .triggerDecision e => Sys2Proof.Machine.execTriggerDecision e s
  | .triggerPulseEnd e => Sys2Proof.Machine.execTriggerPulseEnd e s
  | .synthReturn e => Sys2Proof.Machine.execSynthReturn e s
  | .slotDeadline number => Sys2Proof.Machine.execSlotDeadline number s
  | .reachStopped => Sys2Proof.Machine.execReachStopped s
  | .arbiterGrant => Sys2Proof.Machine.execArbiterGrant s
  | .burstEnd => Sys2Proof.Machine.execBurstEnd s
  | .scanDue => Sys2Proof.Machine.execScanDue s
  | .conversionsDone codes => Sys2Proof.Machine.execConversionsDone codes s

end Sys2Proof.Machine
end

