-- ==== Sys2Proof/Safety.lean ====
section
/-!
DEFINITION. The terms claims are stated in: when a command is taken, what an answered link shows, which
blocks an effect touches; and the invariants that a safe run of the part keeps.
-/

namespace Sys2Proof.Machine

/-! ### Taking a command and answering it -/

/-- A command of link `l` is taken: RESET# is released and the receiver is not busy (R168, R169). -/
def Ready (l : Link) (s : State) : Prop :=
  s.pins.resetAsserted = false ∧ (s.links.get l).busy = false

/-- The reply characters `tx` carry this status, OVR mark, EVT bit and data (R170, R180). -/
def Carries (unit : Byte) (st : Status) (ovr evt : Bool) (data : List Byte) (tx : List (BitVec 9)) : Prop :=
  ∃ status check : Byte,
    tx = leadCharacter unit :: (status :: BitVec.ofNat 8 data.length :: data ++ [check]).map bodyCharacter ∧
      byteSum (status :: BitVec.ofNat 8 data.length :: data ++ [check]) = 0 ∧
      status.extractLsb' 0 6 = st.number ∧ status.getLsbD 6 = evt ∧ status.getLsbD 7 = ovr

/-- Between `s` and `t` link `l` was answered with this status and data: it is REPLYING, sends the reply with
the OVR mark `s` had, and has it cleared. EVT is the attention condition of `t`, unless `s` and `t` differ
in it: there it is open (log 14). -/
def Answered (l : Link) (st : Status) (data : List Byte) (s t : State) : Prop :=
  (t.links.get l).state = .replying ∧ (t.links.get l).ovr = false ∧ (t.links.get l).buffer = [] ∧
    ∃ evt : Bool,
      Carries s.unitCode st (s.links.get l).ovr evt data (t.links.get l).tx ∧
        ((s.links.get l).attention = (t.links.get l).attention → evt = (t.links.get l).attention)

/-- As `Answered`, with EVT certainly the attention condition of `t`. -/
def AnsweredEvt (l : Link) (st : Status) (data : List Byte) (s t : State) : Prop :=
  (t.links.get l).state = .replying ∧ (t.links.get l).ovr = false ∧ (t.links.get l).buffer = [] ∧
    Carries s.unitCode st (s.links.get l).ovr (t.links.get l).attention data (t.links.get l).tx

/-- Link `l` has the pending set and the mask it had. -/
def SameEvents (l : Link) (s t : State) : Prop :=
  (t.links.get l).events = (s.links.get l).events ∧ (t.links.get l).mask = (s.links.get l).mask

/-- Every link but `l` is as it was. -/
def OtherLinks (l : Link) (s t : State) : Prop := ∀ k, k ≠ l → t.links.get k = s.links.get k

/-- The command was answered and did nothing else: only link `l`'s receiver and transmitter moved. -/
def AnsweredOnly (l : Link) (st : Status) (data : List Byte) (s t : State) : Prop :=
  AnsweredEvt l st data s t ∧ SameEvents l s t ∧ OtherLinks l s t ∧ t = { s with links := t.links }

/-- Among the links only `l`'s receiver and transmitter moved, and the command was answered. -/
def AnsweredAlone (l : Link) (st : Status) (data : List Byte) (s t : State) : Prop :=
  AnsweredEvt l st data s t ∧ SameEvents l s t ∧ OtherLinks l s t

/-- The command was taken and its reply is still owed: link `l` is EXECUTING with an empty buffer, and
nothing else of the links moved. -/
def LeftExecuting (l : Link) (s t : State) : Prop :=
  (t.links.get l).state = .executing ∧ (t.links.get l).buffer = [] ∧ (t.links.get l).tx = (s.links.get l).tx ∧
    (t.links.get l).ovr = (s.links.get l).ovr ∧ SameEvents l s t ∧ OtherLinks l s t

/-- A command that may be broadcast was answered when unicast, and left its receiver IDLE with no reply when
broadcast (R172). -/
def Acknowledged (l : Link) (cast : Addressing) (st : Status) (data : List Byte) (s t : State) : Prop :=
  match cast with
  | .unicast => Answered l st data s t
  | .broadcast =>
    (t.links.get l).state = .idle ∧ (t.links.get l).buffer = [] ∧ (t.links.get l).tx = (s.links.get l).tx ∧
      (t.links.get l).ovr = (s.links.get l).ovr

/-- A command that may be broadcast was refused: as `Acknowledged`, and nothing else moved. -/
def Refused (l : Link) (cast : Addressing) (st : Status) (s t : State) : Prop :=
  Acknowledged l cast st [] s t ∧ SameEvents l s t ∧ OtherLinks l s t ∧ t = { s with links := t.links }

/-- Nothing of any link moved but its pending set. -/
def OnlyEvents (s t : State) : Prop :=
  ∀ l, t.links.get l = { s.links.get l with events := (t.links.get l).events }

/-- The pending sets after this kind, and no other, was posted to every link. -/
def PostedAll (k : EventKind) (s t : State) : Prop :=
  ∀ l, (t.links.get l).events = (s.links.get l).events ||| k.mask

/-- The Plan Unit after an application of its staged plan (R35, R37). -/
def appliedPlan (u : PlanUnit) : PlanUnit := ⟨u.staged, u.staged, .free, none, none, u.generation + 1⟩

/-! ### Boundaries -/

/-- The unclamped exposure of a frame of period `period` drawn from the ramp state `ramp` (R44). -/
def rawExposureFrom (p : Plan) (ramp : Option Ramp) (period : Nat) : Nat :=
  match ramp with
  | some r => if r.hold = .time ∧ r.index + 1 < r.frames then r.eStart else (2 * period * p.angle + 3600) / 7200
  | none => (2 * period * p.angle + 3600) / 7200

/-- Timing `t` shows the frame that a boundary at `b` began under plan `p` from the accumulator `acc` and the ramp
state `ramp` (R2, R22, R39, R41 to R45): its number, its period from the accumulator or the ramp formula held to the
fit floor, its exposure held to 20 .. P - GAP - |D|, N, and the generator left behind. -/
def FrameDrawn (p : Plan) (acc : Nat) (ramp : Option Ramp) (b : Time) (number : BitVec 32) (t : Timing) : Prop :=
  ∃ f, t.frame = some f ∧ f.start = b ∧ f.number = number ∧ f.offset = p.eyeOffset ∧
    t.next = some (b + BitVec.ofNat 48 f.period) ∧ t.pairNumber = number + 1 ∧
    (∀ a, (ramp = none ∧ a = acc) ∨ (∃ r, ramp = some r ∧ r.frames ≤ r.index ∧ a = 0) →
      f.isRamp = false ∧ f.raised = false ∧ t.ramp = none ∧
        if p.rateNum ≤ a + p.remainder then
          f.period = p.basePeriod + 1 ∧ t.acc + p.rateNum = a + p.remainder
        else f.period = p.basePeriod ∧ t.acc = a + p.remainder) ∧
    (∀ r, ramp = some r → r.index < r.frames → ∀ formula : Int,
      formula = r.p0 + (2 * (((r.p1 : Int) - r.p0) * (r.index + 1 : Nat)) + r.frames) / (2 * r.frames) →
        f.isRamp = true ∧ t.acc = acc ∧ t.ramp = some { r with index := r.index + 1 } ∧
          (f.period : Int) = max formula (p.gap + p.eyeOffset.natAbs + 20) ∧
          f.raised = decide (formula < p.gap + p.eyeOffset.natAbs + 20)) ∧
    (∀ raw, raw = rawExposureFrom p (if f.isRamp then ramp else none) f.period →
      f.exposure = min (max raw 20) (f.period - p.gap - p.eyeOffset.natAbs) ∧
        f.clamped = decide (f.exposure ≠ raw))

/-- The timecode at a boundary (R88): a pending set becomes current; else the first boundary of a run keeps the
current value, and every other raises it by one label. -/
def TimecodeStamped (c c' : TimecodeCounter) : Prop :=
  (∀ w, c.waiting = some w → c' = ⟨w.value, w.base, w.drop, none, false⟩) ∧
    (c.waiting = none → c.firstMark = true → c' = { c with firstMark := false }) ∧
    (c.waiting = none → c.firstMark = false → c' = { c with current := nextTimecode c.current c.base c.drop })

/-- The arrival of N is a boundary (R3, R16). -/
def InService (s : State) : Prop :=
  s.timing.refState = .free ∨ s.timing.refState = .holdover ∨ s.timing.refState = .loop ∨
    (s.timing.refState = .seeking ∧ s.plan.active.refMode ≠ .followLeft) ∨
    ((s.timing.refState = .lockedA ∨ s.timing.refState = .lockedB) ∧ s.timing.rephase = some .first)

/-- N falls now, in RUNNING, with the schedule in service. -/
def BoundaryDue (s : State) : Prop :=
  s.timing.run = .running ∧ s.timing.next = some s.timing.timebase ∧ InService s

/-- The plan that the frame of a boundary taken now works to: the staged one when a commit waits (R26, R31). -/
def planAtBoundary (s : State) : Plan := if s.plan.stage = .committing then s.plan.staged else s.plan.active

/-- A plan's fields lie in the ranges of the field table (R25). -/
def Plan.inRanges (p : Plan) : Prop :=
  (1000 ≤ p.rateNum ∧ p.rateNum ≤ 240000) ∧ (1000 ≤ p.rateDen ∧ p.rateDen ≤ 1001) ∧
    (1 ≤ p.angle ∧ p.angle ≤ 3600) ∧ p.gap ≤ 100000 ∧ p.rampLen ≤ 255 ∧ p.alignLine ≤ 1000 ∧
    p.readoutL ≤ 500000 ∧ p.readoutR ≤ 500000 ∧ (1 ≤ p.skewTol ∧ p.skewTol ≤ 65535) ∧
    (-1000 ≤ p.loopSkew ∧ p.loopSkew ≤ 1000)

/-- Whether a commit that changes the rate waits. -/
def RateCommitWaits (s : State) : Prop :=
  s.plan.stage = .committing ∧
    (s.plan.staged.rateNum ≠ s.plan.active.rateNum ∨ s.plan.staged.rateDen ≠ s.plan.active.rateDen)

/-- A commit from another mode to EXTERNAL at an unchanged rate waits. -/
def ExternalCommitWaits (s : State) : Prop :=
  s.plan.stage = .committing ∧ ¬ RateCommitWaits s ∧ s.plan.staged.refMode = .external ∧
    s.plan.active.refMode ≠ .external

/-! ### Records and closes -/

/-- A return of eye `e` was a stray: its count rose, saturating at 65535, STRAY_RETURN went to all links, and
nothing else moved (R62, R63). -/
def StrayEffect (e : Eye) (s t : State) : Prop :=
  PostedAll .strayReturn s t ∧ OnlyEvents s t ∧
    t = { s with
          matcher :=
            { s.matcher with
              eyes := s.matcher.eyes.set e
                { s.matcher.eyes.get e with stray := min 65535 ((s.matcher.eyes.get e).stray + 1) } }
          links := t.links }

/-- The outcome a close gives a slot (R47, R78). -/
def OutcomeIs (x : Slot) (o : Outcome) : Prop :=
  (∀ tl rl tr rr, x.trigger = ⟨some tl, some tr⟩ → x.returned = ⟨some rl, some rr⟩ →
    o = if (((timestamp rr - timestamp tr).toNat : Int) - (timestamp rl - timestamp tl).toNat).natAbs ≤ x.skewTol
        then .paired else .skewed) ∧
    (x.returned.left.isSome = true → x.returned.right = none → o = .leftOnly) ∧
    (x.returned.left = none → x.returned.right.isSome = true → o = .rightOnly) ∧
    (x.returned.left = none → x.returned.right = none → o = .missed)

/-- The pair record of the closed slot `x` (R80): each field from its own item of the slot, the return times by their
low 32 bits, and the skew of R47, saturated, exactly when both returns are present. -/
def RecordOf (x : Slot) (r : PairRecord) : Prop :=
  (∀ o, x.outcome = some o → r.outcome = o) ∧ r.isRamp = x.isRamp ∧ r.expClamp = x.expClamp ∧
    r.offsetClamp = x.offsetClamp ∧ r.number = x.number ∧ r.stamp = x.stamp ∧ r.dropMark = x.dropMark ∧
    r.generation = x.generation ∧ r.refState = x.refState ∧ r.period = x.period ∧ r.exposure = x.exposure ∧
    r.leftReturn = x.returned.left.map (BitVec.setWidth 32) ∧
    r.rightReturn = x.returned.right.map (BitVec.setWidth 32) ∧
    (∀ tl rl tr rr, x.trigger = ⟨some tl, some tr⟩ → x.returned = ⟨some rl, some rr⟩ →
      r.skew = some (max (-8388608) (min 8388607
        (((timestamp rr - timestamp tr).toNat : Int) - (timestamp rl - timestamp tl).toNat)))) ∧
    (x.returned.left = none ∨ x.returned.right = none → r.skew = none) ∧
    (∀ a, r.lens.get a = x.snapshot.get a)

/-- An eye's counts and presence before and after its judgement for slot `x` (R59, R60): it is expected where its
trigger was issued, and the left eye under FOLLOW_LEFT always. -/
def EyeJudged (x : Slot) (e : Eye) (y y' : EyeState) : Prop :=
  y'.stray = y.stray ∧
    if x.issued.get e = true ∨ (e = .left ∧ x.followLeft = true) then
      if (x.returned.get e).isSome = true then
        y'.miss = 0 ∧ y'.hit = min 255 (y.hit + 1) ∧
          y'.presence = if y.presence = .lost ∧ y'.hit ≠ 2 then .lost else .present
      else
        y'.hit = 0 ∧ y'.miss = min 255 (y.miss + 1) ∧ y'.presence = if y'.miss = 4 then .lost else y.presence
    else y' = y

/-- The slot `x`, between `pre` and `post` in the table of `s`, was closed (R59, R60, R68, R78, R79, R81, R53):
its outcome formed, each eye judged, EYE_LOST or EYE_BACK posted where the presence moved; behind an older
slot it waits in its place, and at the head it leaves with the closed slots behind it, their records queued and
their armed triggers withdrawn. -/
def CloseEffect (pre : List Slot) (x : Slot) (post : List Slot) (s t : State) : Prop :=
  (∃ o, OutcomeIs x o ∧
    (pre ≠ [] →
      t.matcher.slots = pre ++ { x with status := .closedWaiting, outcome := some o } :: post ∧
        t.matcher.queue = s.matcher.queue ∧ t.trig = s.trig) ∧
    (pre = [] →
      t.matcher.slots = post.dropWhile (fun y => y.status == .closedWaiting) ∧
        (∃ records, t.matcher.queue = s.matcher.queue ++ records ∧
          List.Forall₂ RecordOf
            ({ x with status := .closedWaiting, outcome := some o } ::
              post.takeWhile fun y => y.status == .closedWaiting) records) ∧
        t.trig.synth = s.trig.synth ∧
        ∀ e, t.trig.eyes.get e =
          { s.trig.eyes.get e with
            waiting := (s.trig.eyes.get e).waiting.filter fun n =>
              n.slot ∉ x.number :: (post.takeWhile fun y => y.status == .closedWaiting).map (·.number) })) ∧
    (∀ e, EyeJudged x e (s.matcher.eyes.get e) (t.matcher.eyes.get e)) ∧
    (∀ l k, holds (t.links.get l).events k = true ↔
      holds (s.links.get l).events k = true ∨
        (k = .eyeLost ∧ ∃ e, (s.matcher.eyes.get e).presence ≠ .lost ∧ (t.matcher.eyes.get e).presence = .lost) ∨
        (k = .eyeBack ∧ ∃ e, (s.matcher.eyes.get e).presence = .lost ∧ (t.matcher.eyes.get e).presence ≠ .lost)) ∧
    OnlyEvents s t ∧ t = { s with matcher := t.matcher, trig := t.trig, links := t.links }

/-- The value of bytes, the most significant first (R181). -/
def bigEndian (bytes : List Byte) : Nat := bytes.foldl (fun v b => 256 * v + b.toNat) 0

/-- The `n` bytes of a stored form from byte `i`. -/
def bytesAt (i n : Nat) (stored : List Byte) : List Byte := (stored.drop i).take n

/-- The 38 bytes `stored` are the stored form of record `r`, item by item; a field the record lacks is zeros (R184). -/
def StoredAs (r : PairRecord) (stored : List Byte) : Prop :=
  stored.length = 38 ∧
    bigEndian (bytesAt 0 1 stored) =
      (match r.outcome with | .paired => 0 | .skewed => 1 | .leftOnly => 2 | .rightOnly => 3 | .missed => 4) ∧
    (∀ flags, stored[1]? = some flags →
      flags.getLsbD 0 = r.isRamp ∧ flags.getLsbD 1 = r.expClamp ∧ flags.getLsbD 2 = r.offsetClamp ∧
        flags.getLsbD 3 = r.dropMark ∧ flags.getLsbD 4 = r.leftReturn.isSome ∧
        flags.getLsbD 5 = r.rightReturn.isSome ∧ flags.getLsbD 6 = false ∧ flags.getLsbD 7 = false) ∧
    bigEndian (bytesAt 2 4 stored) = r.number.toNat ∧
    bytesAt 6 4 stored = [r.stamp.hours, r.stamp.minutes, r.stamp.seconds, r.stamp.frames] ∧
    bytesAt 10 1 stored = [r.generation] ∧
    bigEndian (bytesAt 11 1 stored) =
      (match r.refState with
        | .free => 0 | .seeking => 1 | .lockedA => 2 | .lockedB => 3 | .lockedL => 4 | .holdover => 5 | .loop => 6) ∧
    bigEndian (bytesAt 12 3 stored) = r.period % 2 ^ 24 ∧ bigEndian (bytesAt 15 3 stored) = r.exposure % 2 ^ 24 ∧
    bigEndian (bytesAt 18 4 stored) = (r.leftReturn.map BitVec.toNat).getD 0 ∧
    bigEndian (bytesAt 22 4 stored) = (r.rightReturn.map BitVec.toNat).getD 0 ∧
    (bigEndian (bytesAt 26 3 stored) : Int) = r.skew.getD 0 % 2 ^ 24 ∧
    ∀ i x, [Axis.focus, .iris, .zoom][i]? = some x →
      bigEndian (bytesAt (29 + 3 * i) 1 stored) =
        (match (r.lens.get x).state with | .unchecked => 0 | .matched => 1 | .mismatched => 2) ∧
      bigEndian (bytesAt (30 + 3 * i) 2 stored) = (r.lens.get x).demand % 2 ^ 16

/-- `d` is word `j` of the stored form of record `r`: byte 2j in the upper half, byte 2j + 1 in the lower (R184). -/
def RecordWord (r : PairRecord) (j : Nat) (d : BitVec 16) : Prop :=
  ∃ stored, StoredAs r stored ∧ j < 19 ∧ d.toNat = bigEndian (bytesAt (2 * j) 2 stored)

/-- `form` carries the record read as `words`: the stub CORRUPT where a word fails, and else the stored bytes with
the optional fields that flag bits 4 and 5 as read direct, for records of 19 words 38, 31, 31 or 27 bytes (R105, R185). -/
def CarriedAs (words : List MemWord) (form : List Byte) : Prop :=
  ((∃ w ∈ words, passes w = false) → form = [0x80]) ∧
    ((∀ w ∈ words, passes w = true) → ∀ stored flags : List Byte,
      stored = words.flatMap (fun w => [w.extractLsb' 8 8, w.extractLsb' 0 8]) → flags = bytesAt 1 1 stored →
      ∀ left right : Bool, left = flags.any (·.getLsbD 4) → right = flags.any (·.getLsbD 5) →
        form =
          (match left, right with
            | true, true =>
              bytesAt 0 18 stored ++ bytesAt 18 4 stored ++ bytesAt 22 4 stored ++ bytesAt 26 3 stored ++
                bytesAt 29 9 stored
            | true, false => bytesAt 0 18 stored ++ bytesAt 18 4 stored ++ bytesAt 29 9 stored
            | false, true => bytesAt 0 18 stored ++ bytesAt 22 4 stored ++ bytesAt 29 9 stored
            | false, false => bytesAt 0 18 stored ++ bytesAt 29 9 stored) ∧
        (words.length = 19 → form.length = match left, right with | true, true => 38 | false, false => 27 | _, _ => 31))

/-! ### What a boundary does -/

/-- The ticks from a boundary to an eye's trigger (R46). -/
def eyeDelay (d : Int) (e : Eye) : Nat :=
  match e with
  | .left => (max 0 (-d)).toNat
  | .right => (max 0 d).toNat

/-- Whether an eye is armed under a reference mode, and how (R49, R50). -/
def armedAs (m : RefMode) (e : Eye) : Option Treatment :=
  match m, e with
  | .followLeft, .left => none
  | .loop, _ => some .virtual
  | _, _ => some .driven

/-- What a boundary gives an eye whose pending list was empty and whose last pulse is over (R49 to R51, R58, R67):
an eye not armed is left alone; one whose delay is 0 is issued at once; any other waits in its list. `filled` is the
trigger time that a left return gives the eye without issuing it. -/
def EyeArmed (p : Plan) (f : Frame) (e : Eye) (x : Slot) (filled : Option Time) (u u' : EyeTrigger)
    (synth synth' : List Time) : Prop :=
  match armedAs p.refMode e with
  | none => x.armed.get e = none ∧ x.trigger.get e = filled ∧ x.issued.get e = false ∧ u' = u ∧ synth' = synth
  | some how =>
    if eyeDelay f.offset e = 0 then
      x.armed.get e = none ∧ x.trigger.get e = some f.start ∧ x.issued.get e = true ∧
        u' = { u with
                active := u.active || decide (how = .driven)
                lastPulse := some ⟨f.number, f.start, f.start + BitVec.ofNat 48 f.exposure⟩ } ∧
        synth' = synth ++
          if how = .virtual then
            [f.start + BitVec.ofNat 48
              (match e with
                | .left => 50
                | .right => (max 0 (50 + p.loopSkew)).toNat)]
          else []
    else
      x.armed.get e = some (f.start + BitVec.ofNat 48 (eyeDelay f.offset e)) ∧ x.trigger.get e = filled ∧
        x.issued.get e = false ∧
        u' = { u with
                waiting :=
                  [⟨f.number, f.start + BitVec.ofNat 48 (eyeDelay f.offset e), how, f.exposure, p.loopSkew⟩] } ∧
        synth' = synth

/-- The slot that a boundary in state `s` opens, with `t` the state after its event (R66, R67, R69, R70, R72): the frame's
items, the plan that the frame works to and the generation after a waiting commit, and its triggers armed. A boundary
that is a left return (`byLeft`) has trigger_L and return_L at its time, any other neither. -/
def SlotOpened (byLeft : Bool) (s : State) (f : Frame) (t : State) (x : Slot) : Prop :=
  x.number = f.number ∧ x.start = f.start ∧ x.generation = t.plan.generation ∧ x.period = f.period ∧
    x.exposure = f.exposure ∧ x.skewTol = (planAtBoundary s).skewTol ∧
    x.returned = ⟨if byLeft = true then some f.start else none, none⟩ ∧
    x.isRamp = f.isRamp ∧ x.expClamp = (f.clamped || f.raised) ∧
    x.offsetClamp = decide ((planAtBoundary s).refMode = .followLeft ∧ f.offset < 0) ∧
    (∀ a, x.snapshot.get a =
      ⟨(s.lens.axes.get a).demand, if s.lens.mode = .off then .unchecked else (s.lens.axes.get a).matching⟩) ∧
    x.stamp = t.tc.current ∧ x.dropMark = t.tc.drop ∧ x.refState = t.timing.refState ∧
    x.followLeft = decide ((planAtBoundary s).refMode = .followLeft) ∧ x.status = .collecting ∧ x.outcome = none ∧
    x.deadline =
      f.start + BitVec.ofNat 48
        (max (if (planAtBoundary s).refMode = .followLeft then 0 else eyeDelay f.offset .left)
            (eyeDelay f.offset .right) + f.period) ∧
    ∀ e, EyeArmed (planAtBoundary s) f e x (if byLeft = true ∧ e = .left then some f.start else none)
      (s.trig.eyes.get e) (t.trig.eyes.get e) (s.trig.synth.get e) (t.trig.synth.get e)

/-- What a boundary in `s` did in the Pair Matcher and the Trigger and Return Unit (R49 to R51, R66 to R70): with no entry
pending and no pulse under way, the new slot joined the table at its tail, behind a head closed first where the table
held four. -/
def FrameSlotOpened (byLeft : Bool) (s t : State) : Prop :=
  (planAtBoundary s).inRanges → (∀ y ∈ s.matcher.slots, y.number ≠ s.timing.pairNumber) →
    (∀ e, (s.trig.eyes.get e).waiting = [] ∧
      ∀ p, (s.trig.eyes.get e).lastPulse = some p → since p.start p.stop < since p.start s.timing.timebase) →
    ∃ f x, t.timing.frame = some f ∧ SlotOpened byLeft s f t x ∧
      (s.matcher.slots.length < 4 → t.matcher = { s.matcher with slots := s.matcher.slots ++ [x] }) ∧
      ∀ y ys, s.matcher.slots = y :: ys → ys.length = 3 → y.status = .collecting →
        ∃ u, CloseEffect [] y ys s u ∧ t.matcher = { u.matcher with slots := u.matcher.slots ++ [x] } ∧
          ∀ l k, holds (u.links.get l).events k = true → holds (t.links.get l).events k = true

/-- The Lens Control Unit's part of a boundary in `s` (R141, R142, R157): none but in FRAME mode; there a new scan begins
with the due time 10,000 ticks on, and a scan under way is abandoned, its request withdrawn and a segment read granted
for it run on with its words to be discarded (log 33), every other burst untouched. -/
def ScanAtBoundary (s t : State) : Prop :=
  (s.lens.mode ≠ .frame → t.lens = s.lens ∧ t.memory = s.memory) ∧
    (s.lens.mode = .frame →
      t.lens =
        { s.lens with
          scan := some (Scan.begun s.timing.timebase), nextDue := some (s.timing.timebase + 10000) } ∧
      (s.lens.scan = none → t.memory = s.memory) ∧
      (s.lens.scan ≠ none →
        t.memory = { s.memory with lensRequest := none, port := t.memory.port } ∧
          (s.memory.port = none → t.memory.port = none) ∧
          ∀ b, s.memory.port = some b →
            (∀ c lower trim isLive, b.holder = .segment c lower trim isLive →
              t.memory.port = some { b with holder := .segment c lower trim false }) ∧
            ((∀ c lower trim isLive, b.holder ≠ .segment c lower trim isLive) → t.memory.port = some b)))

/-- A boundary was taken at the timebase of `s`, in an event that led from `s` to `t` (R2, R11, R31, R35 to R37, R40
to R42, R49, R66 to R70, R88, R141). A waiting commit is applied: its frame is drawn under the new plan, from a ramp
begun at the frame that ends when the rate changes with RAMP_LEN above 0, from a generator restarted at 0 for any
other change of rate and for a ramp that EXTERNAL ends, and from the generator as it stands otherwise; that a ramp
begins and runs with the accumulator at 0 is the model's choice (log 36). The timecode is stamped; who is owed a reply
has it; the slot is opened and armed; a FRAME scan starts. `byLeft` says that the boundary is a left return. -/
def BoundaryTaken (byLeft : Bool) (s t : State) : Prop :=
  (∀ (acc : Nat) (ramp : Option Ramp),
    (∀ f, RateCommitWaits s → s.timing.frame = some f → 0 < s.plan.staged.rampLen →
      acc = 0 ∧
        ramp = some ⟨s.plan.staged.rampLen, f.period, s.plan.staged.basePeriod, s.plan.staged.rampHold, f.exposure, 0⟩) →
    ((RateCommitWaits s ∧ (s.timing.frame = none ∨ s.plan.staged.rampLen = 0)) ∨
        (ExternalCommitWaits s ∧ s.timing.ramp ≠ none) → acc = 0 ∧ ramp = none) →
    (¬ RateCommitWaits s → ¬ (ExternalCommitWaits s ∧ s.timing.ramp ≠ none) →
      acc = s.timing.acc ∧ ramp = s.timing.ramp) →
    FrameDrawn (planAtBoundary s) acc ramp s.timing.timebase s.timing.pairNumber t.timing) ∧
    (s.plan.stage = .committing →
      t.plan = appliedPlan s.plan ∧ (∀ k, holds (t.links.get k).events .planApplied = true) ∧
        ∀ l, s.plan.editor = some l → s.tc.owed ≠ some l →
          Answered l .ok ((s.plan.generation + 1) :: bytesOf 4 s.timing.pairNumber.toNat) s t) ∧
    (RateCommitWaits s → ∀ r, t.timing.inputs.get r =
      ⟨.qualifying, 0, (t.timing.inputs.get r).lastPulse,
        some (s.timing.timebase + BitVec.ofNat 48 (2 * s.plan.staged.basePeriod))⟩) ∧
    (s.plan.stage ≠ .committing → t.plan = s.plan) ∧ TimecodeStamped s.tc t.tc ∧
    (∀ w l, s.tc.waiting = some w → w.owed = some l → s.plan.committer ≠ some l → Answered l .ok [] s t) ∧
    FrameSlotOpened byLeft s t ∧ ScanAtBoundary s t ∧ t.log = s.log ∧ t.pins = s.pins

/-- An event that began in `s`, under EXTERNAL in RUNNING, moved the reference state to the lock on input `r` (R4, R12,
R14, R16): REF_CHANGE goes to all links, and after the run's first boundary a re-phase begins, whose first step is a
boundary at once when N is past. An N of this very instant counts as past (log 34). -/
def MovedToLock (r : RefId) (s t : State) : Prop :=
  (∀ l, holds (t.links.get l).events .refChange = true) ∧
    (∀ f n, s.timing.frame = some f → s.timing.next = some n →
      (since f.start s.timing.timebase < since f.start n →
        OnlyEvents s t ∧ PostedAll .refChange s t ∧
          t = { s with
                timing :=
                  { s.timing with
                    inputs := t.timing.inputs, refState := lockedTo r, lockHeld := true, rephase := some .first }
                links := t.links }) ∧
      (since f.start n ≤ since f.start s.timing.timebase →
        BoundaryTaken false s t ∧
          (s.plan.stage ≠ .committing →
            t.timing.refState = lockedTo r ∧ t.timing.lockHeld = true ∧ t.timing.rephase = some .second))) ∧
    (s.timing.frame = none →
      OnlyEvents s t ∧ PostedAll .refChange s t ∧
        t = { s with
              timing := { s.timing with inputs := t.timing.inputs, refState := lockedTo r, rephase := none }
              links := t.links })

/-- An event that began in `s`, under EXTERNAL in RUNNING and locked, left no input GOOD (R3, R4, R12, R14, R17): the
state is HOLDOVER after a lock in the run and SEEKING before one, REF_CHANGE goes to all links, a re-phase is dropped,
and an overdue N, or a run without its first boundary, gives a boundary at once. An N of this very instant counts as
past (log 34). -/
def MovedToSchedule (s t : State) : Prop :=
  (∀ l, holds (t.links.get l).events .refChange = true) ∧
    (∀ f n, s.timing.frame = some f → s.timing.next = some n →
      since f.start s.timing.timebase < since f.start n →
        OnlyEvents s t ∧ PostedAll .refChange s t ∧
          t = { s with
                timing :=
                  { s.timing with
                    inputs := t.timing.inputs, rephase := none
                    refState := if s.timing.lockHeld then .holdover else .seeking }
                links := t.links }) ∧
    ((s.timing.frame = none ∨ ∃ f n, s.timing.frame = some f ∧ s.timing.next = some n ∧
        since f.start n ≤ since f.start s.timing.timebase) →
      BoundaryTaken false s t ∧
        (s.plan.stage ≠ .committing →
          t.timing.refState = (if s.timing.lockHeld then .holdover else .seeking) ∧ t.timing.rephase = none))

/-- An event of the part's own is due at the present instant: its time has come, or the state it waits for is reached. -/
inductive EventDue (s : State) : Instr → Prop
  /-- N falls now, with the schedule in service (R3). -/
  | scheduleBoundary : BoundaryDue s → EventDue s .scheduleBoundary
  /-- An input's absence deadline is now (R11). -/
  | refAbsenceExpiry (r : RefId) : (s.timing.inputs.get r).state ≠ .absent →
      (s.timing.inputs.get r).deadline = some s.timing.timebase → EventDue s (.refAbsenceExpiry r)
  /-- Two planned periods without a left return, since the last boundary (R18). -/
  | leftReturnLapse (f : Frame) : s.plan.active.refMode = .followLeft → s.timing.run ≠ .stopped →
      s.timing.refState = .lockedL ∨ s.timing.refState = .seeking → s.timing.frame = some f →
      s.timing.timebase = f.start + BitVec.ofNat 48 (2 * f.period) → EventDue s .leftReturnLapse
  /-- Two planned periods without a left return, since RUN (R19). -/
  | firstReturnLapse (b : Time) : s.plan.active.refMode = .followLeft → s.timing.run ≠ .stopped →
      s.timing.refState = .lockedL ∨ s.timing.refState = .seeking → s.timing.frame = none →
      s.timing.runStart = some b → s.timing.timebase = b + BitVec.ofNat 48 (2 * s.plan.active.basePeriod) →
      EventDue s .leftReturnLapse
  /-- The time of an armed trigger is now (R51). -/
  | triggerDecision (e : Eye) (n : Entry) : n ∈ (s.trig.eyes.get e).waiting → n.time = s.timing.timebase →
      EventDue s (.triggerDecision e)
  /-- The end of the pulse on a line is now (R52). -/
  | triggerPulseEnd (e : Eye) (p : Pulse) : (s.trig.eyes.get e).active = true →
      (s.trig.eyes.get e).lastPulse = some p → p.stop = s.timing.timebase → EventDue s (.triggerPulseEnd e)
  /-- A synthesised return is scheduled for now (R58). -/
  | synthReturn (e : Eye) : s.timing.timebase ∈ s.trig.synth.get e → EventDue s (.synthReturn e)
  /-- The deadline of an OPEN slot is now (R73). -/
  | slotDeadline (x : Slot) : x ∈ s.matcher.slots → x.status = .collecting → x.deadline = s.timing.timebase →
      EventDue s (.slotDeadline x.number)
  /-- The part has drained (R6). -/
  | reachStopped : s.timing.run = .draining → s.matcher.slots = [] → s.matcher.queue = [] →
      EventDue s .reachStopped
  /-- A commit waits in STOPPED (R31, log 17). -/
  | planApply : s.timing.run = .stopped → s.plan.stage = .committing → EventDue s .planApply
  /-- A timecode set is pending in STOPPED (R92, log 17). -/
  | timecodePendingApply : s.timing.run = .stopped → s.tc.waiting ≠ none → EventDue s .timecodePendingApply
  /-- The edit lapse timer expires now (R28). -/
  | planEditLapse : s.plan.stage = .editing → s.plan.lapse = some s.timing.timebase → EventDue s .planEditLapse
  /-- The burst under way has no word to come (R157). -/
  | burstEnd (b : Burst) : s.memory.port = some b → b.left = 0 → EventDue s .burstEnd
  /-- The scan timer's due time is now (R140). -/
  | scanDue : s.lens.mode ≠ .off → s.lens.nextDue = some s.timing.timebase → EventDue s .scanDue
  /-- The nine conversions of the scan in progress end now (R143). -/
  | conversionsDone (sc : Scan) : s.lens.scan = some sc → sc.stage = .conversions →
      s.timing.timebase = sc.start + 1800 → EventDue s (.conversionsDone sc.conversions)
  /-- A table's lapse timer expires now (R119). -/
  | tableLapse (c : ChannelId) : (channelGet s.lens.tables c).state = .loading →
      (channelGet s.lens.tables c).lapse = some s.timing.timebase → EventDue s (.tableLapse c.eye c.axis)
  /-- A link's inter-character timer expires now (R166, log 9). -/
  | interCharacterTimeout (l : Link) : (s.links.get l).state = .addressed ∨ (s.links.get l).state = .body →
      (s.links.get l).timer = some s.timing.timebase → EventDue s (.interCharacterTimeout l)
  /-- The last character of a reply has gone (R171, log 9). -/
  | replySent (l : Link) : (s.links.get l).state = .replying → (s.links.get l).txDone = some s.timing.timebase →
      EventDue s (.replySent l)

/-- A request waits for Record Memory while it is FREE (R155). -/
def RequestWaits (s : State) : Prop :=
  s.memory.port = none ∧
    (s.matcher.queue ≠ [] ∨ s.memory.lensRequest ≠ none ∨ ∃ l, s.memory.linkRequests.get l ≠ none)

/-! ### Returns -/

/-- Slot `x` stands in the table between `pre` and `post`: the head of the table is OPEN, and no OPEN slot before
`x` has its number. -/
def PlacedAt (pre : List Slot) (x : Slot) (post : List Slot) (s : State) : Prop :=
  s.matcher.slots = pre ++ x :: post ∧ (∀ y ys, pre = y :: ys → y.status = .collecting) ∧
    ∀ y ∈ pre, y.status = .collecting → y.number ≠ x.number

/-- `d` is the deadline of slot `x` (R72): a period after the latest of its trigger times, filled or not yet decided, or
after the boundary with none of them. An issued left entry that found trigger_L filled by a left return no longer
counts, the model's choice (log 40). -/
def DeadlineOf (x : Slot) (d : Time) : Prop :=
  ∃ latest : Nat, d = x.start + BitVec.ofNat 48 (latest + x.period) ∧
    (∀ e, ∀ v ∈ (x.trigger.get e).toList ++ (x.armed.get e).toList, since x.start v ≤ latest) ∧
    (latest = 0 ∨ ∃ e, ∃ v ∈ (x.trigger.get e).toList ++ (x.armed.get e).toList, latest = since x.start v)

/-- A slot takes a return of eye `e` at time `t` (R74). -/
def TakesReturn (e : Eye) (t : Time) (x : Slot) : Prop :=
  x.status = .collecting ∧ x.returned.get e = none ∧
    ∃ start, x.trigger.get e = some start ∧ since start t < x.period

/-- A slot is complete: no trigger pending, and a return for every trigger present (R77). An eye whose trigger time a
left return filled has no pending mark, even with an entry not yet decided (R67, log 19). -/
def IsComplete (x : Slot) : Prop :=
  ∀ e, (x.armed.get e = none ∨ (x.trigger.get e).isSome = true) ∧
    ((x.trigger.get e).isSome = true → (x.returned.get e).isSome = true)

/-- A return of eye `e` was handed to the Pair Matcher (R74, R77): the oldest slot that takes it holds it, and
closes if that completes it; with no such slot it is a stray. -/
def ReturnEffect (e : Eye) (s t : State) : Prop :=
  ((∀ x ∈ s.matcher.slots, ¬ TakesReturn e s.now x) → StrayEffect e s t) ∧
    ∀ pre x post, PlacedAt pre x post s → (∀ y ∈ pre, ¬ TakesReturn e s.now y) → TakesReturn e s.now x →
      ∀ x', x' = { x with returned := x.returned.set e (some s.now) } →
        (¬ IsComplete x' → t = { s with matcher := { s.matcher with slots := pre ++ x' :: post } }) ∧
        (IsComplete x' →
          CloseEffect pre x' post { s with matcher := { s.matcher with slots := pre ++ x' :: post } } t)

/-- The reference state is the one its mode, the qualification of the inputs and the record of a lock give
(R12 to R14, R19, R20). -/
def ReferenceInv (s : State) : Prop :=
  match s.plan.active.refMode with
  | .internal => s.timing.refState = .free
  | .loop => s.timing.refState = .loop
  | .external =>
    s.timing.refState =
      if s.timing.inputs.a.state = .good then .lockedA
      else if s.timing.inputs.b.state = .good then .lockedB
      else if s.timing.lockHeld = true ∧ s.timing.run ≠ .stopped then .holdover
      else .seeking
  | .followLeft =>
    if s.timing.run = .stopped then s.timing.refState = .seeking
    else s.timing.refState = .seeking ∨ s.timing.refState = .lockedL ∨ s.timing.refState = .holdover

/-! ### STOPPED -/

/-- STOPPED was reached in an event that led from `s` to `t` (R6, R12, R31, R35 to R37, R40, R92): the run's schedule,
frame, ramp and lock record are gone, TIMING_STOPPED went to all links, the reference state is the one of STOPPED, and a
waiting commit and a pending timecode set are applied and answered; a busy link alone is owed a reply. -/
def StoppedReached (s t : State) : Prop :=
  t.timing =
      { s.timing with
        run := .stopped, next := none, ramp := none, lockHeld := false, rephase := none, frame := none,
        runStart := none, acc := t.timing.acc, refState := t.timing.refState, inputs := t.timing.inputs } ∧
    (RateCommitWaits s → t.timing.acc = 0 ∧ ∀ r, t.timing.inputs.get r =
      ⟨.qualifying, 0, (s.timing.inputs.get r).lastPulse,
        some (s.timing.timebase + BitVec.ofNat 48 (2 * s.plan.staged.basePeriod))⟩) ∧
    (¬ RateCommitWaits s → t.timing.acc = s.timing.acc ∧ t.timing.inputs = s.timing.inputs) ∧
    ReferenceInv t ∧ (∀ k, holds (t.links.get k).events .timingStopped = true) ∧
    (s.plan.stage ≠ .committing → t.plan = s.plan) ∧
    (s.plan.stage = .committing →
      t.plan = appliedPlan s.plan ∧ (∀ k, holds (t.links.get k).events .planApplied = true) ∧
        ∀ k, s.plan.editor = some k → (s.links.get k).busy = true → s.tc.owed ≠ some k →
          Answered k .ok ((s.plan.generation + 1) :: bytesOf 4 s.timing.pairNumber.toNat) s t) ∧
    (s.tc.waiting = none → t.tc = s.tc) ∧
    (∀ w, s.tc.waiting = some w →
      t.tc = { s.tc with current := w.value, base := w.base, drop := w.drop, waiting := none } ∧
        ∀ k, w.owed = some k → (s.links.get k).busy = true → s.plan.committer ≠ some k → Answered k .ok [] s t) ∧
    t = { s with timing := t.timing, plan := t.plan, tc := t.tc, links := t.links }

/-! ### Lens channels -/

/-- The status the table of R137 gives a channel whose drive is on: HOLD with the table's reason, else SETTLING
while scanning runs and HOLD(SCAN_OFF) while it does not (R111). -/
def LensUnit.statusWhenOn (u : LensUnit) (c : ChannelId) : ChannelStatus :=
  match (channelGet u.tables c).state with
  | .empty => .hold .noTable
  | .loading => .hold .loading
  | .invalid => .hold .noTable
  | .faulted => .hold .fault
  | .valid => if u.mode = .off then .hold .scanOff else .settling

/-- The status the table of R137 gives a channel: OFF while its drive is off. -/
def LensUnit.statusGiven (u : LensUnit) (c : ChannelId) : ChannelStatus :=
  if (channelGet u.channels c).drive then u.statusWhenOn c else .off

/-- A channel `ch` re-formed to the status `st` (R137): already in it, it is left as it is; else it enters it, and
its counter takes the settle count on SETTLING and 0 on OFF or HOLD. -/
def ReformedTo (st : ChannelStatus) (settle : Nat) (ch ch' : Channel) : Prop :=
  ch' = if ch.status = st then ch else { ch with status := st, counter := if st = .settling then settle else 0 }

/-- Table `c` became `T`, its channel was re-formed, and nothing else moved but links (R111). -/
def TableMoved (c : ChannelId) (T : Table) (s t : State) : Prop :=
  t = { s with
        lens :=
          { s.lens with
            tables := channelSet s.lens.tables c T
            channels := channelSet s.lens.channels c (channelGet t.lens.channels c) }
        links := t.links } ∧
    ReformedTo (t.lens.statusGiven c) (s.lens.axes.get c.axis).settle (channelGet s.lens.channels c)
      (channelGet t.lens.channels c)

/-- What a table's state says of its loader, its timer, its count and its demands: a VALID table has 2 to 32
breakpoints with strictly rising demands (R110, R117, R119). -/
def tableInv (t : Table) : Prop :=
  t.count ≤ 32 ∧ t.demands.length = 32 ∧ (t.state = .loading ↔ t.loader.isSome = true) ∧
    (t.lapse.isSome = true → t.state = .loading) ∧
    (t.state = .valid → 2 ≤ t.count ∧ ∀ i, i + 1 < t.count → t.demandAt i < t.demandAt (i + 1))

/-- A channel before and after its check, the target before the scan's output being `before` (R145, R146). -/
def CheckedTo (tolerance settle before : Nat) (ch ch' : Channel) : Prop :=
  ((ch.status = .off ∨ ∃ r, ch.status = .hold r) → ch' = ch) ∧
    (ch.status ≠ .off → (∀ r, ch.status ≠ .hold r) →
      ch' = { ch with
              status :=
                if 0 < ch.counter then .settling
                else if tolerance < ((ch.encoder.toNat : Int) - before).natAbs then .offTrack
                else .tracking
              counter :=
                if tolerance < ((ch.target : Int) - before).natAbs then settle else ch.counter - 1 })

/-- The timebase reached `t` (R138, R143): a scan whose next conversion ends then, 200 ticks after the one before it,
holds that conversion's code too, whatever the code is (log 15); nothing else of the unit moved. -/
def ConversionMade (t : Time) (u u' : LensUnit) : Prop :=
  (∀ sc, u.scan = some sc → sc.stage = .conversions → sc.made.length < 9 →
    t = sc.start + BitVec.ofNat 48 (200 * (sc.made.length + 1)) →
      ∃ code, u' = { u with scan := some { sc with made := sc.made ++ [code] } }) ∧
    ((∀ sc, u.scan = some sc → sc.stage = .target ∨ 9 ≤ sc.made.length ∨
      t ≠ sc.start + BitVec.ofNat 48 (200 * (sc.made.length + 1))) → u' = u)

/-- A segment read of the scan failed on a table that is still VALID (R125). -/
def FaultsTable (sc : Scan) (s : State) (c : ChannelId) : Prop :=
  channelGet sc.failed c = true ∧ (channelGet s.lens.tables c).state = .valid

/-- The scan `sc` of state `s` was completed (R125, R139, R144 to R147): held faults settled, demands, encoder
readings, conversions and computed targets written, the channels checked, the match states formed; with the mode OFF
the stop follows, every channel re-formed and every match state UNCHECKED. -/
def ScanCompleted (sc : Scan) (s t : State) : Prop :=
  ∃ written checked : PerChannel Channel, ∃ formed : PerAxis MatchState,
    (∀ c, ∃ w,
      (FaultsTable sc s c →
        ReformedTo (if (channelGet s.lens.channels c).drive then .hold .fault else .off)
          (s.lens.axes.get c.axis).settle (channelGet s.lens.channels c) w) ∧
      (¬ FaultsTable sc s c → w = channelGet s.lens.channels c) ∧
      ∀ target sat,
        (∀ k, channelGet sc.computed c = some k → target = k.target ∧ sat = k.sat) →
        (channelGet sc.computed c = none → target = w.target ∧ sat = w.sat) →
        channelGet written c =
          { w with
            target := target, sat := sat, output := if w.drive then target else 0
            encoder := sc.made.getD (tableNumber c) 0 }) ∧
    (∀ c, CheckedTo (s.lens.axes.get c.axis).tolerance (s.lens.axes.get c.axis).settle
      (channelGet s.lens.channels c).target (channelGet written c) (channelGet checked c)) ∧
    (∀ x l r, l = (channelGet checked ⟨.left, x⟩).status → r = (channelGet checked ⟨.right, x⟩).status →
      formed.get x =
        if l = .tracking ∧ r = .tracking then .matched
        else if l = .offTrack ∨ r = .offTrack then .mismatched
        else .unchecked) ∧
    (∀ c, channelGet t.lens.tables c =
      { channelGet s.lens.tables c with state := (channelGet t.lens.tables c).state } ∧
      (FaultsTable sc s c → (channelGet t.lens.tables c).state = .faulted) ∧
      (¬ FaultsTable sc s c → channelGet t.lens.tables c = channelGet s.lens.tables c)) ∧
    (∀ x, t.lens.axes.get x =
      { s.lens.axes.get x with
        demand := sc.demands.get x, matching := if s.lens.mode = .off then .unchecked else formed.get x }) ∧
    (s.lens.mode ≠ .off → ∀ c, channelGet t.lens.channels c = channelGet checked c) ∧
    (s.lens.mode = .off → ∀ c, ReformedTo (t.lens.statusGiven c) (s.lens.axes.get c.axis).settle
      (channelGet checked c) (channelGet t.lens.channels c)) ∧
    t.lens.mode = s.lens.mode ∧ t.lens.scan = none ∧ t.lens.nextDue = s.lens.nextDue ∧
    (∀ c, channelGet t.lens.conversions.encoders c = sc.made.getD (tableNumber c) 0) ∧
    t.lens.conversions.wheels = ⟨sc.made.getD 6 0, sc.made.getD 7 0, sc.made.getD 8 0⟩ ∧
    (∀ l k, holds (t.links.get l).events k = true ↔
      holds (s.links.get l).events k = true ∨ (k = .tableFault ∧ ∃ c, FaultsTable sc s c) ∨
        (k = .lensMismatch ∧ ∃ x, formed.get x = .mismatched ∧ (s.lens.axes.get x).matching ≠ .mismatched)) ∧
    OnlyEvents s t ∧ t = { s with lens := t.lens, links := t.links }

/-- The target stage of the scan `sc` went on with the channels `rest` (R121, R122): the first of them whose table is
VALID has its segment requested; with none, the scan is complete. -/
def TargetsGoOn (sc : Scan) (rest : List ChannelId) (s t : State) : Prop :=
  (∀ before c after T, rest = before ++ c :: after →
    (∀ d ∈ before, (channelGet s.lens.tables d).state ≠ .valid) →
    T = channelGet s.lens.tables c → T.state = .valid → tableInv T →
      ∃ lower,
        (sc.demands.get c.axis < T.demandAt 1 → lower = 0) ∧
        (T.demandAt (T.count - 2) ≤ sc.demands.get c.axis → lower = T.count - 2) ∧
        (T.demandAt 1 ≤ sc.demands.get c.axis → sc.demands.get c.axis < T.demandAt (T.count - 2) →
          T.demandAt lower ≤ sc.demands.get c.axis ∧ sc.demands.get c.axis < T.demandAt (lower + 1)) ∧
        t = { s with
              lens := { s.lens with scan := some { sc with remaining := after } }
              memory := { s.memory with lensRequest := some ⟨c, lower⟩ } }) ∧
    ((∀ d ∈ rest, (channelGet s.lens.tables d).state ≠ .valid) → ScanCompleted sc s t)

/-- The argument lengths the command table accepts for a command code (R182); absent for a code that names
no command. -/
def acceptedLengths (code : Byte) : Option (List Nat) :=
  match code.toNat with
  | 0x10 => some [0, 4]
  | 0x11 | 0x12 | 0x13 | 0x19 | 0x1A | 0x20 | 0x25 | 0x28 | 0x29 | 0x2B | 0x31 | 0x32 | 0x46 => some [0]
  | 0x1B | 0x2A | 0x45 => some [1]
  | 0x30 | 0x38 | 0x3A | 0x3B | 0x40 => some [2]
  | 0x3C | 0x41 | 0x44 => some [3]
  | 0x42 | 0x43 => some [4]
  | 0x18 => some [5]
  | 0x24 => some [6]
  | 0x39 => some [7, 11, 15, 19]
  | _ => none

/-- The range column of the plan field table (2.1); absent for a number that names no field. -/
def planRange (field : Nat) : Option (Int × Int) :=
  match field with
  | 1 => some (1000, 240000)
  | 2 => some (1000, 1001)
  | 3 => some (1, 3600)
  | 4 => some (0, 100000)
  | 5 => some (0, 255)
  | 6 => some (0, 1)
  | 7 => some (0, 1000)
  | 8 => some (0, 500000)
  | 9 => some (0, 500000)
  | 10 => some (0, 1)
  | 11 => some (0, 1)
  | 12 => some (1, 65535)
  | 13 => some (0, 3)
  | 14 => some (-1000, 1000)
  | _ => none

/-- The total of the next `n` periods drawn from the accumulator `acc` without a ramp, and the accumulator
they leave (R39). -/
def drawMany (p : Plan) (acc : Nat) : Nat → Nat × Nat
  | 0 => (0, acc)
  | n + 1 =>
    let before := drawMany p acc n
    (before.1 + (drawAccumulator p before.2).period, (drawAccumulator p before.2).acc)

/-- The number of a frame label, counted from 00:00:00:00 with no label skipped. -/
def labelNumber (v : Timecode) (base : Nat) : Nat :=
  ((bcdValue v.hours * 60 + bcdValue v.minutes) * 60 + bcdValue v.seconds) * base + bcdValue v.frames

/-! ### Invariants -/

/-- Record Memory is in its canonical form, and no word outside it is listed (R150). -/
def MemoryInv (s : State) : Prop :=
  s.memory.words.wf = true ∧ ∀ a, Config.memoryWords ≤ a → s.memory.words.read a = 0

/-- What a staged-plan state says of the hold: who edits, whether the timer runs, and that a waiting commit
has passed its validation (R25, R28, R29, R31). -/
def stageInv (u : PlanUnit) : Prop :=
  match u.stage with
  | .free => u.staged = u.active ∧ u.editor = none ∧ u.lapse = none
  | .editing => u.editor.isSome = true ∧ u.lapse.isSome = true
  | .committing => u.editor.isSome = true ∧ u.lapse = none ∧ planFault u.active u.staged = none

/-- The plan leaves room for an exposure of 20 ticks beside its gap and its eye offset at its own rate, and
does not ramp under EXTERNAL (R30, R35). -/
def Plan.usable (p : Plan) : Prop :=
  p.gap + p.eyeOffset.natAbs + 20 ≤ p.basePeriod ∧ ¬ (0 < p.rampLen ∧ p.refMode = .external)

/-- Both plans are in range, the plan in force passes its own validation, the hold is as its state says, and the
accumulator is below the active RATE_NUM (R39). -/
def PlanInv (s : State) : Prop :=
  s.plan.active.inRanges ∧ s.plan.staged.inRanges ∧ s.plan.active.usable ∧ stageInv s.plan ∧
    s.timing.acc < s.plan.active.rateNum

/-- What the run state says of a run: in STOPPED nothing of one is left, neither schedule nor frame nor ramp,
neither open slot nor record waiting to be written (R6, R24); a frame stands with its scheduled boundary;
and a re-phase is under way only in RUNNING and in LOCKED_A or LOCKED_B (R16, R17). -/
def RunInv (s : State) : Prop :=
  (s.timing.run = .stopped →
    s.timing.next = none ∧ s.timing.ramp = none ∧ s.timing.lockHeld = false ∧ s.timing.runStart = none ∧
      s.matcher.slots = [] ∧ s.matcher.queue = []) ∧
    s.timing.frame.isSome = s.timing.next.isSome ∧
    (s.timing.rephase.isSome = true →
      s.timing.run = .running ∧ (s.timing.refState = .lockedA ∨ s.timing.refState = .lockedB))

/-- Slots numbered upward from `n`, each one more than the one before. -/
def numberedFrom (n : BitVec 32) : List Slot → Prop
  | [] => True
  | x :: xs => x.number = n ∧ numberedFrom (n + 1) xs

/-- The open-slot table: at most four slots, numbered one after another up to the last pair number given,
the head OPEN, and every closed slot with its outcome (R65 to R68, R79). -/
def SlotInv (s : State) : Prop :=
  s.matcher.slots.length ≤ 4 ∧
    numberedFrom (s.timing.pairNumber - BitVec.ofNat 32 s.matcher.slots.length) s.matcher.slots ∧
    (∀ x xs, s.matcher.slots = x :: xs → x.status = .collecting) ∧
    ∀ x ∈ s.matcher.slots, x.outcome.isSome = (x.status == .closedWaiting)

/-- Every armed trigger belongs to an open slot, in the order of the slots, one at most for each (R48, R53). -/
def TriggerInv (s : State) : Prop :=
  ∀ e, List.Sublist ((s.trig.eyes.get e).waiting.map (·.slot)) (s.matcher.slots.map (·.number))

/-- The current timecode and the pending one are legal for their base and drop mode (R85). -/
def TimecodeInv (s : State) : Prop :=
  (legalBase s.tc.base = true ∧ legalTimecode s.tc.current s.tc.base s.tc.drop = true) ∧
    ∀ w, s.tc.waiting = some w → legalBase w.base = true ∧ legalTimecode w.value w.base w.drop = true

/-- The link a burst was granted for, if it is a link's. -/
def Holder.link : Holder → Option Link
  | .logRead l _ _ _ => some l
  | .tableEntry l _ _ _ => some l
  | .tableRead l _ _ _ _ => some l
  | _ => none

/-- How many replies are owed to link `l` at later events: for a waiting commit, a pending timecode set, a
waiting request, and a burst under way (R31, R91, R154). -/
def State.owedReplies (l : Link) (s : State) : Nat :=
  (if s.plan.committer = some l then 1 else 0) + (if s.tc.owed = some l then 1 else 0) +
    (if (s.memory.linkRequests.get l).isSome then 1 else 0) +
    (if s.memory.port.bind (·.holder.link) = some l then 1 else 0)

/-- A link is EXECUTING exactly while one reply is owed to it, and never are two; and while RESET# is
asserted the memory is free (R168, R171). -/
def ReplyInv (s : State) : Prop :=
  (∀ l, s.owedReplies l = if (s.links.get l).state = .executing then 1 else 0) ∧
    (s.pins.resetAsserted = true → s.memory.port = none)

/-- Each link's pending set shows LOG_READY exactly while the link is attached with records unread (R107, R175). -/
def LogReadyInv (s : State) : Prop := ∀ l, holds (s.links.get l).events .logReady = s.log.ready l

/-- The ring holds at most 64 records, an attached link's cursor lies within it or at its end, a LOG_READ waits
only for an attached link, and one under way reads from the cursor records that are there (R96, R99, R102, R103). -/
def LogInv (s : State) : Prop :=
  s.log.count ≤ 64 ∧
    (∀ l, (s.log.readers.get l).gap ≤ 255 ∧
      ((s.log.readers.get l).attached = true → s.log.unread l ≤ s.log.count)) ∧
    (∀ l maximum, s.memory.linkRequests.get l = some (.logRead maximum) →
      (s.log.readers.get l).attached = true) ∧
    ∀ l gap start k n left got, s.memory.port = some ⟨.logRead l gap start k, n, left, got⟩ →
      (s.log.readers.get l).attached = true ∧ (s.log.readers.get l).cursor = start ∧ k ≤ s.log.unread l

/-- A TABLE_ENTRY of link `l` that is waiting or under way: its table is LOADING for that link with the timer
stopped, and the entry leaves no hole and ends within the table (R115, R116). -/
def entryFits (s : State) (l : Link) (c : ChannelId) (first : Nat) (points : List (BitVec 16 × BitVec 16)) :
    Prop :=
  (channelGet s.lens.tables c).state = .loading ∧ (channelGet s.lens.tables c).loader = some l ∧
    (channelGet s.lens.tables c).lapse = none ∧ first ≤ (channelGet s.lens.tables c).count ∧
    first + points.length ≤ 32

/-- Every table is as its state says, and so is every TABLE_ENTRY in flight. -/
def TableInv (s : State) : Prop :=
  (∀ c, tableInv (channelGet s.lens.tables c)) ∧
    (∀ l c first points, s.memory.linkRequests.get l = some (.tableEntry c first points) →
      entryFits s l c first points) ∧
    ∀ l c first points n left got, s.memory.port = some ⟨.tableEntry l c first points, n, left, got⟩ →
      entryFits s l c first points

/-- A channel's status against its drive, its table and scanning (R111, R137): OFF exactly when the drive is
off; held for the table's reason while that gives one; never held while scanning runs with a VALID table;
SCAN_OFF when scanning is OFF and no scan is finishing; and a settle counter of 0 while OFF or held. -/
def channelInv (u : LensUnit) (c : ChannelId) : Prop :=
  let ch := channelGet u.channels c
  let reason := (channelGet u.tables c).state.holdReason
  (ch.status = .off ↔ ch.drive = false) ∧
    (ch.drive = true → ∀ r, reason = some r → ch.status = .hold r) ∧
    (ch.drive = true → reason = none → u.mode ≠ .off →
      ch.status = .settling ∨ ch.status = .tracking ∨ ch.status = .offTrack) ∧
    (ch.drive = true → reason = none → u.mode = .off → u.scan = none → ch.status = .hold .scanOff) ∧
    (ch.drive = true → reason = none → ∀ r, ch.status = .hold r → r = .scanOff) ∧
    (ch.status = .off ∨ (∃ r, ch.status = .hold r) → ch.counter = 0)

/-- Every channel's status is as `channelInv` says. -/
def StatusInv (s : State) : Prop := ∀ c, channelInv s.lens c

/-- The lens outputs are 12-bit codes, 0 while the drive is off and the target otherwise; trims and demands
are in their ranges (R129, R133, R124, R130). -/
def OutputInv (s : State) : Prop :=
  (∀ c, (channelGet s.lens.channels c).target ≤ 4095 ∧
    (channelGet s.lens.channels c).output =
      (if (channelGet s.lens.channels c).drive then (channelGet s.lens.channels c).target else 0) ∧
    -2048 ≤ (channelGet s.lens.channels c).trim ∧ (channelGet s.lens.channels c).trim ≤ 2047) ∧
    (∀ x, (s.lens.axes.get x).demand ≤ 65535 ∧ (s.lens.axes.get x).requested ≤ 65535 ∧
      (s.lens.axes.get x).tolerance ≤ 4095 ∧ (s.lens.axes.get x).settle ≤ 255) ∧
    ∀ sc, s.lens.scan = some sc →
      (∀ x, sc.demands.get x ≤ 65535) ∧ ∀ c k, channelGet sc.computed c = some k → k.target ≤ 4095

/-- The scan in progress holds one conversion for every 200 ticks since its start, and all nine from the end of its
conversions stage at 1,800 ticks (R138, R143); while RESET# is asserted there is no scan (R128). -/
def ConversionInv (s : State) : Prop :=
  (s.pins.resetAsserted = true → s.lens.scan = none) ∧
    ∀ sc, s.lens.scan = some sc →
      (sc.stage = .conversions → since sc.start s.now ≤ 1800 ∧ sc.made.length = since sc.start s.now / 200) ∧
        (sc.stage = .target → sc.made.length = 9)

/-- A burst forms no address outside Record Memory (R150, R157). -/
def burstFits (b : Burst) : Prop :=
  b.left ≤ b.length ∧
    match b.holder with
    | .sweep => b.length ≤ Config.memoryWords
    | .record => b.length ≤ 19
    | .segment _ lower _ _ => lower ≤ 30 ∧ b.length ≤ 4
    | .logRead _ _ _ _ => True
    | .tableEntry _ _ first points => first + points.length ≤ 32 ∧ b.length ≤ 2 * points.length
    | .tableRead _ _ index _ _ => index < 32 ∧ b.length ≤ 2

/-- Every burst, and every request that will become one, stays within Record Memory. -/
def BurstInv (s : State) : Prop :=
  (∀ c, (channelGet s.lens.tables c).count ≤ 32) ∧ (∀ b, s.memory.port = some b → burstFits b) ∧
    (∀ q, s.memory.lensRequest = some q → q.lower ≤ 30) ∧
    ∀ l c first points, s.memory.linkRequests.get l = some (.tableEntry c first points) →
      first + points.length ≤ 32

/-- While the initialization sweep runs, every word it has passed reads 0000H with good parity (R153). -/
def SweepInv (s : State) : Prop :=
  s.memory.words.wf = true ∧
    ∀ n left got, s.memory.port = some ⟨.sweep, n, left, got⟩ →
      ∀ a, a < n - left → s.memory.words.read a = 0

end Sys2Proof.Machine
end

