-- ==== Sys2Proof/Certificates/Slice0/Obligations.lean ====
section
/-!
DEFINITION. The statements for the provers. Each docstring names the rules of spec/ it rests on, and the log
entry where it rests on a choice of the model.
-/

section Slice0
open Sys2Proof Sys2Proof.Machine

/-! ### The step -/

/-- The command at the front of the queue is run on the state with the rest of the queue (log 29). -/
def Obligations.StepTakesTheFrontCommand : Prop :=
  ∀ (c : Instr) (rest : List Instr) (s : State),
    step { s with pending := c :: rest } = exec c { s with pending := rest }

/-- With no command waiting, an event of the part's own that is due is put into the queue: a boundary at N, a lapse, a
trigger at its time, a pulse's or a burst's end, a deadline, a scan and its conversions, a link's timers, as EventDue
lists them (R3, R6, R11, R18, R19, R28, R51, R52, R58, R73, R119, R140, R143, R157, R166, R171). With none due the
Arbiter's decision is, and with the memory FREE and no request one tick passes: the timebase counts, and a conversion
that ends then is made (R1, R143, R155). Model's choice: which of several comes first (log 7), that time passes only so
(log 6), the two waits in STOPPED (log 17), a link's timers in ticks (log 9). -/
def Obligations.IdlePartTakesDueEventsThenGrantsThenTicks : Prop :=
  ∀ s : State, s.pending = [] → s.pins.resetAsserted = false →
    ((∃ i, EventDue s i) →
      ∃ i ties, EventDue s i ∧ step s = .next { s with pending := [i], tieChoices := ties }) ∧
    ((∀ i, ¬ EventDue s i) → RequestWaits s → step s = .next { s with pending := [.arbiterGrant] }) ∧
    ((∀ i, ¬ EventDue s i) → ¬ RequestWaits s → s.memory.port = none →
      ∃ u, step s = .next
          { s with timing := { s.timing with timebase := s.timing.timebase + 1 }, lens := u } ∧
        ConversionMade (s.timing.timebase + 1) s.lens u)

/-- While RESET# is asserted every command but the two reset commands leaves the state as it is (log 4). -/
def Obligations.OnlyResetCommandsActUnderReset : Prop :=
  ∀ (c : Instr) (s : State), s.pins.resetAsserted = true → c ≠ .pinReset →
    (∀ sel rate, c ≠ .resetRelease sel rate) → exec c s = .next s

/-- PIN_RESET sets every block to its pin-reset values (R24, R25, R34, R64, R83, R95, R109, R128, R149, R160, R179).
The words of Record Memory stand until the sweep rewrites them. That the words of Record Memory stand until the sweep
is the model's choice, log 26; that the addressing of a link is unicast after reset, log 22; that neither input has an
absence deadline, log 35; Link C is the last served. -/
def Obligations.PinResetSetsEveryBlock : Prop :=
  ∀ s : State, ∃ t, exec .pinReset s = .next t ∧
    t.pins = { s.pins with resetAsserted := true } ∧
    t.timing =
      { timebase := 0, run := .stopped, next := none, acc := 0, ramp := none, refState := .free,
        lockHeld := false, inputs := ⟨⟨.absent, 0, none, none⟩, ⟨.absent, 0, none, none⟩⟩, rephase := none,
        pairNumber := 0, frame := none, runStart := none } ∧
    t.plan.active =
      { rateNum := 24000, rateDen := 1000, angle := 1800, gap := 1000, rampLen := 0, rampHold := .angle,
        alignLine := 500, readoutL := 0, readoutR := 0, dirL := .down, dirR := .down, skewTol := 100,
        refMode := .internal, loopSkew := 0 } ∧
    t.plan.staged = t.plan.active ∧ t.plan.stage = .free ∧ t.plan.editor = none ∧ t.plan.lapse = none ∧
    t.plan.generation = 0 ∧
    (∀ e, t.trig.eyes.get e = ⟨false, none, []⟩ ∧ t.trig.synth.get e = [] ∧
      t.matcher.eyes.get e = ⟨.unknown, 0, 0, 0⟩) ∧
    t.matcher.slots = [] ∧ t.matcher.queue = [] ∧
    t.tc = ⟨⟨0, 0, 0, 0⟩, 24, false, none, false⟩ ∧ t.pending = s.pending ∧
    t.log.next = 0 ∧ t.log.count = 0 ∧ (∀ l, t.log.readers.get l = ⟨false, 0, 0⟩) ∧
    (∀ c, channelGet t.lens.tables c = ⟨.empty, 0, none, none, List.replicate 32 0⟩) ∧
    (∀ x, t.lens.axes.get x = ⟨0, 0, .wheel, 64, 50, .unchecked⟩) ∧
    (∀ c, channelGet t.lens.channels c = ⟨0, false, 0, 0, 0, .off, 0, false⟩) ∧
    t.lens.mode = .off ∧ t.lens.scan = none ∧ t.lens.nextDue = none ∧
    (∀ c, channelGet t.lens.conversions.encoders c = 0) ∧ (∀ x, t.lens.conversions.wheels.get x = 0) ∧
    t.memory = ⟨s.memory.words, none, none, ⟨none, none, none⟩, .c⟩ ∧
    ∀ l, t.links.get l = ⟨.idle, .unicast, [], none, false, [], none, 0, 0⟩

/-- RESET_RELEASE (R153, R161): the straps are sampled, the timebase starts from 0 and the sweep of 2,048 words
is granted; nothing else moves. -/
def Obligations.ResetReleaseSamplesStrapsAndStartsTheSweep : Prop :=
  ∀ (sel : BitVec 4) (rate : BitVec 2) (s : State), s.pins.resetAsserted = true →
    ∃ t, exec (.resetRelease sel rate) s = .next t ∧
      t = { s with
            pins := ⟨false, sel, rate⟩
            timing := { s.timing with timebase := 0 }
            memory := { s.memory with port := some ⟨.sweep, 2048, 2048, []⟩ } } ∧
      t.unitCode.toNat = 0x50 + sel.toNat ∧
      bitRate t.pins.rate = [57600, 115200, 460800, 921600].getD rate.toNat 0

/-- One tick of a burst under way (R150, R153, R157). A sweep writes 0000H at address j, a record write word j of the
stored form of the record at the head of the queue (R184) in place N mod 64, a TABLE_ENTRY its demands and codes from
place + 2f; the reads take their words from place + 2i, or from the places of start, start + 1, and so on. Every write
sets the parity of R151, and nothing else in the part moves but the timebase and a conversion that ends then (R143).
Model's choice: a segment is read from place + 2i, log 2, and word j is accessed in tick j of the burst, log 24. -/
def Obligations.EachTickAccessesTheNextWordOfTheBurst : Prop :=
  ∀ (s : State) (b : Burst), s.pending = [] → s.pins.resetAsserted = false → (∀ i, ¬ EventDue s i) →
    s.memory.port = some b → 0 < b.left → b.left ≤ b.length → s.memory.words.wf = true →
      (∀ (a : Nat) (d : BitVec 16), a < 2048 →
        ((b.holder = .sweep ∧ a = b.length - b.left ∧ d = 0) ∨
          (b.holder = .record ∧ a = 0x180 + 19 * (s.log.next.toNat % 64) + (b.length - b.left) ∧
            ∃ r rest, s.matcher.queue = r :: rest ∧ RecordWord r (b.length - b.left) d) ∨
          (∃ l c first points, b.holder = .tableEntry l c first points ∧
            a = 64 * tableNumber c + 2 * first + (b.length - b.left) ∧
            (points.flatMap fun p => [p.1, p.2])[b.length - b.left]? = some d)) →
        ∃ t, step s = .next t ∧ t.memory.words.read a = withParity d ∧
          (∀ k, k ≠ a → t.memory.words.read k = s.memory.words.read k) ∧
          t.memory.port = some { b with left := b.left - 1 } ∧
          ConversionMade (s.timing.timebase + 1) s.lens t.lens ∧
          t = { s with
                timing := { s.timing with timebase := s.timing.timebase + 1 }
                lens := t.lens
                memory := { s.memory with words := t.memory.words, port := t.memory.port } }) ∧
      (∀ a : Nat, a < 2048 →
        ((∃ c lower trim isLive, b.holder = .segment c lower trim isLive ∧
            a = 64 * tableNumber c + 2 * lower + (b.length - b.left)) ∨
          (∃ l gap start k, b.holder = .logRead l gap start k ∧
            a = 0x180 + 19 * ((start + BitVec.ofNat 32 ((b.length - b.left) / 19)).toNat % 64) +
              (b.length - b.left) % 19) ∨
          (∃ l c index st n, b.holder = .tableRead l c index st n ∧
            a = 64 * tableNumber c + 2 * index + (b.length - b.left))) →
        ∃ u, ConversionMade (s.timing.timebase + 1) s.lens u ∧
          step s =
            .next
              { s with
                timing := { s.timing with timebase := s.timing.timebase + 1 }
                lens := u
                memory :=
                  { s.memory with
                    port := some { b with left := b.left - 1, got := b.got ++ [s.memory.words.read a] } } })

/-- The parity of a word (R151, R152): a word as written passes and gives its data back, and a change of one bit
turns a passing word into a failing one and back. -/
def Obligations.ParityCatchesEveryChangeOfOneBit : Prop :=
  (∀ d : BitVec 16, passes (withParity d) = true ∧ wordData (withParity d) = d) ∧
    ∀ (w : MemWord) (i : Nat), i < 17 → passes (w ^^^ (1#17 <<< i)) = !passes w

/-! ### The links -/

/-- A character in IDLE (R163): a lead with the unit code or FFH addresses the part, with an empty buffer and the
timer started; any other lead, any body character and any framing error is ignored. The timer is counted as 50,000
ticks, log 9. -/
def Obligations.IdleReceiverTakesOnlyItsLeads : Prop :=
  ∀ (l : Link) (ch : BitVec 9) (framingError : Bool) (s : State), s.pins.resetAsserted = false →
    (s.links.get l).state = .idle →
      (framingError = false → ch.getLsbD 8 = true → ch.setWidth 8 = s.unitCode →
        exec (.receiveCharacter l ch framingError) s =
          .next
            { s with
              links :=
                s.links.set l
                  { s.links.get l with
                    state := .addressed, addressing := .unicast, buffer := [],
                    timer := some (s.timing.timebase + 50000) } }) ∧
      (framingError = false → ch.getLsbD 8 = true → ch.setWidth 8 = 0xFF#8 →
        exec (.receiveCharacter l ch framingError) s =
          .next
            { s with
              links :=
                s.links.set l
                  { s.links.get l with
                    state := .addressed, addressing := .broadcast, buffer := [],
                    timer := some (s.timing.timebase + 50000) } }) ∧
      (framingError = true ∨ ch.getLsbD 8 = false ∨ (ch.setWidth 8 ≠ s.unitCode ∧ ch.setWidth 8 ≠ 0xFF#8) →
        exec (.receiveCharacter l ch framingError) s = .next s)

/-- A lead in ADDRESSED or BODY (R165) drops the message: with the unit code or FFH a new one begins with an empty
buffer, and with any other byte the receiver is IDLE. No reply and no event. The timer is counted as 50,000 ticks, log
9. -/
def Obligations.NewLeadDropsTheMessage : Prop :=
  ∀ (l : Link) (ch : BitVec 9) (s : State), s.pins.resetAsserted = false →
    (s.links.get l).state = .addressed ∨ (s.links.get l).state = .body → ch.getLsbD 8 = true →
      ∃ t, exec (.receiveCharacter l ch false) s = .next t ∧ (t.links.get l).buffer = [] ∧
        (t.links.get l).state =
          (if ch.setWidth 8 = s.unitCode ∨ ch.setWidth 8 = 0xFF#8 then .addressed else .idle) ∧
        (ch.setWidth 8 = s.unitCode → (t.links.get l).addressing = .unicast) ∧
        (ch.setWidth 8 = 0xFF#8 → (t.links.get l).addressing = .broadcast) ∧
        (t.links.get l).timer =
          (if ch.setWidth 8 = s.unitCode ∨ ch.setWidth 8 = 0xFF#8 then some (s.timing.timebase + 50000)
            else none) ∧
        (t.links.get l).ovr = (s.links.get l).ovr ∧ (t.links.get l).tx = (s.links.get l).tx ∧
        SameEvents l s t ∧ OtherLinks l s t ∧ t = { s with links := t.links }

/-- A body character of a message (R164) that is neither a length above 64 nor the check byte takes its place at the
end of the buffer and restarts the timer; the receiver is in BODY. The timer is counted as 50,000 ticks, log 9. -/
def Obligations.BodyCharacterJoinsTheMessage : Prop :=
  ∀ (l : Link) (b : Byte) (s : State), s.pins.resetAsserted = false →
    (s.links.get l).state = .addressed ∨ (s.links.get l).state = .body →
    ((s.links.get l).buffer.length = 1 → b.toNat ≤ 64) →
    (∀ code n args, (s.links.get l).buffer = code :: n :: args → args.length ≠ n.toNat) →
      exec (.receiveCharacter l (bodyCharacter b) false) s =
        .next
          { s with
            links :=
              s.links.set l
                { s.links.get l with
                  state := .body, buffer := (s.links.get l).buffer ++ [b],
                  timer := some (s.timing.timebase + 50000) } }

/-- The three faults of a message being assembled (R166): a length above 64, a framing error, the expiry of the timer.
The receiver is IDLE with its buffer empty, LINK_FAULT goes to this link alone, and nothing else moves. That a framing
error on a lead counts as one is log 13. -/
def Obligations.LinkFaultsAbandonTheMessage : Prop :=
  ∀ (l : Link) (c : Instr) (s : State), s.pins.resetAsserted = false →
    (s.links.get l).state = .addressed ∨ (s.links.get l).state = .body →
    ((∃ ch, c = .receiveCharacter l ch true) ∨
      (∃ b : Byte, c = .receiveCharacter l (bodyCharacter b) false ∧ (s.links.get l).buffer.length = 1 ∧
        64 < b.toNat) ∨
      (c = .interCharacterTimeout l ∧ (s.links.get l).timer.isSome = true)) →
      exec c s =
        .next
          { s with
            links :=
              s.links.set l
                { s.links.get l with
                  state := .idle, buffer := [], timer := none,
                  events := (s.links.get l).events ||| EventKind.linkFault.mask } }

/-- While a link is EXECUTING or REPLYING every character is discarded and sets its OVR mark (R169); the model's
rows for whole messages and commands of that link are their characters, and do the same (log 10). REPLY_SENT returns
the receiver to IDLE, and the line rests (R171). -/
def Obligations.BusyLinkDiscardsUntilItsReplyIsSent : Prop :=
  ∀ (l : Link) (c : Instr) (s : State), s.pins.resetAsserted = false →
    (s.links.get l).state = .executing ∨ (s.links.get l).state = .replying →
    ((∃ ch framingError, c = .receiveCharacter l ch framingError) ∨ (∃ check, c = .messageReceived l check) ∨
        (∃ m, c.message = some m ∧ m.l = l) →
        exec c s = .next { s with links := s.links.set l { s.links.get l with ovr := true } }) ∧
    ((s.links.get l).state = .replying →
      exec (.replySent l) s =
        .next
          { s with
            links := s.links.set l { s.links.get l with state := .idle, tx := [], txDone := none } })

/-- A complete message that is no command (R167, R168, R172, R182). With a failed check it is answered CHK; with a
code that names no command CODE; with a length the command does not accept LEN. A broadcast one is discarded instead,
and so is a broadcast of any command but RUN, STOP, RESTART and TC_SET. -/
def Obligations.BadMessagesAreRefusedOrDiscarded : Prop :=
  ∀ (l : Link) (check code n : Byte) (args : List Byte) (s : State), s.pins.resetAsserted = false →
    (s.links.get l).state = .body → (s.links.get l).buffer = code :: n :: args → args.length = n.toNat →
      ∃ t, exec (.messageReceived l check) s = .next t ∧
        ((s.links.get l).addressing = .unicast →
          (byteSum (code :: n :: args) + check ≠ 0 → AnsweredOnly l .chk [] s t) ∧
          (byteSum (code :: n :: args) + check = 0 →
            (acceptedLengths code = none → AnsweredOnly l .code [] s t) ∧
            ∀ ls, acceptedLengths code = some ls → args.length ∉ ls → AnsweredOnly l .len [] s t)) ∧
        ((s.links.get l).addressing = .broadcast →
          byteSum (code :: n :: args) + check ≠ 0 ∨ code ∉ [0x10#8, 0x11#8, 0x12#8, 0x24#8] ∨
            (∀ ls, acceptedLengths code = some ls → args.length ∉ ls) →
          Refused l .broadcast .ok s t)

/-- A complete message that spells a command (R168, R172, R182) does what the command's own row does, whether its
check byte comes as MESSAGE_RECEIVED or as a character. Model's choice: that a command's row stands for the receipt of
its whole message is log 10, that its receipt, its judging and its taking are one event log 11, and MESSAGE_RECEIVED as
the check byte log 12. -/
def Obligations.MessageDoesWhatItsCommandRowDoes : Prop :=
  ∀ (i : Instr) (m : Message) (check : Byte) (s : State), i.wellFormed = true → i.message = some m →
    s.pins.resetAsserted = false → (s.links.get m.l).state = .body → (s.links.get m.l).addressing = m.cast →
    (s.links.get m.l).buffer = m.code :: BitVec.ofNat 8 m.args.length :: m.args →
    byteSum (m.code :: BitVec.ofNat 8 m.args.length :: m.args) + check = 0 →
      ∃ t, exec i s = .next t ∧ exec (.messageReceived m.l check) s = .next t ∧
        exec (.receiveCharacter m.l (bodyCharacter check) false) s = .next t

/-- Every well-formed command is read back from the message that spells it, with every operand (R182, R183). -/
def Obligations.EveryCommandIsReadBackFromItsMessage : Prop :=
  ∀ (i : Instr) (m : Message), i.wellFormed = true → i.message = some m →
    parseMessage m.l m.cast m.code m.args = .command i

/-- EVENT_READ (R176): the reply carries the whole pending set, every kind but LOG_READY leaves it, and the EVT bit
shows what is left. -/
def Obligations.EventReadTakesAllButLogReady : Prop :=
  ∀ (l : Link) (s : State), Ready l s →
    ∃ t, exec (.eventRead l) s = .next t ∧
      AnsweredEvt l .ok (bytesOf 2 (s.links.get l).events.toNat) s t ∧
      (∀ k, holds (t.links.get l).events k = (holds (s.links.get l).events k && decide (k = .logReady))) ∧
      (t.links.get l).mask = (s.links.get l).mask ∧ OtherLinks l s t ∧ t = { s with links := t.links }

/-- EVENT_MASK (R177): a mask with a bit that stands for no kind is refused VAL; any other becomes the link's mask,
and the pending set is unchanged. Whether the reply's EVT bit goes by the old mask or the new one is open, log 14. -/
def Obligations.EventMaskTakesThirteenKinds : Prop :=
  ∀ (l : Link) (mask : BitVec 16) (s : State), Ready l s →
    ∃ t, exec (.eventMask l mask) s = .next t ∧
      (8192 ≤ mask.toNat → AnsweredOnly l .val [] s t) ∧
      (mask.toNat < 8192 →
        Answered l .ok [] s t ∧ (t.links.get l).mask.toNat = mask.toNat ∧
          (t.links.get l).events = (s.links.get l).events ∧ OtherLinks l s t ∧ t = { s with links := t.links })

/-- IDENTIFY (R174): part code, revision, unit code and link letter, in every state, and nothing changes. -/
def Obligations.IdentifyNamesPartUnitAndLink : Prop :=
  ∀ (l : Link) (s : State), Ready l s →
    ∃ t, exec (.identify l) s = .next t ∧
      AnsweredOnly l .ok
        [0x41, 0x20, 0x01, 0x50 + s.pins.sel.setWidth 8,
          match l with
          | .a => 0x41
          | .b => 0x42
          | .c => 0x43] s t

/-- The six status commands (R23, R33, R82, R94, R106, R148) answer with the values in force, in the layouts of
R183 and with the lengths of R182, and change nothing. -/
def Obligations.StatusCommandsReportAndChangeNothing : Prop :=
  ∀ (l : Link) (s : State), Ready l s →
    (∃ t, exec (.timingStatus l) s = .next t ∧
      AnsweredOnly l .ok
        ([s.timing.run.code, s.timing.refState.code, s.timing.inputs.a.state.code,
            BitVec.ofNat 8 s.timing.inputs.a.count, s.timing.inputs.b.state.code,
            BitVec.ofNat 8 s.timing.inputs.b.count, s.plan.generation] ++
          bytesOf 3 (if s.timing.run = .stopped then s.plan.active.basePeriod
            else (s.timing.frame.map (·.period)).getD s.plan.active.basePeriod) ++
          [BitVec.ofNat 8 ((s.timing.ramp.map (·.index)).getD 0)] ++ bytesOf 4 s.timing.pairNumber.toNat) s t) ∧
    (∀ which : Byte, ∃ t, exec (.planGet l which) s = .next t ∧
      (2 ≤ which.toNat → AnsweredOnly l .val [] s t) ∧
      (which.toNat < 2 →
        AnsweredOnly l .ok
          (((if which.toNat = 0 then s.plan.active else s.plan.staged).values.flatMap (signedBytes 4)) ++
            [s.plan.generation, s.plan.stage.code, editorCode s.plan.editor]) s t)) ∧
    (∃ t, exec (.pairStatus l) s = .next t ∧
      AnsweredOnly l .ok
        ([s.matcher.eyes.left.presence.code, BitVec.ofNat 8 s.matcher.eyes.left.miss,
            BitVec.ofNat 8 s.matcher.eyes.left.hit, s.matcher.eyes.right.presence.code,
            BitVec.ofNat 8 s.matcher.eyes.right.miss, BitVec.ofNat 8 s.matcher.eyes.right.hit] ++
          bytesOf 2 s.matcher.eyes.left.stray ++ bytesOf 2 s.matcher.eyes.right.stray ++
          [BitVec.ofNat 8 s.matcher.slots.length,
            BitVec.ofNat 8 (s.matcher.slots.filter fun x => x.status == .closedWaiting).length] ++
          bytesOf 4 ((s.matcher.slots.head?.map (·.number.toNat)).getD 0) ++
          [BitVec.ofNat 8 s.matcher.queue.length]) s t) ∧
    (∃ t, exec (.tcGet l) s = .next t ∧
      AnsweredOnly l .ok
        [s.tc.current.hours, s.tc.current.minutes, s.tc.current.seconds, s.tc.current.frames,
          BitVec.ofNat 8 s.tc.base, flagByte s.tc.drop, flagByte s.tc.waiting.isSome] s t) ∧
    (∃ t, exec (.logStatus l) s = .next t ∧
      ((s.log.readers.get l).attached = false → AnsweredOnly l .state [] s t) ∧
      ((s.log.readers.get l).attached = true →
        AnsweredOnly l .ok
          ([BitVec.ofNat 8 s.log.count] ++ bytesOf 4 (s.log.next - BitVec.ofNat 32 s.log.count).toNat ++
            bytesOf 4 (s.log.next - 1).toNat ++ bytesOf 4 (s.log.readers.get l).cursor.toNat ++
            [BitVec.ofNat 8 (s.log.readers.get l).gap, 1]) s t)) ∧
    ∃ t data, exec (.lensStatus l) s = .next t ∧ AnsweredOnly l .ok data s t ∧ data.length = 125 ∧
      data =
        [s.lens.mode.code, flagByte s.lens.scan.isSome] ++
          ([Axis.focus, .iris, .zoom].flatMap fun x =>
            bytesOf 2 (s.lens.axes.get x).demand ++ bytesOf 2 (s.lens.axes.get x).requested ++
              [(s.lens.axes.get x).source.code] ++ bytesOf 2 (s.lens.axes.get x).tolerance ++
              [BitVec.ofNat 8 (s.lens.axes.get x).settle, (s.lens.axes.get x).matching.code]) ++
          ([Eye.left, .right].flatMap fun e => [Axis.focus, .iris, .zoom].flatMap fun x =>
            (fun (ch : Channel) (t : Table) =>
                signedBytes 2 ch.trim ++ [flagByte ch.drive] ++ bytesOf 2 ch.target ++ bytesOf 2 ch.output ++
                  bytesOf 2 ch.encoder.toNat ++
                  [ch.status.code, BitVec.ofNat 8 ch.counter, flagByte ch.sat, t.state.code])
              (channelGet s.lens.channels ⟨e, x⟩) (channelGet s.lens.tables ⟨e, x⟩)) ++
          ([Eye.left, .right].flatMap fun e => [Axis.focus, .iris, .zoom].flatMap fun x =>
            bytesOf 2 (channelGet s.lens.conversions.encoders ⟨e, x⟩).toNat) ++
          [Axis.focus, .iris, .zoom].flatMap fun x => bytesOf 2 (s.lens.conversions.wheels.get x).toNat

/-! ### The Plan Unit -/

/-- PLAN_SET (R25, R27, R28): a value outside its field's range is refused VAL in every state; one in range is
refused PEND while a commit waits and HELD from a link that is not the editor; otherwise that field alone of the
staged plan takes the value, the sender edits, and the lapse timer starts anew. -/
def Obligations.PlanSetWritesOneFieldForItsEditor : Prop :=
  ∀ (l : Link) (field : Byte) (value : BitVec 32) (s : State), Ready l s →
    ∃ t, exec (.planSet l field value) s = .next t ∧
      ((∀ lo hi, planRange field.toNat = some (lo, hi) → value.toInt < lo ∨ hi < value.toInt) →
        AnsweredOnly l .val [] s t) ∧
      (∀ lo hi, planRange field.toNat = some (lo, hi) → lo ≤ value.toInt → value.toInt ≤ hi →
        (s.plan.stage = .committing → AnsweredOnly l .pend [] s t) ∧
        (s.plan.stage = .editing → s.plan.editor ≠ some l → AnsweredOnly l .held [] s t) ∧
        (s.plan.stage = .free ∨ (s.plan.stage = .editing ∧ s.plan.editor = some l) →
          AnsweredAlone l .ok [] s t ∧
            t.plan.staged.values = s.plan.staged.values.set (field.toNat - 1) value.toInt ∧
            t = { s with
                  plan :=
                    { s.plan with
                      staged := t.plan.staged, stage := .editing, editor := some l,
                      lapse := some (s.timing.timebase + 20000000) }
                  links := t.links }))

/-- PLAN_COMMIT (R29, R30, R35 to R37): refused STATE with nothing staged, PEND while a commit waits, HELD from
another link, and PLAN with FIT before RAMP_EXT when the plan is not valid; a valid one waits, unanswered, while the
part is not STOPPED, and is applied at once while it is: the generation rises, a change of rate restarts the
generator and puts the inputs back to QUALIFYING, a change of rate or mode re-forms the reference state, and nothing
else moves but the events posted (R11, R12, R40, R42). -/
def Obligations.PlanCommitValidatesAndAppliesOrWaits : Prop :=
  ∀ (l : Link) (s : State), Ready l s → ∃ t, exec (.planCommit l) s = .next t ∧
    (s.plan.stage = .free → AnsweredOnly l .state [] s t) ∧
    (s.plan.stage = .committing → AnsweredOnly l .pend [] s t) ∧
    (s.plan.stage = .editing → s.plan.editor ≠ some l → AnsweredOnly l .held [] s t) ∧
    (s.plan.stage = .editing → s.plan.editor = some l → ∀ room : Int,
      room = (min (10000000 * s.plan.active.rateDen / s.plan.active.rateNum)
        (10000000 * s.plan.staged.rateDen / s.plan.staged.rateNum) : Nat) - (s.plan.staged.gap : Int) -
          s.plan.staged.eyeOffset.natAbs →
      (room < 20 ∨ (0 < s.plan.staged.rampLen ∧ s.plan.staged.refMode = .external) →
        AnsweredAlone l .plan [if room < 20 then 1 else 2] s t ∧
          t = { s with
                plan := { s.plan with lapse := some (s.timing.timebase + 20000000) }, links := t.links }) ∧
      (20 ≤ room → ¬ (0 < s.plan.staged.rampLen ∧ s.plan.staged.refMode = .external) →
        (s.timing.run ≠ .stopped →
          LeftExecuting l s t ∧
            t = { s with plan := { s.plan with stage := .committing, lapse := none }, links := t.links }) ∧
        (s.timing.run = .stopped → ∀ rate mode : Bool,
          rate = decide (s.plan.staged.rateNum ≠ s.plan.active.rateNum ∨
            s.plan.staged.rateDen ≠ s.plan.active.rateDen) →
          mode = decide (s.plan.staged.refMode ≠ s.plan.active.refMode) →
          Answered l .ok ((s.plan.generation + 1) :: bytesOf 4 s.timing.pairNumber.toNat) s t ∧
            t = { s with plan := appliedPlan s.plan, timing := t.timing, links := t.links } ∧
            (∀ restarts : Bool,
              restarts = (rate || (mode && decide (s.plan.staged.refMode = .external) && s.timing.ramp.isSome)) →
              t.timing =
                { s.timing with
                  acc := if restarts then 0 else s.timing.acc
                  ramp := if restarts then none else s.timing.ramp
                  lockHeld := s.timing.lockHeld && !mode
                  refState := t.timing.refState, rephase := t.timing.rephase, inputs := t.timing.inputs }) ∧
            (s.timing.rephase = none → t.timing.rephase = none) ∧
            (rate = false → mode = false → t.timing = s.timing) ∧
            ((rate || mode) = true → ReferenceInv t) ∧
            (∀ k kind, holds (t.links.get k).events kind =
              (holds (s.links.get k).events kind || decide (kind = .planApplied) ||
                decide (kind = .refChange ∧ t.timing.refState ≠ s.timing.refState))) ∧
            (∀ k, k ≠ l → t.links.get k = { s.links.get k with events := (t.links.get k).events }) ∧
            (t.links.get l).mask = (s.links.get l).mask ∧
            ∀ r, t.timing.inputs.get r =
              if rate then
                ⟨.qualifying, 0, (s.timing.inputs.get r).lastPulse,
                  some (s.timing.timebase +
                    BitVec.ofNat 48 (2 * (10000000 * s.plan.staged.rateDen / s.plan.staged.rateNum)))⟩
              else s.timing.inputs.get r)))

/-- PLAN_DISCARD (R32) and the edit lapse (R28): the hold ends and the staged plan is recopied from the active one;
the discard answers OK and posts nothing, and from another link or while a commit waits it is refused; the lapse
posts PLAN_LAPSED to the editor's link alone. -/
def Obligations.DiscardAndLapseFreeTheStagedPlan : Prop :=
  (∀ (l : Link) (s : State), Ready l s → ∃ t, exec (.planDiscard l) s = .next t ∧
    (s.plan.stage = .free → AnsweredOnly l .ok [] s t) ∧
    (s.plan.stage = .committing → AnsweredOnly l .pend [] s t) ∧
    (s.plan.stage = .editing → s.plan.editor ≠ some l → AnsweredOnly l .held [] s t) ∧
    (s.plan.stage = .editing → s.plan.editor = some l →
      AnsweredAlone l .ok [] s t ∧
        t = { s with
              plan := ⟨s.plan.active, s.plan.active, .free, none, none, s.plan.generation⟩
              links := t.links })) ∧
    ∀ (l : Link) (s : State), s.pins.resetAsserted = false → s.plan.stage = .editing → s.plan.editor = some l →
      s.plan.lapse = some s.timing.timebase →
        exec .planEditLapse s =
          .next
            { s with
              plan := ⟨s.plan.active, s.plan.active, .free, none, none, s.plan.generation⟩
              links :=
                s.links.set l
                  { s.links.get l with events := (s.links.get l).events ||| EventKind.planLapsed.mask } }

/-! ### Runs -/

/-- RUN (R4, R61): refused STATE unless STOPPED. Under FOLLOW_LEFT, and under EXTERNAL with an input GOOD, the run
begins with no boundary; otherwise its first boundary is taken at the same instant, with the pair number given or
kept, the period Q and the remainder r in the accumulator, and the timecode not incremented. -/
def Obligations.RunStartsARun : Prop :=
  ∀ (l : Link) (cast : Addressing) (start : Option (BitVec 32)) (s : State), Ready l s →
    ∃ t, exec (.run l cast start) s = .next t ∧
      (s.timing.run ≠ .stopped → Refused l cast .state s t) ∧
      (s.timing.run = .stopped →
        s.plan.active.refMode = .followLeft ∨
          (s.plan.active.refMode = .external ∧
            (s.timing.inputs.a.state = .good ∨ s.timing.inputs.b.state = .good)) →
        Acknowledged l cast .ok [] s t ∧
        t.timing =
          { s.timing with
            run := .running, next := none, acc := 0, ramp := none, lockHeld := false, rephase := none,
            frame := none, pairNumber := start.getD s.timing.pairNumber, runStart := some s.timing.timebase,
            refState :=
              if s.plan.active.refMode = .followLeft then .seeking
              else if s.timing.inputs.a.state = .good then .lockedA else .lockedB } ∧
        (∀ e, t.matcher.eyes.get e = { s.matcher.eyes.get e with presence := .unknown, miss := 0, hit := 0 }) ∧
        t = { s with
              timing := t.timing, matcher := { s.matcher with eyes := t.matcher.eyes },
              tc := { s.tc with firstMark := true }, links := t.links }) ∧
      (s.timing.run = .stopped → s.plan.stage ≠ .committing → s.tc.waiting = none → s.plan.active.inRanges →
        s.plan.active.refMode = .internal ∨ s.plan.active.refMode = .loop ∨
          (s.plan.active.refMode = .external ∧ s.timing.inputs.a.state ≠ .good ∧
            s.timing.inputs.b.state ≠ .good) →
        Acknowledged l cast .ok [] s t ∧
        (∃ f,
          t.timing =
            { s.timing with
              run := .running, next := some (s.timing.timebase + BitVec.ofNat 48 s.plan.active.basePeriod),
              acc := s.plan.active.remainder, ramp := none, lockHeld := false, rephase := none, frame := some f,
              pairNumber := start.getD s.timing.pairNumber + 1, runStart := some s.timing.timebase,
              refState :=
                match s.plan.active.refMode with
                | .internal => .free
                | .loop => .loop
                | _ => .seeking } ∧
          f.start = s.timing.timebase ∧ f.number = start.getD s.timing.pairNumber ∧
          f.period = s.plan.active.basePeriod ∧ f.isRamp = false) ∧
        t.tc = { s.tc with firstMark := false } ∧ t.plan = s.plan ∧ t.log = s.log ∧ t.pins = s.pins ∧
        (s.matcher.slots = [] →
          (∀ e, (s.trig.eyes.get e).lastPulse = none ∧ (s.trig.eyes.get e).waiting = []) →
          (∀ e, t.matcher.eyes.get e =
            { s.matcher.eyes.get e with presence := .unknown, miss := 0, hit := 0 }) ∧
          ∃ f x, t.timing.frame = some f ∧ t.matcher.slots = [x] ∧ SlotOpened false s f t x) ∧
        ScanAtBoundary s t)

/-- STOP (R5, R6, R17): refused STATE unless RUNNING; it leaves DRAINING while a slot is open or a record unwritten.
STOPPED is reached at once when neither is, and by REACH_STOPPED at the end of a drain: the run's schedule, frame,
ramp and lock record go, TIMING_STOPPED goes to all links, and the reference state takes its STOPPED value. Reached
either way, STOPPED applies a waiting commit and a pending timecode set and has them answered (R31, R36, R92). -/
def Obligations.StopDrainsAndReachesStopped : Prop :=
  (∀ (l : Link) (cast : Addressing) (s : State), Ready l s → ∃ t, exec (.stop l cast) s = .next t ∧
    (s.timing.run ≠ .running → Refused l cast .state s t) ∧
    (s.timing.run = .running → s.matcher.slots ≠ [] ∨ s.matcher.queue ≠ [] →
      Acknowledged l cast .ok [] s t ∧ SameEvents l s t ∧ OtherLinks l s t ∧
        t = { s with timing := { s.timing with run := .draining, rephase := none }, links := t.links }) ∧
    (s.timing.run = .running → s.matcher.slots = [] → s.matcher.queue = [] → s.plan.stage ≠ .committing →
      s.tc.waiting = none →
        Acknowledged l cast .ok [] s t ∧ (∀ k, holds (t.links.get k).events .timingStopped = true) ∧
          ReferenceInv t ∧
          t = { s with
                timing :=
                  { s.timing with
                    run := .stopped, next := none, ramp := none, lockHeld := false, rephase := none,
                    frame := none, runStart := none, refState := t.timing.refState }
                links := t.links }) ∧
    (s.timing.run = .running → s.matcher.slots = [] → s.matcher.queue = [] → ReplyInv s →
      Acknowledged l cast .ok [] s t ∧ StoppedReached s t)) ∧
    (∀ s : State, s.pins.resetAsserted = false → s.timing.run = .draining → s.matcher.slots = [] →
      s.matcher.queue = [] → ∃ t, exec .reachStopped s = .next t ∧ StoppedReached s t) ∧
    ∀ s : State, s.pins.resetAsserted = false → s.timing.run = .draining → s.matcher.slots = [] →
      s.matcher.queue = [] → s.plan.stage ≠ .committing → s.tc.waiting = none →
        ∃ t, exec .reachStopped s = .next t ∧
          (∀ k, holds (t.links.get k).events .timingStopped = true) ∧ ReferenceInv t ∧ OnlyEvents s t ∧
          t = { s with
                timing :=
                  { s.timing with
                    run := .stopped, next := none, ramp := none, lockHeld := false, rephase := none,
                    frame := none, runStart := none, refState := t.timing.refState }
                links := t.links }

/-- RESTART (R7, R8, R34, R55, R92, R104, R108, R159), in every run state: the run ends without a record, triggers
are cut, eyes forgotten with their strays, the log emptied with N and the attach flags kept, the staged plan freed;
a waiting commit and a pending timecode set are answered ABRT, and a LOG_READ under way OK with no record. -/
def Obligations.RestartEmptiesTheRun : Prop :=
  ∀ (l : Link) (cast : Addressing) (s : State), Ready l s → ReplyInv s →
    ∃ t, exec (.restart l cast) s = .next t ∧ Acknowledged l cast .ok [] s t ∧ ReferenceInv t ∧
      t.timing =
        { s.timing with
          run := .stopped, next := none, ramp := none, lockHeld := false, rephase := none, frame := none,
          runStart := none, refState := t.timing.refState } ∧
      (∀ e, t.trig.eyes.get e = ⟨false, none, []⟩ ∧ t.trig.synth.get e = [] ∧
        t.matcher.eyes.get e = ⟨.unknown, 0, 0, 0⟩) ∧
      t.matcher.slots = [] ∧ t.matcher.queue = [] ∧
      t.plan = ⟨s.plan.active, s.plan.active, .free, none, none, s.plan.generation⟩ ∧
      t.tc = { s.tc with waiting := none } ∧
      t.log.next = s.log.next ∧ t.log.count = 0 ∧
      (∀ k, t.log.readers.get k = ⟨(s.log.readers.get k).attached, s.log.next, 0⟩) ∧
      ((∃ b, s.memory.port = some b ∧ (b.holder = .record ∨ ∃ k gap a n, b.holder = .logRead k gap a n)) →
        t.memory = { s.memory with port := none }) ∧
      ((∀ b, s.memory.port = some b → b.holder ≠ .record ∧ ∀ k gap a n, b.holder ≠ .logRead k gap a n) →
        t.memory = s.memory) ∧
      (∀ k, s.plan.stage = .committing → s.plan.editor = some k → Answered k .abrt [] s t) ∧
      (∀ k w, s.tc.waiting = some w → w.owed = some k → Answered k .abrt [] s t) ∧
      (∀ k gap a n b, s.memory.port = some b → b.holder = .logRead k gap a n →
        Answered k .ok (BitVec.ofNat 8 gap :: 0 :: bytesOf 4 s.log.next.toNat) s t) ∧
      (∀ k kind, holds (t.links.get k).events kind =
        match kind with
        | .logReady => false
        | .timingStopped => holds (s.links.get k).events kind || decide (s.timing.run ≠ .stopped)
        | .refChange => holds (s.links.get k).events kind || decide (t.timing.refState ≠ s.timing.refState)
        | _ => holds (s.links.get k).events kind) ∧
      t.lens = s.lens ∧ t.pins = s.pins ∧ t.pending = s.pending ∧ t.tieChoices = s.tieChoices

/-! ### Boundaries -/

/-- SCHEDULE_BOUNDARY (R2, R3, R16, R22, R39, R41 to R45, R88, R141, R142): with N now, in RUNNING and in service, a
frame begins with its pair number, period, exposure and N, a re-phase moves to its second step, the timecode is
stamped, and under FRAME scanning a new scan replaces the one under way, its request withdrawn and a segment read
granted for it run on with its words to be discarded (log 33), every other burst untouched (R157). Out of service N is
passed over. That the accumulator is 0 from the start of a ramp to its end is the model's choice, log 36. -/
def Obligations.ScheduledBoundaryBeginsAFrame : Prop :=
  ∀ s : State, s.pins.resetAsserted = false →
    (BoundaryDue s → s.plan.stage ≠ .committing → ∃ t, exec .scheduleBoundary s = .next t ∧
      FrameDrawn s.plan.active s.timing.acc s.timing.ramp s.timing.timebase s.timing.pairNumber t.timing ∧
      t.timing =
        { s.timing with
          frame := t.timing.frame, next := t.timing.next, pairNumber := t.timing.pairNumber,
          acc := t.timing.acc, ramp := t.timing.ramp,
          lockHeld := s.timing.lockHeld || s.timing.refState.isLocked,
          rephase := if s.timing.rephase.isSome then some .second else none } ∧
      TimecodeStamped s.tc t.tc ∧ t.plan = s.plan ∧ t.log = s.log ∧ t.pins = s.pins ∧
      ScanAtBoundary s t) ∧
    (¬ InService s → exec .scheduleBoundary s = .next s)

/-- A scheduled boundary opens one slot at the tail of the table, with the items R66 lists, and arms its triggers:
an eye whose delay is 0 is issued at once, under LOOP on no line (R46, R49 to R51, R58, R66 to R70, R72). With four
slots held the head is closed first (R68). -/
def Obligations.ScheduledBoundaryOpensItsSlot : Prop :=
  ∀ s : State, s.pins.resetAsserted = false → BoundaryDue s → s.plan.stage ≠ .committing → s.tc.waiting = none →
    s.plan.active.inRanges → (∀ y ∈ s.matcher.slots, y.number ≠ s.timing.pairNumber) →
    (∀ e, (s.trig.eyes.get e).waiting = [] ∧
      ∀ p, (s.trig.eyes.get e).lastPulse = some p → since p.start p.stop < since p.start s.timing.timebase) →
      ∃ t f x, exec .scheduleBoundary s = .next t ∧ t.timing.frame = some f ∧ SlotOpened false s f t x ∧
        t.plan = s.plan ∧ t.timing.refState = s.timing.refState ∧
        (s.matcher.slots.length < 4 →
          t.matcher = { s.matcher with slots := s.matcher.slots ++ [x] } ∧ t.links = s.links) ∧
        ∀ y ys, s.matcher.slots = y :: ys → ys.length = 3 → y.status = .collecting →
          ∃ u, CloseEffect [] y ys s u ∧ t.matcher = { u.matcher with slots := u.matcher.slots ++ [x] } ∧
            t.links = u.links

/-- A commit waiting in COMMITTING (R31, R35 to R37, R40 to R42, R11, R21): a boundary in RUNNING applies it, as
BoundaryTaken says, and so does the reaching of STOPPED. The boundary of N applies it as PLAN_APPLY too, the event that
does it (log 17); REF_PULSE, RETURN_EDGE, LEFT_RETURN_LAPSE and REF_ABSENCE_EXPIRY apply it at theirs. The committer is
answered with the new generation and the pair number of its first slot, and PLAN_APPLIED goes to all links. That a ramp
begins and runs with the accumulator at 0 is the model's choice, log 36. -/
def Obligations.WaitingCommitIsAppliedAtBoundaryOrStopped : Prop :=
  ∀ (l : Link) (s : State), s.pins.resetAsserted = false → s.plan.stage = .committing → s.plan.editor = some l →
    (BoundaryDue s → ∃ t, exec .planApply s = .next t ∧ exec .scheduleBoundary s = .next t ∧
      BoundaryTaken false s t ∧ (ReferenceInv s → ReferenceInv t) ∧
      (RateCommitWaits s → ∀ r, (t.timing.inputs.get r).lastPulse = (s.timing.inputs.get r).lastPulse) ∧
      (¬ RateCommitWaits s → t.timing.inputs = s.timing.inputs)) ∧
    (∀ (c : Instr) (t : State), c ∈ [.refPulse .a, .refPulse .b, .returnEdge .left, .leftReturnLapse,
        .refAbsenceExpiry .a, .refAbsenceExpiry .b] → exec c s = .next t →
      t.timing.pairNumber ≠ s.timing.pairNumber →
        BoundaryTaken (decide (c = .returnEdge .left)) s t ∧ (ReferenceInv s → ReferenceInv t)) ∧
    (s.tc.owed ≠ some l → s.timing.run = .draining → s.matcher.slots = [] → s.matcher.queue = [] →
      ∃ t, exec .planApply s = .next t ∧ exec .reachStopped s = .next t ∧ t.timing.run = .stopped ∧
        t.plan = appliedPlan s.plan ∧ ReferenceInv t ∧
        Answered l .ok ((s.plan.generation + 1) :: bytesOf 4 s.timing.pairNumber.toNat) s t ∧
        (∀ k, holds (t.links.get k).events .planApplied = true) ∧ StoppedReached s t)

/-- A pending timecode set (R88, R91, R92): the first boundary taken, whatever brings it, or the reaching of STOPPED,
makes it current, and its sender is answered OK unless it was broadcast. TIMECODE_PENDING_APPLY is the event that does
it (log 17), and in RUNNING it does nothing when no boundary falls now (log 8). -/
def Obligations.PendingTimecodeIsAppliedAtBoundaryOrStopped : Prop :=
  ∀ (w : PendingTimecode) (s : State), s.pins.resetAsserted = false → s.tc.waiting = some w →
    (BoundaryDue s → ∃ t, exec .timecodePendingApply s = .next t ∧ exec .scheduleBoundary s = .next t ∧
      t.tc = ⟨w.value, w.base, w.drop, none, false⟩ ∧
      (∀ l, w.owed = some l → s.plan.committer ≠ some l → Answered l .ok [] s t)) ∧
    (∀ (c : Instr) (t : State), c ∈ [.refPulse .a, .refPulse .b, .returnEdge .left, .leftReturnLapse,
        .refAbsenceExpiry .a, .refAbsenceExpiry .b] → exec c s = .next t →
      (t.timing.pairNumber ≠ s.timing.pairNumber →
        t.tc = ⟨w.value, w.base, w.drop, none, false⟩ ∧
          ∀ l, w.owed = some l → s.plan.committer ≠ some l → Answered l .ok [] s t) ∧
      (t.timing.pairNumber = s.timing.pairNumber → t.tc = s.tc)) ∧
    (s.timing.run = .draining → s.matcher.slots = [] → s.matcher.queue = [] →
      ∃ t, exec .timecodePendingApply s = .next t ∧ exec .reachStopped s = .next t ∧ t.timing.run = .stopped ∧
        t.tc = { s.tc with current := w.value, base := w.base, drop := w.drop, waiting := none } ∧
        (∀ l, w.owed = some l → s.plan.committer ≠ some l → Answered l .ok [] s t) ∧ StoppedReached s t) ∧
    (s.timing.run = .running → ¬ (s.timing.next = some s.timing.timebase ∧ InService s) →
      exec .timecodePendingApply s = .next s)

/-! ### Reference inputs and returns -/

/-- REF_PULSE (R10, R12, R14 to R17): the pulse is qualified against Pn in every mode. Under EXTERNAL in RUNNING a pulse
of the input locked to, GOOD before and after, is a boundary, during a re-phase only after the threshold. A pulse that
makes an input GOOD and selected moves the lock to it, and one that takes the input locked to out of tolerance moves
the lock to the other input if that is GOOD, each beginning a re-phase, or puts the schedule in service; a pulse of any
other input does nothing more. Model's choice: the boundary of an N that falls at this instant, log 34; that a pulse at
a threshold which is N itself is passed over, log 38; the accumulator at 0 through a ramp, log 36. -/
def Obligations.ReferencePulseQualifiesAndMayBeABoundary : Prop :=
  ∀ (r : RefId) (s : State), s.pins.resetAsserted = false →
    ∃ t x, exec (.refPulse r) s = .next t ∧ x.lastPulse = some s.timing.timebase ∧
      x.deadline = some (s.timing.timebase + BitVec.ofNat 48 (2 * s.plan.active.basePeriod)) ∧
      ((s.timing.inputs.get r).state = .absent ∨ (s.timing.inputs.get r).lastPulse = none →
        x.state = .qualifying ∧ x.count = 0) ∧
      (∀ last, (s.timing.inputs.get r).state ≠ .absent → (s.timing.inputs.get r).lastPulse = some last →
        if ((since last s.timing.timebase : Int) - s.plan.active.basePeriod).natAbs ≤ s.plan.active.basePeriod / 1024
        then
          x.count = min 8 ((s.timing.inputs.get r).count + 1) ∧
            x.state = if x.count = 8 then .good else (s.timing.inputs.get r).state
        else x.state = .qualifying ∧ x.count = 0) ∧
      (¬ RateCommitWaits s ∨ t.timing.pairNumber = s.timing.pairNumber →
        t.timing.inputs = s.timing.inputs.set r x) ∧
      (s.timing.run ≠ .running → ReferenceInv s → ReferenceInv t ∧ OnlyEvents s t ∧
        t = { s with
              timing :=
                { s.timing with
                  inputs := t.timing.inputs, refState := t.timing.refState, lockHeld := t.timing.lockHeld,
                  rephase := t.timing.rephase }
              links := t.links }) ∧
      (s.plan.active.refMode ≠ .external ∨
          (x.state ≠ .good ∧ (s.timing.inputs.get r).state ≠ .good) ∨
          (s.timing.refState = .lockedA ∧ r = .b) → ReferenceInv s →
        t = { s with timing := { s.timing with inputs := t.timing.inputs } }) ∧
      (s.plan.active.refMode = .external → s.timing.run = .running →
        ((s.timing.inputs.get r).state ≠ .good → x.state = .good → s.timing.refState ≠ lockedTo r →
          (r = .b → s.timing.inputs.a.state ≠ .good) → MovedToLock r s t) ∧
        (s.timing.refState = lockedTo r → (s.timing.inputs.get r).state = .good → x.state ≠ .good →
          (∀ q, q ≠ r → (s.timing.inputs.get q).state = .good → MovedToLock q s t) ∧
          ((∀ q, q ≠ r → (s.timing.inputs.get q).state ≠ .good) → MovedToSchedule s t)) ∧
        (s.timing.refState = lockedTo r → (s.timing.inputs.get r).state = .good → x.state = .good →
          (s.timing.rephase = none →
            BoundaryTaken false s t ∧ (s.plan.stage ≠ .committing → t.timing.lockHeld = true)) ∧
          ∀ f, s.timing.rephase ≠ none → s.timing.frame = some f →
            (f.offset.natAbs + f.exposure + s.plan.active.gap < since f.start s.timing.timebase →
              t.timing.rephase = none ∧ BoundaryTaken false s t) ∧
            (since f.start s.timing.timebase ≤ f.offset.natAbs + f.exposure + s.plan.active.gap →
              t = { s with timing := { s.timing with inputs := t.timing.inputs } })))

/-- The two lapses of a boundary source. REF_ABSENCE_EXPIRY (R11, R12, R14, R16, R17): the input becomes ABSENT, the
selection is re-formed, and in RUNNING the loss of the input locked to moves the lock to the other input if that is
GOOD, beginning a re-phase as in the worked sequence of 1.7, and else puts the schedule in service. LEFT_RETURN_LAPSE
(R18, R19): two planned periods without a left return make HOLDOVER, with a boundary at once in RUNNING and none in
DRAINING. Model's choice: that an ABSENT input has no deadline, log 35, the boundary of an N that falls at this
instant, log 34, and the accumulator at 0 through a ramp, log 36. -/
def Obligations.LostSourcesMoveTheReference : Prop :=
  (∀ (r : RefId) (s : State), s.pins.resetAsserted = false → (s.timing.inputs.get r).state ≠ .absent →
    (s.timing.inputs.get r).deadline = some s.timing.timebase →
    ∃ t, exec (.refAbsenceExpiry r) s = .next t ∧
      (¬ RateCommitWaits s ∨ t.timing.pairNumber = s.timing.pairNumber →
        t.timing.inputs = s.timing.inputs.set r ⟨.absent, 0, none, none⟩) ∧
      (ReferenceInv s → ReferenceInv t) ∧
      (s.timing.run ≠ .running → OnlyEvents s t ∧
        t = { s with
              timing :=
                { s.timing with
                  inputs := t.timing.inputs, refState := t.timing.refState, lockHeld := t.timing.lockHeld,
                  rephase := t.timing.rephase }
              links := t.links }) ∧
      (s.plan.active.refMode ≠ .external ∨ (s.timing.inputs.get r).state ≠ .good ∨
          (s.timing.refState = .lockedA ∧ r = .b) → ReferenceInv s →
        t = { s with timing := { s.timing with inputs := t.timing.inputs } }) ∧
      (s.timing.run = .running → s.plan.active.refMode = .external → s.timing.refState = lockedTo r →
        (∀ q, q ≠ r → (s.timing.inputs.get q).state = .good → MovedToLock q s t) ∧
        ((∀ q, q ≠ r → (s.timing.inputs.get q).state ≠ .good) → MovedToSchedule s t))) ∧
    ∀ (s : State) (b : Time) (period : Nat), s.pins.resetAsserted = false →
      s.plan.active.refMode = .followLeft → s.timing.refState = .seeking ∨ s.timing.refState = .lockedL →
      ((∃ f, s.timing.frame = some f ∧ b = f.start ∧ period = f.period) ∨
        (s.timing.frame = none ∧ s.timing.runStart = some b ∧ period = s.plan.active.basePeriod)) →
      s.timing.timebase = b + BitVec.ofNat 48 (2 * period) →
      (s.timing.run = .running → ∃ t, exec .leftReturnLapse s = .next t ∧ BoundaryTaken false s t ∧
        (∀ l, holds (t.links.get l).events .refChange = true) ∧
        (s.plan.stage ≠ .committing → t.timing.refState = .holdover)) ∧
      (s.timing.run = .draining → ∃ t, exec .leftReturnLapse s = .next t ∧ PostedAll .refChange s t ∧
        OnlyEvents s t ∧
        t = { s with
              timing := { s.timing with refState := .holdover, rephase := none }, links := t.links })

/-- RETURN_EDGE (R18, R19, R50, R56, R62, R63, R67, R74): ignored under LOOP; a stray in STOPPED; under FOLLOW_LEFT a
left return is a boundary that locks when it passes the half-period test in RUNNING, and a stray otherwise; its slot
has trigger_L and return_L at the return's time and no left trigger pending, whatever mode a commit applied there
leaves (log 19); every other return goes to the Pair Matcher. That the accumulator is 0 through a ramp is the model's
choice, log 36. -/
def Obligations.ReturnEdgesAreRoutedByMode : Prop :=
  ∀ (e : Eye) (s : State), s.pins.resetAsserted = false → ∃ t, exec (.returnEdge e) s = .next t ∧
    (s.plan.active.refMode = .loop → t = s) ∧
    (s.plan.active.refMode ≠ .loop → s.timing.run = .stopped → StrayEffect e s t) ∧
    (s.plan.active.refMode ≠ .loop → s.timing.run ≠ .stopped →
      ¬ (s.plan.active.refMode = .followLeft ∧ e = .left) → ReturnEffect e s t) ∧
    (s.plan.active.refMode = .followLeft → e = .left → s.timing.run = .draining → StrayEffect .left s t) ∧
    (s.plan.active.refMode = .followLeft → e = .left → s.timing.run = .running →
      (∀ f, s.timing.frame = some f → 2 * since f.start s.timing.timebase < f.period → StrayEffect .left s t) ∧
      ((∀ f, s.timing.frame = some f → f.period ≤ 2 * since f.start s.timing.timebase) →
        BoundaryTaken true s t ∧
          (s.plan.stage ≠ .committing → t.timing.refState = .lockedL ∧ t.timing.lockHeld = true) ∧
          (s.timing.refState ≠ .lockedL → ∀ l, holds (t.links.get l).events .refChange = true) ∧
          (s.matcher.slots = [] → (∀ q, s.trig.eyes.get q = ⟨false, none, []⟩) →
            ∃ x, t.matcher.slots = [x] ∧ x.number = s.timing.pairNumber ∧ x.start = s.timing.timebase ∧
              x.status = .collecting ∧ x.trigger.left = some s.timing.timebase ∧
              x.returned = ⟨some s.timing.timebase, none⟩ ∧ x.isPending .left = false ∧
              x.refState = t.timing.refState)))

/-- TRIGGER_DECISION (R51, R58, R66, R71, R72): the entry leaves its list. With the eye's last pulse over, it is issued:
the pulse is recorded and the line goes ACTIVE, or under LOOP a return is scheduled; else it is withheld. Its slot's
pending mark is cleared, an issued trigger noted and its time filled if none is filled yet (log 19), its deadline formed
anew (R72), without the time of an issued left entry that found trigger_L filled by a left return (the model's choice,
log 40), and it closes if the decision completes it. Of several entries of an eye at one time the first in the list is
decided: the model's choice, log 27. -/
def Obligations.TriggerIsIssuedOrWithheld : Prop :=
  ∀ (e : Eye) (s : State) (n : Entry) (before after : List Entry) (pre post : List Slot) (x x' : Slot),
    s.pins.resetAsserted = false → (s.trig.eyes.get e).waiting = before ++ n :: after →
    n.time = s.timing.timebase → (∀ m ∈ before, m.time ≠ s.timing.timebase) → PlacedAt pre x post s →
    x.status = .collecting → x.number = n.slot →
      ∃ t, exec (.triggerDecision e) s = .next t ∧
        ∀ (u : State) (d : Time),
          ((∀ p, (s.trig.eyes.get e).lastPulse = some p → since p.start p.stop < since p.start s.timing.timebase) →
            x' = { x with
                    armed := x.armed.set e none
                    issued := x.issued.set e true
                    trigger := x.trigger.set e (some ((x.trigger.get e).getD s.timing.timebase)) } →
            DeadlineOf x' d →
            u = { s with
                  matcher :=
                    { s.matcher with slots := pre ++ { x' with deadline := d } :: post }
                  trig :=
                    { eyes := s.trig.eyes.set e
                        { active := (s.trig.eyes.get e).active || decide (n.treatment = .driven)
                          lastPulse :=
                            some ⟨n.slot, s.timing.timebase, s.timing.timebase + BitVec.ofNat 48 n.exposure⟩
                          waiting := before ++ after }
                      synth :=
                        if n.treatment = .virtual then
                          s.trig.synth.set e
                            (s.trig.synth.get e ++
                              [s.timing.timebase + BitVec.ofNat 48
                                (match e with
                                  | .left => 50
                                  | .right => (max 0 (50 + n.loopSkew)).toNat)])
                        else s.trig.synth } } →
            (¬ IsComplete x' → t = u) ∧
              (IsComplete x' → CloseEffect pre { x' with deadline := d } post u t)) ∧
          ((∃ p, (s.trig.eyes.get e).lastPulse = some p ∧
              since p.start s.timing.timebase ≤ since p.start p.stop) →
            x' = { x with armed := x.armed.set e none } →
            DeadlineOf x' d →
            u = { s with
                  matcher :=
                    { s.matcher with slots := pre ++ { x' with deadline := d } :: post }
                  trig :=
                    { s.trig with
                      eyes := s.trig.eyes.set e { s.trig.eyes.get e with waiting := before ++ after } } } →
            (¬ IsComplete x' → t = u) ∧
              (IsComplete x' → CloseEffect pre { x' with deadline := d } post u t))

/-- TRIGGER_PULSE_END (R52): the line goes INACTIVE and the last pulse is kept. SYNTH_RETURN (R58): the return
scheduled for now leaves its list and is handed to the Pair Matcher like a real one. -/
def Obligations.PulsesEndAndSynthesisedReturnsArrive : Prop :=
  ∀ (e : Eye) (s : State), s.pins.resetAsserted = false →
    (∀ p, (s.trig.eyes.get e).active = true → (s.trig.eyes.get e).lastPulse = some p →
      p.stop = s.timing.timebase →
      exec (.triggerPulseEnd e) s =
        .next
          { s with
            trig := { s.trig with eyes := s.trig.eyes.set e { s.trig.eyes.get e with active := false } } }) ∧
    ∀ before after, s.trig.synth.get e = before ++ s.timing.timebase :: after → s.timing.timebase ∉ before →
      ∃ t, exec (.synthReturn e) s = .next t ∧
        ReturnEffect e { s with trig := { s.trig with synth := s.trig.synth.set e (before ++ after) } } t

/-- SLOT_DEADLINE (R59, R60, R73, R78 to R80): the OPEN slot closes with the returns it has, as CloseEffect says: its
outcome, the judgement of each eye by the triggers issued, and, for each slot released, a record that RecordOf gives item
by item. Before its deadline nothing happens; that the row does nothing then is log 8. -/
def Obligations.DeadlineClosesItsSlot : Prop :=
  ∀ (s : State) (pre post : List Slot) (x : Slot), s.pins.resetAsserted = false → PlacedAt pre x post s →
    x.status = .collecting →
      ∃ t, exec (.slotDeadline x.number) s = .next t ∧
        (x.deadline = s.timing.timebase → CloseEffect pre x post s t) ∧
        (x.deadline ≠ s.timing.timebase → t = s)

/-! ### Timecode -/

/-- TC_SET (R85, R90, R91): a value, base or drop mode that is not legal is refused VAL, and any set PEND while one is
pending; a legal one becomes current at once in STOPPED and pending otherwise, its sender then EXECUTING with its
reply owed, unless it was broadcast. -/
def Obligations.TimecodeSetIsCurrentOrPending : Prop :=
  ∀ (l : Link) (cast : Addressing) (v : Timecode) (base drop : Byte) (s : State), Ready l s →
    ∃ t, exec (.tcSet l cast v base drop) s = .next t ∧
      (2 ≤ drop.toNat ∨ legalBase base.toNat = false ∨
          legalTimecode v base.toNat (decide (drop.toNat = 1)) = false →
        Refused l cast .val s t) ∧
      (drop.toNat < 2 → legalBase base.toNat = true →
        legalTimecode v base.toNat (decide (drop.toNat = 1)) = true →
        (s.tc.waiting ≠ none → Refused l cast .pend s t) ∧
        (s.tc.waiting = none → s.timing.run = .stopped →
          Acknowledged l cast .ok [] s t ∧ SameEvents l s t ∧ OtherLinks l s t ∧
            t = { s with
                  tc := { s.tc with current := v, base := base.toNat, drop := decide (drop.toNat = 1) }
                  links := t.links }) ∧
        (s.tc.waiting = none → s.timing.run ≠ .stopped →
          (cast = .unicast → LeftExecuting l s t) ∧
          (cast = .broadcast → (t.links.get l).state = .idle ∧ OtherLinks l s t ∧ SameEvents l s t ∧
            (t.links.get l).tx = (s.links.get l).tx ∧ (t.links.get l).ovr = (s.links.get l).ovr) ∧
          t = { s with
                tc :=
                  { s.tc with
                    waiting :=
                      some ⟨v, base.toNat, decide (drop.toNat = 1), if cast = .unicast then some l else none⟩ }
                links := t.links }))

/-- Timecode labels (R84 to R87). Legal are: a base of the six, BCD digits within their limits, a drop mode only with
base 30 or 60, and in it none of the labels skipped at second 00 of a minute whose units digit is not 0. The increment
of a legal value is legal; its number is one more, modulo a day, or past the 2 or 4 labels skipped there. -/
def Obligations.TimecodeLabelsAreLegalAndCounted : Prop :=
  ∀ (v : Timecode) (base : Nat) (drop : Bool),
    ((legalBase base = true ∧ legalTimecode v base drop = true) ↔
      (base = 24 ∨ base = 25 ∨ base = 30 ∨ base = 48 ∨ base = 50 ∨ base = 60) ∧
        (∃ h m c f : Nat, h ≤ 23 ∧ m ≤ 59 ∧ c ≤ 59 ∧ f < base ∧
          v.hours.toNat = 16 * (h / 10) + h % 10 ∧ v.minutes.toNat = 16 * (m / 10) + m % 10 ∧
          v.seconds.toNat = 16 * (c / 10) + c % 10 ∧ v.frames.toNat = 16 * (f / 10) + f % 10 ∧
          (drop = true → (base = 30 ∨ base = 60) ∧ ¬ (c = 0 ∧ m % 10 ≠ 0 ∧ f < base / 15)))) ∧
    (legalBase base = true → legalTimecode v base drop = true →
      legalTimecode (nextTimecode v base drop) base drop = true ∧
      ∀ n, n = (labelNumber v base + 1) % (86400 * base) →
        labelNumber (nextTimecode v base drop) base =
          if drop = true ∧ n % (60 * base) = 0 ∧ n / (60 * base) % 10 ≠ 0 then n + base / 15 else n)

/-! ### The Pair Log -/

/-- LOG_ATTACH, LOG_DETACH and LOG_READ at its taking (R99 to R104, R107): attach sets the cursor to the oldest record
and shows LOG_READY if the log holds one; detach is refused STATE to a detached link; a read is refused STATE, then
VAL, answers at once with no record when none is unread, and else leaves a request with the link EXECUTING. Where an
attach or a detach moves LOG_READY, the EVT bit of its reply is open, log 14. -/
def Obligations.LogCommandsMoveTheirOwnReader : Prop :=
  ∀ (l : Link) (s : State), Ready l s →
    (∃ t, exec (.logAttach l) s = .next t ∧
      Answered l .ok (bytesOf 4 (s.log.next - BitVec.ofNat 32 s.log.count).toNat) s t ∧
      t.log =
        { s.log with
          readers := s.log.readers.set l ⟨true, s.log.next - BitVec.ofNat 32 s.log.count, 0⟩ } ∧
      (s.log.count ≤ 64 → ∀ k, holds (t.links.get l).events k =
        if k = .logReady then decide (0 < s.log.count) else holds (s.links.get l).events k) ∧
      OtherLinks l s t ∧ t = { s with log := t.log, links := t.links }) ∧
    (∃ t, exec (.logDetach l) s = .next t ∧
      ((s.log.readers.get l).attached = false → AnsweredOnly l .state [] s t) ∧
      ((s.log.readers.get l).attached = true →
        Answered l .ok [] s t ∧
        t.log =
          { s.log with readers := s.log.readers.set l { s.log.readers.get l with attached := false } } ∧
        (∀ k, holds (t.links.get l).events k = (holds (s.links.get l).events k && decide (k ≠ .logReady))) ∧
        OtherLinks l s t ∧ t = { s with log := t.log, links := t.links })) ∧
    ∀ maximum : Byte, ∃ t, exec (.logRead l maximum) s = .next t ∧
      ((s.log.readers.get l).attached = false → AnsweredOnly l .state [] s t) ∧
      ((s.log.readers.get l).attached = true → maximum.toNat < 1 ∨ 4 < maximum.toNat →
        AnsweredOnly l .val [] s t) ∧
      ((s.log.readers.get l).attached = true → 1 ≤ maximum.toNat → maximum.toNat ≤ 4 →
        (s.log.next = (s.log.readers.get l).cursor →
          AnsweredEvt l .ok
            ([BitVec.ofNat 8 (s.log.readers.get l).gap, 0] ++ bytesOf 4 (s.log.readers.get l).cursor.toNat) s t ∧
          t.log = { s.log with readers := s.log.readers.set l { s.log.readers.get l with gap := 0 } } ∧
          (∀ k, holds (t.links.get l).events k = (holds (s.links.get l).events k && decide (k ≠ .logReady))) ∧
          OtherLinks l s t ∧ t = { s with log := t.log, links := t.links }) ∧
        (s.log.next ≠ (s.log.readers.get l).cursor →
          LeftExecuting l s t ∧
          t = { s with
                memory :=
                  { s.memory with
                    linkRequests := s.memory.linkRequests.set l (some (.logRead maximum.toNat)) }
                links := t.links }))

/-! ### Calibration tables -/

/-- TABLE_BEGIN, TABLE_END, TABLE_ABORT and TABLE_LAPSE (R111, R113, R114, R117 to R119, R137): VAL for codes that name
no table, STATE when not LOADING, HELD for another link than the loader. A begin empties the table, an end checks it
and answers TBL with its reason or makes it VALID, an abort or a lapse makes it INVALID; the channel is re-formed. -/
def Obligations.TableLoadsBeginEndAbortAndLapse : Prop :=
  (∀ (l : Link) (eye axis : Byte) (i : Instr) (s : State), Ready l s →
    i = .tableBegin l eye axis ∨ i = .tableEnd l eye axis ∨ i = .tableAbort l eye axis →
    ∃ t, exec i s = .next t ∧
      (2 ≤ eye.toNat ∨ 3 ≤ axis.toNat → AnsweredOnly l .val [] s t) ∧
      ∀ c : ChannelId, (eye.toNat = if c.eye = .left then 0 else 1) →
        (axis.toNat = match c.axis with | .focus => 0 | .iris => 1 | .zoom => 2) →
        ∀ T, T = channelGet s.lens.tables c →
        (i ≠ .tableBegin l eye axis → T.state ≠ .loading → AnsweredOnly l .state [] s t) ∧
        (T.state = .loading → T.loader ≠ some l → AnsweredOnly l .held [] s t) ∧
        (i = .tableBegin l eye axis → T.state ≠ .loading ∨ T.loader = some l →
          AnsweredAlone l .ok [] s t ∧
          TableMoved c { T with state := .loading, count := 0, loader := some l,
                                lapse := some (s.timing.timebase + 20000000) } s t) ∧
        (i = .tableAbort l eye axis → T.state = .loading → T.loader = some l →
          AnsweredAlone l .ok [] s t ∧ TableMoved c { T with state := .invalid, loader := none, lapse := none } s t) ∧
        (i = .tableEnd l eye axis → T.state = .loading → T.loader = some l →
          (T.count < 2 →
            AnsweredAlone l .tbl [1] s t ∧
              TableMoved c { T with state := .invalid, loader := none, lapse := none } s t) ∧
          (∀ j, 2 ≤ T.count → 1 ≤ j → j < T.count → T.demandAt j ≤ T.demandAt (j - 1) →
            (∀ k, 1 ≤ k → k < j → T.demandAt (k - 1) < T.demandAt k) →
            AnsweredAlone l .tbl [2, BitVec.ofNat 8 j] s t ∧
              TableMoved c { T with state := .invalid, loader := none, lapse := none } s t) ∧
          (2 ≤ T.count → (∀ k, 1 ≤ k → k < T.count → T.demandAt (k - 1) < T.demandAt k) →
            AnsweredAlone l .ok [] s t ∧
              TableMoved c { T with state := .valid, loader := none, lapse := none } s t))) ∧
    ∀ (c : ChannelId) (l : Link) (s : State), s.pins.resetAsserted = false →
      (channelGet s.lens.tables c).state = .loading → (channelGet s.lens.tables c).loader = some l →
      (channelGet s.lens.tables c).lapse = some s.timing.timebase →
        ∃ t, exec (.tableLapse c.eye c.axis) s = .next t ∧
          TableMoved c { channelGet s.lens.tables c with state := .invalid, loader := none, lapse := none } s t ∧
          t.links =
            s.links.set l
              { s.links.get l with events := (s.links.get l).events ||| EventKind.tableLapsed.mask }

/-- TABLE_ENTRY and TABLE_READ at their taking (R113, R115, R116, R120, R154): the refusals in their order (LEN for a
bad count of breakpoints is the row's own, log 32); else the command leaves one request for its link, which is then
EXECUTING, and an entry stops the lapse timer. -/
def Obligations.TableEntryAndReadLeaveARequest : Prop :=
  ∀ (l : Link) (eye axis first : Byte) (points : List (BitVec 16 × BitVec 16)) (s : State), Ready l s →
    (∃ t, exec (.tableEntry l eye axis first points) s = .next t ∧
      (points.length = 0 ∨ 4 < points.length → AnsweredOnly l .len [] s t) ∧
      (1 ≤ points.length → points.length ≤ 4 →
        (2 ≤ eye.toNat ∨ 3 ≤ axis.toNat → AnsweredOnly l .val [] s t) ∧
        ∀ c : ChannelId, (eye.toNat = if c.eye = .left then 0 else 1) →
          (axis.toNat = match c.axis with | .focus => 0 | .iris => 1 | .zoom => 2) →
          ∀ T, T = channelGet s.lens.tables c →
          (T.state ≠ .loading → AnsweredOnly l .state [] s t) ∧
          (T.state = .loading → T.loader ≠ some l → AnsweredOnly l .held [] s t) ∧
          (T.state = .loading → T.loader = some l →
            (T.count < first.toNat ∨ 32 < first.toNat + points.length ∨ (∃ p ∈ points, 4095 < p.2.toNat) →
              AnsweredOnly l .val [] s t) ∧
            (first.toNat ≤ T.count → first.toNat + points.length ≤ 32 → (∀ p ∈ points, p.2.toNat ≤ 4095) →
              LeftExecuting l s t ∧
              t = { s with
                    lens := { s.lens with tables := channelSet s.lens.tables c { T with lapse := none } }
                    memory :=
                      { s.memory with
                        linkRequests :=
                          s.memory.linkRequests.set l (some (.tableEntry c first.toNat points)) }
                    links := t.links })))) ∧
    ∃ t, exec (.tableRead l eye axis first) s = .next t ∧
      (2 ≤ eye.toNat ∨ 3 ≤ axis.toNat → AnsweredOnly l .val [] s t) ∧
      ∀ c : ChannelId, (eye.toNat = if c.eye = .left then 0 else 1) →
        (axis.toNat = match c.axis with | .focus => 0 | .iris => 1 | .zoom => 2) →
        ((channelGet s.lens.tables c).count ≤ first.toNat → AnsweredOnly l .val [] s t) ∧
        (first.toNat < (channelGet s.lens.tables c).count →
          LeftExecuting l s t ∧
          t = { s with
                memory :=
                  { s.memory with
                    linkRequests := s.memory.linkRequests.set l (some (.tableRead c first.toNat)) }
                links := t.links })

/-! ### The Lens Control Unit -/

/-- LENS_SOURCE, LENS_DEMAND, LENS_TRIM and LENS_TOL (R131, R132, R134, R135): VAL for codes and values out of range,
SRC for a demand from a link that is not the axis kind's source; a new source takes the present demand as requested
demand, and each command sets its own items and nothing else. -/
def Obligations.LensSettingsAreTakenOrRefused : Prop :=
  ∀ (l : Link) (eye axis code settle : Byte) (value : BitVec 16) (s : State), Ready l s →
    (∃ t, exec (.lensSource l axis code) s = .next t ∧
      (3 ≤ axis.toNat ∨ 4 ≤ code.toNat → AnsweredOnly l .val [] s t) ∧
      ∀ x src, axisOfCode axis = some x →
        [Source.link .a, .link .b, .link .c, .wheel][code.toNat]? = some src →
        AnsweredAlone l .ok [] s t ∧
          t = { s with
                lens :=
                  { s.lens with
                    axes :=
                      s.lens.axes.set x
                        (if (s.lens.axes.get x).source = src then s.lens.axes.get x
                        else { s.lens.axes.get x with source := src, requested := (s.lens.axes.get x).demand }) }
                links := t.links }) ∧
    (∃ t, exec (.lensDemand l axis value) s = .next t ∧
      (3 ≤ axis.toNat → AnsweredOnly l .val [] s t) ∧
      ∀ x, axisOfCode axis = some x →
        ((s.lens.axes.get x).source ≠ .link l → AnsweredOnly l .src [] s t) ∧
        ((s.lens.axes.get x).source = .link l → AnsweredAlone l .ok [] s t ∧
          t = { s with
                lens :=
                  { s.lens with
                    axes := s.lens.axes.set x { s.lens.axes.get x with requested := value.toNat } }
                links := t.links })) ∧
    (∃ t, exec (.lensTrim l eye axis value) s = .next t ∧
      (2 ≤ eye.toNat ∨ 3 ≤ axis.toNat ∨ value.toInt < -2048 ∨ 2047 < value.toInt →
        AnsweredOnly l .val [] s t) ∧
      ∀ e x, eyeOfCode eye = some e → axisOfCode axis = some x → -2048 ≤ value.toInt → value.toInt ≤ 2047 →
        AnsweredAlone l .ok [] s t ∧
          t = { s with
                lens :=
                  { s.lens with
                    channels :=
                      channelSet s.lens.channels ⟨e, x⟩
                        { channelGet s.lens.channels ⟨e, x⟩ with trim := value.toInt } }
                links := t.links }) ∧
    ∃ t, exec (.lensTol l axis value settle) s = .next t ∧
      (3 ≤ axis.toNat ∨ 4095 < value.toNat → AnsweredOnly l .val [] s t) ∧
      ∀ x, axisOfCode axis = some x → value.toNat ≤ 4095 →
        AnsweredAlone l .ok [] s t ∧
          t = { s with
                lens :=
                  { s.lens with
                    axes :=
                      s.lens.axes.set x
                        { s.lens.axes.get x with tolerance := value.toNat, settle := settle.toNat } }
                links := t.links }

/-- LENS_DRIVE and LENS_RUN (R136 to R139): a drive turned on sends the target and takes the status its table and
scanning give, one turned off sends 0 and is OFF, the value in force changes nothing; scanning started re-forms every
channel and starts a scan unless one is finishing, scanning stopped waits for the scan in progress, and between FREE
and FRAME the mode alone changes. Scanning started while a stopping scan runs leaves the match states: log 39. -/
def Obligations.DrivesAndScanningStartAndStop : Prop :=
  ∀ (l : Link) (eye axis code : Byte) (s : State), Ready l s →
    (∃ t, exec (.lensDrive l eye axis code) s = .next t ∧
      (2 ≤ eye.toNat ∨ 3 ≤ axis.toNat ∨ 2 ≤ code.toNat → AnsweredOnly l .val [] s t) ∧
      ∀ e x on, eyeOfCode eye = some e → axisOfCode axis = some x → code.toNat = (if on = true then 1 else 0) →
        ∀ ch, ch = channelGet s.lens.channels ⟨e, x⟩ →
        AnsweredAlone l .ok [] s t ∧
          (ch.drive = on → t = { s with links := t.links }) ∧
          (ch.drive ≠ on →
            t = { s with
                  lens :=
                    { s.lens with channels := channelSet s.lens.channels ⟨e, x⟩ (channelGet t.lens.channels ⟨e, x⟩) }
                  links := t.links } ∧
            ReformedTo (if on = true then s.lens.statusWhenOn ⟨e, x⟩ else .off) (s.lens.axes.get x).settle
              { ch with drive := on, output := if on = true then ch.target else 0 }
              (channelGet t.lens.channels ⟨e, x⟩))) ∧
    ∃ t, exec (.lensRun l code) s = .next t ∧
      (3 ≤ code.toNat → AnsweredOnly l .val [] s t) ∧
      ∀ m, [ScanMode.off, .free, .frame][code.toNat]? = some m →
        AnsweredAlone l .ok [] s t ∧
          (s.lens.mode = .off → m = .off → t = { s with links := t.links }) ∧
          (s.lens.mode = .off → m ≠ .off →
            t = { s with
                  lens :=
                    { s.lens with
                      mode := m, nextDue := some (s.timing.timebase + 10000), channels := t.lens.channels,
                      scan := if s.lens.scan = none then some (Scan.begun s.timing.timebase) else s.lens.scan }
                  links := t.links } ∧
            ∀ c, ReformedTo (t.lens.statusGiven c) (s.lens.axes.get c.axis).settle
              (channelGet s.lens.channels c) (channelGet t.lens.channels c)) ∧
          (s.lens.mode ≠ .off → m ≠ .off →
            t = { s with lens := { s.lens with mode := m }, links := t.links }) ∧
          (s.lens.mode ≠ .off → m = .off → s.lens.scan ≠ none →
            t = { s with lens := { s.lens with mode := .off, nextDue := none }, links := t.links }) ∧
          (s.lens.mode ≠ .off → m = .off → s.lens.scan = none →
            t = { s with
                  lens :=
                    { s.lens with
                      mode := .off, nextDue := none, channels := t.lens.channels, axes := t.lens.axes }
                  links := t.links } ∧
            (∀ x, t.lens.axes.get x = { s.lens.axes.get x with matching := .unchecked }) ∧
            ∀ c, ReformedTo (t.lens.statusGiven c) (s.lens.axes.get c.axis).settle
              (channelGet s.lens.channels c) (channelGet t.lens.channels c))

/-! ### Record Memory -/

/-- ARBITER_GRANT (R103, R116, R120, R121, R124, R154 to R157): with the memory FREE the Pair Matcher comes first, then
the Lens Control Unit, then the links in the order after the last one served. A segment whose table has left VALID,
a LOG_READ of nothing and a TABLE_READ beyond the count get no word. -/
def Obligations.GrantFollowsPriorityAndRoundRobin : Prop :=
  ∀ s : State, s.pins.resetAsserted = false → s.memory.port = none →
    (s.matcher.queue ≠ [] →
      exec .arbiterGrant s = .next { s with memory := { s.memory with port := some ⟨.record, 19, 19, []⟩ } }) ∧
    (∀ q, s.matcher.queue = [] → s.memory.lensRequest = some q →
      ((channelGet s.lens.tables q.channel).state = .valid →
        exec .arbiterGrant s =
          .next
            { s with
              memory :=
                { s.memory with
                  lensRequest := none
                  port :=
                    some ⟨.segment q.channel q.lower (channelGet s.lens.channels q.channel).trim true, 4, 4, []⟩ } }) ∧
      ((channelGet s.lens.tables q.channel).state ≠ .valid → ∀ sc, s.lens.scan = some sc →
        ∃ t, exec .arbiterGrant s = .next t ∧
          TargetsGoOn sc sc.remaining { s with memory := { s.memory with lensRequest := none } } t)) ∧
    ∀ l q before after u, s.matcher.queue = [] → s.memory.lensRequest = none →
      s.memory.linkRequests.get l = some q →
      (match s.memory.lastServed with
        | .a => [Link.b, .c, .a]
        | .b => [.c, .a, .b]
        | .c => [.a, .b, .c]) = before ++ l :: after →
      (∀ k ∈ before, s.memory.linkRequests.get k = none) →
      u = { s.memory with linkRequests := s.memory.linkRequests.set l none, lastServed := l } →
        ∃ t, exec .arbiterGrant s = .next t ∧
          (∀ c first points, q = .tableEntry c first points →
            t = { s with
                  memory :=
                    { u with
                      port := some ⟨.tableEntry l c first points, 2 * points.length, 2 * points.length, []⟩ } }) ∧
          (∀ c index T, q = .tableRead c index → T = channelGet s.lens.tables c →
            (index < T.count →
              t = { s with memory := { u with port := some ⟨.tableRead l c index T.state T.count, 2, 2, []⟩ } }) ∧
            (T.count ≤ index → AnsweredOnly l .val [] { s with memory := u } t)) ∧
          ∀ maximum r k, q = .logRead maximum → r = s.log.readers.get l →
            k = min maximum (s.log.next - r.cursor).toNat →
            (0 < k →
              t = { s with
                    log := { s.log with readers := s.log.readers.set l { r with gap := 0 } }
                    memory := { u with port := some ⟨.logRead l r.gap r.cursor k, 19 * k, 19 * k, []⟩ } }) ∧
            (k = 0 →
              AnsweredEvt l .ok ([BitVec.ofNat 8 r.gap, 0] ++ bytesOf 4 r.cursor.toNat) s t ∧
                t = { s with
                      log := { s.log with readers := s.log.readers.set l { r with gap := 0 } }
                      memory := u, links := t.links })

/-- BURST_END of a record write (R6, R81, R97, R98, R107): the head of the queue is appended under the next LSN; a full
log first drops its oldest record, moving on and telling each attached reader whose cursor points at it; LOG_READY is
re-formed; and the run's last record ends a drain. -/
def Obligations.RecordWriteAppendsAndDropsTheOldest : Prop :=
  ∀ (s : State) (r : PairRecord) (rest : List PairRecord) (n : Nat) (got : List MemWord),
    s.pins.resetAsserted = false → s.memory.port = some ⟨.record, n, 0, got⟩ → s.matcher.queue = r :: rest →
      ∃ t, exec .burstEnd s = .next t ∧ t.memory = { s.memory with port := none } ∧
        t.matcher = { s.matcher with queue := rest } ∧ t.log.next = s.log.next + 1 ∧
        t.log.count = (if 64 ≤ s.log.count then s.log.count else s.log.count + 1) ∧
        (∀ l, t.log.readers.get l =
          if 64 ≤ s.log.count ∧ (s.log.readers.get l).attached = true ∧
              (s.log.readers.get l).cursor = s.log.next - BitVec.ofNat 32 s.log.count then
            { s.log.readers.get l with
              cursor := (s.log.readers.get l).cursor + 1
              gap := if (s.log.readers.get l).gap < 255 then (s.log.readers.get l).gap + 1 else 255 }
          else s.log.readers.get l) ∧
        (¬ (s.timing.run = .draining ∧ s.matcher.slots = [] ∧ rest = []) →
          (∀ l k, holds (t.links.get l).events k =
            match k with
            | .logReady =>
              (s.log.readers.get l).attached && decide ((t.log.readers.get l).cursor ≠ s.log.next + 1)
            | .logGap =>
              holds (s.links.get l).events .logGap ||
                decide ((t.log.readers.get l).cursor ≠ (s.log.readers.get l).cursor)
            | _ => holds (s.links.get l).events k) ∧
          OnlyEvents s t ∧
          t = { s with matcher := t.matcher, log := t.log, memory := t.memory, links := t.links }) ∧
        (s.timing.run = .draining → s.matcher.slots = [] → rest = [] →
          t.timing.run = .stopped ∧ (∀ l, holds (t.links.get l).events .timingStopped = true) ∧
            (LogReadyInv s → StoppedReached { s with matcher := t.matcher, log := t.log, memory := t.memory } t))

/-- BURST_END of a link's burst (R104, R105, R116, R120, R185): a LOG_READ moves its cursor past its records and carries
each with its length: bytes 0 to 17, the return times and the skew that flag bits 4 and 5 as read direct, and bytes 29 to
37, in all 38, 31 or 27 bytes, or the CORRUPT stub where a word failed. A TABLE_ENTRY puts its demands into the list,
raises the count and starts the timer; a TABLE_READ answers the state and count of its grant with its words, or PAR. -/
def Obligations.LinkBurstsEndInTheirReply : Prop :=
  ∀ (l : Link) (s : State) (n : Nat) (got : List MemWord), s.pins.resetAsserted = false →
    (∀ gap start k, s.memory.port = some ⟨.logRead l gap start k, n, 0, got⟩ →
      ∃ (t : State) (forms : List (List Byte)), exec .burstEnd s = .next t ∧ forms.length = k ∧
        (∀ i form, forms[i]? = some form → CarriedAs ((got.drop (19 * i)).take 19) form) ∧
        AnsweredEvt l .ok
          ([BitVec.ofNat 8 gap, BitVec.ofNat 8 k] ++ bytesOf 4 start.toNat ++
            forms.flatMap fun form => BitVec.ofNat 8 form.length :: form) s t ∧
        t.log =
          { s.log with
            readers :=
              s.log.readers.set l
                { s.log.readers.get l with cursor := (s.log.readers.get l).cursor + BitVec.ofNat 32 k } } ∧
        (∀ kind, holds (t.links.get l).events kind =
          if kind = .logReady then
            (s.log.readers.get l).attached && decide ((t.log.readers.get l).cursor ≠ s.log.next)
          else holds (s.links.get l).events kind) ∧
        OtherLinks l s t ∧
        t = { s with log := t.log, memory := { s.memory with port := none }, links := t.links }) ∧
    (∀ c first points T, s.memory.port = some ⟨.tableEntry l c first points, n, 0, got⟩ →
      T = channelGet s.lens.tables c → T.demands.length = 32 → first + points.length ≤ 32 →
      ∃ t ds, exec .burstEnd s = .next t ∧ AnsweredAlone l .ok [] s t ∧ ds.length = 32 ∧
        (∀ i, i < 32 → ds[i]? =
          if first ≤ i ∧ i < first + points.length then points[i - first]?.map Prod.fst else T.demands[i]?) ∧
        t = { s with
              lens :=
                { s.lens with
                  tables :=
                    channelSet s.lens.tables c
                      { T with
                        demands := ds, count := max T.count (first + points.length)
                        lapse := some (s.timing.timebase + 20000000) } }
              memory := { s.memory with port := none }
              links := t.links }) ∧
    ∀ c index st count, s.memory.port = some ⟨.tableRead l c index st count, n, 0, got⟩ →
      ∃ t, exec .burstEnd s = .next t ∧
        ((∀ w ∈ got, passes w = true) →
          AnsweredAlone l .ok
            ([st.code, BitVec.ofNat 8 count] ++ got.flatMap fun w => [w.extractLsb' 8 8, w.extractLsb' 0 8]) s t) ∧
        ((∃ w ∈ got, passes w = false) → AnsweredAlone l .par [] s t) ∧
        t = { s with memory := { s.memory with port := none }, links := t.links }

/-- BURST_END of the sweep and of a segment read (R121, R123 to R125, R142, R153): the sweep leaves the memory FREE; a
segment gives its channel the interpolated code plus the trim of its grant, saturated with the SAT mark, or a held
failure when a word failed, and the target stage goes on; the words of an abandoned scan are discarded. -/
def Obligations.SegmentReadsGiveTargets : Prop :=
  ∀ (s : State) (n : Nat) (got : List MemWord) (c : ChannelId) (lower : Nat) (trim : Int),
    s.pins.resetAsserted = false →
    (s.memory.port = some ⟨.sweep, n, 0, got⟩ ∨ s.memory.port = some ⟨.segment c lower trim false, n, 0, got⟩ →
      exec .burstEnd s = .next { s with memory := { s.memory with port := none } }) ∧
    (s.memory.port = some ⟨.segment c lower trim true, n, 0, got⟩ → ∀ sc x, s.lens.scan = some sc →
      x = sc.demands.get c.axis →
      ∃ t, exec .burstEnd s = .next t ∧
        ((∃ w ∈ got, passes w = false) →
          ∀ sc', sc' = { sc with failed := channelSet sc.failed c true } →
            TargetsGoOn sc' sc.remaining
              { s with lens := { s.lens with scan := some sc' }, memory := { s.memory with port := none } } t) ∧
        ∀ (d0 c0 d1 c1 : BitVec 16) (base : Int), got.map wordData = [d0, c0, d1, c1] →
          (∀ w ∈ got, passes w = true) →
          (x < d0.toNat → base = c0.toNat) → (d0.toNat ≤ x → d1.toNat ≤ x → base = c1.toNat) →
          (d0.toNat ≤ x → x < d1.toNat →
            base = c0.toNat +
              (2 * (((c1.toNat : Int) - c0.toNat) * ((x : Int) - d0.toNat)) + ((d1.toNat : Int) - d0.toNat)) /
                (2 * ((d1.toNat : Int) - d0.toNat))) →
          ∀ k sc', (k.target : Int) = max 0 (min 4095 (base + trim)) →
            k.sat = decide (base + trim < 0 ∨ 4095 < base + trim) →
            sc' = { sc with computed := channelSet sc.computed c (some k) } →
              TargetsGoOn sc' sc.remaining
                { s with lens := { s.lens with scan := some sc' }, memory := { s.memory with port := none } } t)

/-- SCAN_DUE and CONVERSIONS_DONE (R130, R138, R140, R143): at the due time a scan starts, or is skipped while one is
in progress, and the due time moves on 10,000 ticks; 1,800 ticks after its start the demands are formed, from the codes
its wheels gave or from the requested demands, and the target stage begins. That CONVERSIONS_DONE carries the nine
codes, and does nothing with any others, is the model's choice, log 16. -/
def Obligations.ScansStartAndFormTheirDemands : Prop :=
  ∀ s : State, s.pins.resetAsserted = false →
    (s.lens.mode ≠ .off → s.lens.nextDue = some s.timing.timebase →
      exec .scanDue s =
        .next
          { s with
            lens :=
              { s.lens with
                nextDue := some (s.timing.timebase + 10000)
                scan := if s.lens.scan = none then some (Scan.begun s.timing.timebase) else s.lens.scan } }) ∧
    ∀ codes sc sc', s.lens.scan = some sc → sc.stage = .conversions →
      s.timing.timebase = sc.start + 1800 →
      ((∀ c, channelGet codes.encoders c = sc.made.getD (tableNumber c) 0) →
        codes.wheels = ⟨sc.made.getD 6 0, sc.made.getD 7 0, sc.made.getD 8 0⟩ →
        sc' = { sc with stage := .target, demands := sc'.demands } →
        (∀ x, sc'.demands.get x =
          if (s.lens.axes.get x).source = .wheel then
            16 * (codes.wheels.get x).toNat + (codes.wheels.get x).toNat / 256
          else (s.lens.axes.get x).requested) →
          ∃ t, exec (.conversionsDone codes) s = .next t ∧
            TargetsGoOn sc' channelOrder { s with lens := { s.lens with scan := some sc' } } t) ∧
      (codes ≠ sc.conversions → exec (.conversionsDone codes) s = .next s)

/-! ### Arithmetic -/

/-- The period accumulator (R39). -/
def Obligations.AccumulatorKeepsTheRate : Prop :=
  ∀ (p : Plan) (acc : Nat), acc < p.rateNum →
    (p.rateNum ≤ acc + 10000000 * p.rateDen % p.rateNum →
      (drawPeriod p acc none).period = 10000000 * p.rateDen / p.rateNum + 1 ∧
        (drawPeriod p acc none).acc = acc + 10000000 * p.rateDen % p.rateNum - p.rateNum) ∧
    (acc + 10000000 * p.rateDen % p.rateNum < p.rateNum →
      (drawPeriod p acc none).period = 10000000 * p.rateDen / p.rateNum ∧
        (drawPeriod p acc none).acc = acc + 10000000 * p.rateDen % p.rateNum) ∧
    (drawPeriod p acc none).acc < p.rateNum ∧
    drawMany p acc p.rateNum = (10000000 * p.rateDen, acc)

/-- The eye offset and the room of a frame (R43, R45, R46): D is the rounded difference of the line times, at most
500,000 in size; every period drawn under a plan that passes its own validation, on the accumulator or in any ramp,
leaves an exposure of at least 20 ticks whose later eye ends a GAP before N. -/
def Obligations.FramesFitBesideTheirOffset : Prop :=
  ∀ p : Plan, p.inRanges →
    (∀ num : Int,
      num = (if p.dirL = .down then (p.alignLine : Int) else 1000 - p.alignLine) * p.readoutL -
        (if p.dirR = .down then (p.alignLine : Int) else 1000 - p.alignLine) * p.readoutR →
      2 * num - 1000 < 2000 * p.eyeOffset ∧ 2000 * p.eyeOffset ≤ 2 * num + 1000) ∧
    -500000 ≤ p.eyeOffset ∧ p.eyeOffset ≤ 500000 ∧
    (∀ (b : Time) (e : Eye), triggerTime b p.eyeOffset e = b + BitVec.ofNat 48 (eyeDelay p.eyeOffset e)) ∧
    (p.usable → ∀ (acc : Nat) (ramp : Option Ramp) (d : Draw) (x : Nat), d = drawPeriod p acc ramp →
      x = clampExposure p d.period (rawExposure p d) →
        20 ≤ x ∧ (∀ e, eyeDelay p.eyeOffset e + x + p.gap ≤ d.period) ∧
          (x ≠ rawExposure p d → rawExposure p d < 20 ∨ d.period < rawExposure p d + p.gap + p.eyeOffset.natAbs))

/-! ### Invariants -/

/-- The state after reset meets every invariant below (R24, R25, R83, R95, R109, R128, R129, R149, R153, R179). Straps
read as 0 in the model's reset state, log 3. -/
def Obligations.ResetMeetsEveryInvariant : Prop :=
  MemoryInv .reset ∧ SweepInv .reset ∧ PlanInv .reset ∧ ReferenceInv .reset ∧ RunInv .reset ∧ SlotInv .reset ∧
    TriggerInv .reset ∧ TimecodeInv .reset ∧ ReplyInv .reset ∧ LogReadyInv .reset ∧ LogInv .reset ∧
    TableInv .reset ∧ StatusInv .reset ∧ OutputInv .reset ∧ ConversionInv .reset ∧ BurstInv .reset

/-- Every step keeps Record Memory in its canonical form with no word outside it, and leaves every word that a sweep
has passed at 0000H with good parity (R150, R153). -/
def Obligations.EveryStepKeepsTheMemory : Prop :=
  ∀ s t : State, step s = .next t → MemoryInv s → SweepInv s → MemoryInv t ∧ SweepInv t

/-- Every step keeps the plans in their ranges, the active plan valid by its own measure, the hold of the staged plan as
its state says, and the accumulator of the period generator below RATE_NUM of the active rate, through ramps and changes
of rate alike (R25, R28, R29, R35, R39 to R42). That a ramp begins with the accumulator at 0 is the model's choice,
log 36. -/
def Obligations.EveryStepKeepsThePlans : Prop := ∀ s t : State, step s = .next t → PlanInv s → PlanInv t

/-- Every step keeps the reference state the one that the mode, the inputs and the lock record give (R12 to R14, R19
to R21). -/
def Obligations.EveryStepKeepsTheReference : Prop :=
  ∀ s t : State, step s = .next t → ReferenceInv s → ReferenceInv t

/-- Every step keeps a stopped part without schedule, slots or records (R6, R24, R65), the slot table numbered one
after another with an OPEN head (R65 to R68, R79), and every armed trigger with its slot (R53). -/
def Obligations.EveryStepKeepsRunSlotsAndTriggers : Prop :=
  ∀ s t : State, step s = .next t → RunInv s → SlotInv s → TriggerInv s → RunInv t ∧ SlotInv t ∧ TriggerInv t

/-- Every step keeps the current and the pending timecode legal (R85). -/
def Obligations.EveryStepKeepsTimecodeLegal : Prop :=
  ∀ s t : State, step s = .next t → TimecodeInv s → TimecodeInv t

/-- Every step keeps each link EXECUTING exactly while one reply is owed to it (R154, R168, R171). -/
def Obligations.EveryStepKeepsRepliesOwed : Prop := ∀ s t : State, step s = .next t → ReplyInv s → ReplyInv t

/-- Every step keeps each link's LOG_READY at its condition (R107, R175), and, while replies are owed as they should be,
every reader within the ring (R96, R99). -/
def Obligations.EveryStepKeepsTheLogReaders : Prop :=
  ∀ s t : State, step s = .next t →
    (LogReadyInv s → LogReadyInv t) ∧ (ReplyInv s → LogInv s → LogInv t)

/-- Every step keeps each calibration table as its state says: VALID only with 2 to 32 breakpoints of rising demands,
held by one loader only while LOADING (R110, R114 to R119). -/
def Obligations.EveryStepKeepsTheTables : Prop :=
  ∀ s t : State, step s = .next t → ReplyInv s → TableInv s → TableInv t

/-- Every step keeps each lens channel's status as its drive, table and scanning give it, and its output at 0 while the
drive is off and at its target while it is on (R111, R133, R136, R137); and the scan in progress holding one conversion
for every 200 ticks since its start, all nine after 1,800 (R138, R143). -/
def Obligations.EveryStepKeepsChannelsAndOutputs : Prop :=
  ∀ s t : State, step s = .next t → (StatusInv s → StatusInv t) ∧ (OutputInv s → OutputInv t) ∧
    (ConversionInv s → ConversionInv t)

/-- From every state whose bursts and requests stay within Record Memory a step succeeds, faults never, and leaves
such a state (R150, R157). The fault that is ruled out is the model's, log 28. -/
def Obligations.EveryStepStaysWithinTheMemory : Prop :=
  ∀ s : State, BurstInv s → ∃ t, step s = .next t ∧ BurstInv t

end Slice0
end

