-- ==== Sys2Proof/Laws/Due.lean ====
section
/-!
SUPPORT. What the part left to itself can do: which of its own events are due, when the Arbiter decides, what a tick
does to the scan in progress, and when a slot is complete.
-/

namespace Sys2Proof.Machine

@[simp] theorem mem_whenDue {i j : Instr} {due : Bool} : i ∈ whenDue due j ↔ due = true ∧ i = j := by
  cases due <;> simp [whenDue]

theorem scheduleInService_iff (s : State) : scheduleInService s = true ↔ InService s := by
  unfold scheduleInService InService
  cases s.timing.refState <;> simp

theorem scheduleDue_iff (s : State) : scheduleDue s = true ↔ BoundaryDue s := by
  simp [scheduleDue, BoundaryDue, scheduleInService_iff, State.now]
  tauto

theorem leftLapseDue_iff (s : State) : leftLapseDue s = true ↔ EventDue s .leftReturnLapse := by
  simp only [leftLapseDue, leftLapseTime, State.now, later, Bool.and_eq_true, Bool.or_eq_true, beq_iff_eq,
    bne_iff_ne, and_assoc]
  constructor
  · rintro ⟨hm, hr, hs, ht⟩
    split at ht
    · exact .leftReturnLapse _ hm hr hs ‹_› (Option.some.inj ht).symm
    · exact .firstReturnLapse _ hm hr hs ‹_› ‹_› (Option.some.inj ht).symm
    · cases ht
  · intro h
    cases h with
    | leftReturnLapse f hm hr hs hf ht => exact ⟨hm, hr, hs, by simp [hf, ← ht]⟩
    | firstReturnLapse b hm hr hs hf hb ht => exact ⟨hm, hr, hs, by simp [hf, hb, ← ht]⟩

theorem absenceDue_iff (s : State) (r : RefId) : absenceDue r s = true ↔ EventDue s (.refAbsenceExpiry r) := by
  simp only [absenceDue, Bool.and_eq_true, bne_iff_ne, beq_iff_eq]
  exact ⟨fun h => .refAbsenceExpiry r h.1 h.2, fun | .refAbsenceExpiry _ h g => ⟨h, g⟩⟩

theorem dueEntry_iff (s : State) (e : Eye) : (dueEntry e s).isSome = true ↔ EventDue s (.triggerDecision e) := by
  simp only [dueEntry, List.find?_isSome, beq_iff_eq]
  exact ⟨fun ⟨n, h, g⟩ => .triggerDecision e n h g, fun | .triggerDecision _ n h g => ⟨n, h, g⟩⟩

theorem pulseEndDue_iff (s : State) (e : Eye) : pulseEndDue e s = true ↔ EventDue s (.triggerPulseEnd e) := by
  simp only [pulseEndDue, Bool.and_eq_true, beq_iff_eq, Option.map_eq_some_iff]
  exact ⟨fun ⟨h, p, g, k⟩ => .triggerPulseEnd e p h g k, fun | .triggerPulseEnd _ p h g k => ⟨h, p, g, k⟩⟩

theorem drained_iff (s : State) : drained s = true ↔ EventDue s .reachStopped := by
  simp only [drained, Bool.and_eq_true, beq_iff_eq, List.isEmpty_iff, and_assoc]
  exact ⟨fun ⟨h, g, k⟩ => .reachStopped h g k, fun | .reachStopped h g k => ⟨h, g, k⟩⟩

theorem burstEndDue_iff (s : State) : burstEndDue s = true ↔ EventDue s .burstEnd := by
  unfold burstEndDue
  constructor
  · intro h
    split at h
    · exact .burstEnd _ ‹_› (by simpa using h)
    · cases h
  · intro h
    cases h with
    | burstEnd b h g => simp [h, g]

theorem conversionsDue_iff (s : State) (codes : Conversions) :
    (conversionsDue s = true ∧ codes = scanConversions s) ↔ EventDue s (.conversionsDone codes) := by
  unfold conversionsDue scanConversions
  constructor
  · rintro ⟨h, rfl⟩
    split at h
    · rename_i sc hs
      simp only [Bool.and_eq_true, beq_iff_eq] at h
      simpa [hs] using EventDue.conversionsDone sc hs h.1 h.2.symm
    · cases h
  · intro h
    cases h with
    | conversionsDone sc h g k => simp [h, g, k, later, Config.conversionTicks, Config.conversionCount]

theorem slotsDue_iff {s : State} {i : Instr} :
    i ∈ slotsDue s ↔ ∃ x ∈ s.matcher.slots, x.status = .collecting ∧ x.deadline = s.now ∧ i = .slotDeadline x.number := by
  simp [slotsDue, and_assoc, eq_comm (a := i)]

theorem eyeDue_iff {s : State} {e : Eye} {i : Instr} :
    i ∈ eyeDue s e ↔ EventDue s i ∧ (i = .triggerDecision e ∨ i = .triggerPulseEnd e ∨ i = .synthReturn e) := by
  simp only [eyeDue, List.mem_append, mem_whenDue, dueEntry_iff, pulseEndDue_iff, List.contains_iff_mem]
  constructor
  · rintro ((⟨h, rfl⟩ | ⟨h, rfl⟩) | ⟨h, rfl⟩)
    · exact ⟨h, by simp⟩
    · exact ⟨h, by simp⟩
    · exact ⟨.synthReturn e h, by simp⟩
  · rintro ⟨h, rfl | rfl | rfl⟩
    · simp [h]
    · simp [h]
    · cases h with
      | synthReturn _ h => simp [State.now, h]

theorem linkDue_iff {s : State} {l : Link} {i : Instr} :
    i ∈ linkDue s l ↔ EventDue s i ∧ (i = .interCharacterTimeout l ∨ i = .replySent l) := by
  simp only [linkDue, LinkState.assembling, List.mem_append, mem_whenDue, Bool.and_eq_true, Bool.or_eq_true, beq_iff_eq]
  constructor
  · rintro (⟨h, rfl⟩ | ⟨h, rfl⟩)
    · exact ⟨.interCharacterTimeout l h.1 h.2, by simp⟩
    · exact ⟨.replySent l h.1 h.2, by simp⟩
  · rintro ⟨h, rfl | rfl⟩
    · cases h with
      | interCharacterTimeout _ h g => simp [h, g, State.now]
    · cases h with
      | replySent _ h g => simp [h, g, State.now]

theorem tableLapseDue_iff (s : State) (c : ChannelId) :
    tableLapseDue c s = true ↔
      (channelGet s.lens.tables c).state = .loading ∧ (channelGet s.lens.tables c).lapse = some s.now := by
  simp [tableLapseDue]

theorem mem_channelOrder (c : ChannelId) : c ∈ channelOrder := by
  rcases c with ⟨e, x⟩
  cases e <;> cases x <;> decide

/-- An event is among those the part finds due exactly when it is due. -/
theorem mem_dueEvents {s : State} {i : Instr} : i ∈ dueEvents s ↔ EventDue s i := by
  simp only [dueEvents, timingDue, lensDue, List.mem_append, mem_whenDue, eyeDue_iff, linkDue_iff, slotsDue_iff,
    scheduleDue_iff, absenceDue_iff, leftLapseDue_iff, drained_iff, burstEndDue_iff, List.mem_flatten, List.mem_map]
  constructor
  · simp only [or_assoc]
    rintro (⟨h, rfl⟩ | ⟨h, rfl⟩ | ⟨h, rfl⟩ | ⟨h, rfl⟩ | ⟨h, -⟩ | ⟨h, -⟩ | ⟨x, h, g, k, rfl⟩ | ⟨h, rfl⟩ | ⟨h, rfl⟩ | ⟨h, rfl⟩ |
      ⟨h, rfl⟩ | ⟨h, rfl⟩ | ⟨h, rfl⟩ | ⟨h, rfl⟩ | ⟨_, ⟨c, -, rfl⟩, h⟩ | ⟨h, -⟩ | ⟨h, -⟩ | ⟨h, -⟩)
    · exact .scheduleBoundary h
    · exact h
    · exact h
    · exact h
    · exact h
    · exact h
    · exact .slotDeadline x h g k
    · exact h
    · simp only [Bool.and_eq_true, beq_iff_eq] at h
      exact .planApply h.1 h.2
    · simp only [Bool.and_eq_true, beq_iff_eq, Option.isSome_iff_ne_none] at h
      exact .timecodePendingApply h.1 h.2
    · simp only [editLapseDue, Bool.and_eq_true, beq_iff_eq] at h
      exact .planEditLapse h.1 h.2
    · exact h
    · simp only [scanTimerDue, Bool.and_eq_true, beq_iff_eq, bne_iff_ne] at h
      exact .scanDue h.1 h.2
    · exact (conversionsDue_iff s _).1 ⟨h, rfl⟩
    · simp only [mem_whenDue, tableLapseDue_iff] at h
      obtain ⟨⟨h, g⟩, rfl⟩ := h
      exact .tableLapse c h g
    · exact h
    · exact h
    · exact h
  · intro h
    have hi := h
    cases h with
    | scheduleBoundary h => simp [h]
    | refAbsenceExpiry r h g => cases r <;> simp [hi]
    | leftReturnLapse f => simp [hi]
    | firstReturnLapse b => simp [hi]
    | triggerDecision e => cases e <;> simp [hi]
    | triggerPulseEnd e => cases e <;> simp [hi]
    | synthReturn e => cases e <;> simp [hi]
    | slotDeadline x h g k =>  exact .inl (.inl (.inl (.inl (.inl (.inl (.inl (.inl (.inr ⟨x, h, g, k, rfl⟩))))))))
    | reachStopped => simp [hi]
    | planApply h g => simp [h, g]
    | timecodePendingApply h g => simp [h, Option.isSome_iff_ne_none, g]
    | planEditLapse h g => simp [editLapseDue, h, g, State.now]
    | burstEnd b => simp [hi]
    | scanDue h g => simp [scanTimerDue, h, g, State.now]
    | conversionsDone sc =>
      have := (conversionsDue_iff s _).2 hi
      simp [this.1, ← this.2]
    | tableLapse c h g =>
      exact .inl (.inl (.inl (.inr (.inr
        ⟨_, ⟨c, mem_channelOrder c, rfl⟩, by simpa [tableLapseDue_iff] using ⟨h, g⟩⟩))))
    | interCharacterTimeout l => cases l <;> simp [hi]
    | replySent l => cases l <;> simp [hi]

/-- A link is next to be served exactly when some link's request waits. -/
theorem nextLink_isSome_iff (m : RecordMemory) : m.nextLink.isSome = true ↔ ∃ l, m.linkRequests.get l ≠ none := by
  have mem (l : Link) : l ∈ linkOrder m.lastServed := by
    cases l <;> cases m.lastServed <;> simp [linkOrder]
  rw [RecordMemory.nextLink, List.find?_isSome]
  simp only [Option.isSome_iff_ne_none]
  exact ⟨fun ⟨l, _, h⟩ => ⟨l, h⟩, fun ⟨l, h⟩ => ⟨l, mem l, h⟩⟩

/-- The Arbiter decides exactly when the memory is FREE and a request waits (R155). -/
theorem grantDue_iff {s : State} : grantDue s = true ↔ RequestWaits s := by
  simp only [grantDue, RequestWaits, Bool.and_eq_true, Bool.or_eq_true, ← nextLink_isSome_iff, Option.isNone_iff_eq_none,
    Option.isSome_iff_ne_none, Bool.not_eq_true', List.isEmpty_eq_false_iff, or_assoc]

@[simp] theorem LensUnit.convert_axes (t : Time) (u : LensUnit) : (u.convert t).axes = u.axes := rfl

@[simp] theorem LensUnit.convert_channels (t : Time) (u : LensUnit) : (u.convert t).channels = u.channels := rfl

@[simp] theorem LensUnit.convert_tables (t : Time) (u : LensUnit) : (u.convert t).tables = u.tables := rfl

@[simp] theorem LensUnit.convert_mode (t : Time) (u : LensUnit) : (u.convert t).mode = u.mode := rfl

@[simp] theorem LensUnit.convert_nextDue (t : Time) (u : LensUnit) : (u.convert t).nextDue = u.nextDue := rfl

@[simp] theorem LensUnit.convert_conversions (t : Time) (u : LensUnit) :
    (u.convert t).conversions = u.conversions := rfl

/-- What the coming instant does to the scan in progress (R138, R143). -/
theorem conversionMade_convert (t : Time) (u : LensUnit) : ConversionMade t u (u.convert t) := by
  have idle (h : (u.scan.map fun sc => if sc.convertsAt t then sc.converted else sc) = u.scan) : u.convert t = u :=
    congrArg (fun x => { u with scan := x }) h
  constructor
  · intro sc hs hc hl ht
    exact ⟨Config.analogInput sc.start.toNat sc.made.length, by
      simp [LensUnit.convert, hs, Scan.convertsAt, Scan.converted, hc, hl, ht, later, Config.conversionTicks,
        Config.conversionCount]⟩
  · intro h
    refine idle ?_
    cases hs : u.scan with
    | none => rfl
    | some sc =>
      have : sc.convertsAt t = false := by
        rcases h sc hs with h | h | h
        · simp [Scan.convertsAt, h]
        · simp [Scan.convertsAt, Config.conversionCount, Nat.not_lt.mpr h]
        · simp [Scan.convertsAt, later, Config.conversionTicks, Ne.symm h]
      simp [this]

/-- The completion test of a slot (R77). -/
theorem Slot.complete_iff (x : Slot) : x.complete = true ↔ IsComplete x := by
  have settled (e : Eye) : x.settled e = true ↔
      (x.armed.get e = none ∨ (x.trigger.get e).isSome = true) ∧
        ((x.trigger.get e).isSome = true → (x.returned.get e).isSome = true) := by
    cases h : x.armed.get e <;> cases g : x.trigger.get e <;> simp [Slot.settled, Slot.isPending, h, g]
  simp only [Slot.complete, Bool.and_eq_true, settled]
  exact ⟨fun h e => by cases e; exacts [h.1, h.2], fun h => ⟨h .left, h .right⟩⟩

end Sys2Proof.Machine
end

