-- ==== Sys2Proof/Laws/Word.lean ====
section
/-!
SUPPORT. The laws of the containers: what reading gives after a write or a build.
-/

namespace Sys2Proof

@[simp] theorem PerLink.get_set_self {α : Type} (p : PerLink α) (l : Link) (v : α) : (p.set l v).get l = v := by
  cases l <;> rfl

theorem PerLink.get_set_ne {α : Type} (p : PerLink α) {l k : Link} (v : α) (h : k ≠ l) :
    (p.set l v).get k = p.get k := by
  cases l <;> cases k <;> first | rfl | exact absurd rfl h

@[simp] theorem PerLink.get_build {α : Type} (f : Link → α) (l : Link) : (PerLink.build f).get l = f l := by
  cases l <;> rfl

@[simp] theorem PerLink.set_set {α : Type} (p : PerLink α) (l : Link) (v w : α) :
    (p.set l v).set l w = p.set l w := by
  cases l <;> rfl

@[simp] theorem PerLink.set_get {α : Type} (p : PerLink α) (l : Link) : p.set l (p.get l) = p := by
  cases l <;> rfl

theorem PerLink.ext_get {α : Type} {p q : PerLink α} (h : ∀ l, p.get l = q.get l) : p = q := by
  cases p; cases q
  simpa [PerLink.get] using And.intro (h .a) (And.intro (h .b) (h .c))

@[simp] theorem PerEye.get_set_self {α : Type} (p : PerEye α) (e : Eye) (v : α) : (p.set e v).get e = v := by
  cases e <;> rfl

theorem PerEye.get_set_ne {α : Type} (p : PerEye α) {e d : Eye} (v : α) (h : d ≠ e) :
    (p.set e v).get d = p.get d := by
  cases e <;> cases d <;> first | rfl | exact absurd rfl h

@[simp] theorem PerEye.get_build {α : Type} (f : Eye → α) (e : Eye) : (PerEye.build f).get e = f e := by
  cases e <;> rfl

@[simp] theorem PerEye.set_set {α : Type} (p : PerEye α) (e : Eye) (v w : α) : (p.set e v).set e w = p.set e w := by
  cases e <;> rfl

@[simp] theorem PerEye.set_get {α : Type} (p : PerEye α) (e : Eye) : p.set e (p.get e) = p := by
  cases e <;> rfl

@[simp] theorem PerAxis.get_set_self {α : Type} (p : PerAxis α) (x : Axis) (v : α) : (p.set x v).get x = v := by
  cases x <;> rfl

theorem PerAxis.get_set_ne {α : Type} (p : PerAxis α) {x y : Axis} (v : α) (h : y ≠ x) :
    (p.set x v).get y = p.get y := by
  cases x <;> cases y <;> first | rfl | exact absurd rfl h

@[simp] theorem PerAxis.get_build {α : Type} (f : Axis → α) (x : Axis) : (PerAxis.build f).get x = f x := by
  cases x <;> rfl

@[simp] theorem PerAxis.set_set {α : Type} (p : PerAxis α) (x : Axis) (v w : α) : (p.set x v).set x w = p.set x w := by
  cases x <;> rfl

@[simp] theorem PerAxis.set_get {α : Type} (p : PerAxis α) (x : Axis) : p.set x (p.get x) = p := by
  cases x <;> rfl

@[simp] theorem PerRef.get_set_self {α : Type} (p : PerRef α) (r : RefId) (v : α) : (p.set r v).get r = v := by
  cases r <;> rfl

theorem PerRef.get_set_ne {α : Type} (p : PerRef α) {r q : RefId} (v : α) (h : q ≠ r) :
    (p.set r v).get q = p.get q := by
  cases r <;> cases q <;> first | rfl | exact absurd rfl h

@[simp] theorem PerRef.get_build {α : Type} (f : RefId → α) (r : RefId) : (PerRef.build f).get r = f r := by
  cases r <;> rfl

@[simp] theorem channelGet_set_self {α : Type} (p : PerChannel α) (c : ChannelId) (v : α) :
    channelGet (channelSet p c v) c = v := by
  simp [channelGet, channelSet]

theorem channelGet_set_ne {α : Type} (p : PerChannel α) {c d : ChannelId} (v : α) (h : d ≠ c) :
    channelGet (channelSet p c v) d = channelGet p d := by
  obtain ⟨e, x⟩ := c
  obtain ⟨f, y⟩ := d
  cases e <;> cases f <;> cases x <;> cases y <;> first | rfl | exact absurd rfl h

@[simp] theorem channelGet_build {α : Type} (f : ChannelId → α) (c : ChannelId) :
    channelGet (channelBuild f) c = f c := by
  simp [channelGet, channelBuild]

end Sys2Proof
end

