-- ==== Sys2Proof/Laws/State.lean ====
section
/-!
SUPPORT. What each named update leaves as it was, field by field, true by unfolding; and what it gives in
the field it writes.
-/

namespace Sys2Proof.Machine

variable (s : State)

@[simp] theorem onLink_pending (l : Link) (f : LinkState → LinkState) : (s.onLink l f).pending = s.pending := rfl
@[simp] theorem onLink_pins (l : Link) (f : LinkState → LinkState) : (s.onLink l f).pins = s.pins := rfl
@[simp] theorem onLink_timing (l : Link) (f : LinkState → LinkState) : (s.onLink l f).timing = s.timing := rfl
@[simp] theorem onLink_plan (l : Link) (f : LinkState → LinkState) : (s.onLink l f).plan = s.plan := rfl
@[simp] theorem onLink_trig (l : Link) (f : LinkState → LinkState) : (s.onLink l f).trig = s.trig := rfl
@[simp] theorem onLink_matcher (l : Link) (f : LinkState → LinkState) : (s.onLink l f).matcher = s.matcher := rfl
@[simp] theorem onLink_tc (l : Link) (f : LinkState → LinkState) : (s.onLink l f).tc = s.tc := rfl
@[simp] theorem onLink_log (l : Link) (f : LinkState → LinkState) : (s.onLink l f).log = s.log := rfl
@[simp] theorem onLink_lens (l : Link) (f : LinkState → LinkState) : (s.onLink l f).lens = s.lens := rfl
@[simp] theorem onLink_memory (l : Link) (f : LinkState → LinkState) : (s.onLink l f).memory = s.memory := rfl
@[simp] theorem onLink_tieChoices (l : Link) (f : LinkState → LinkState) : (s.onLink l f).tieChoices = s.tieChoices := rfl

@[simp] theorem onLinks_pending (f : Link → LinkState → LinkState) : (s.onLinks f).pending = s.pending := rfl
@[simp] theorem onLinks_pins (f : Link → LinkState → LinkState) : (s.onLinks f).pins = s.pins := rfl
@[simp] theorem onLinks_timing (f : Link → LinkState → LinkState) : (s.onLinks f).timing = s.timing := rfl
@[simp] theorem onLinks_plan (f : Link → LinkState → LinkState) : (s.onLinks f).plan = s.plan := rfl
@[simp] theorem onLinks_trig (f : Link → LinkState → LinkState) : (s.onLinks f).trig = s.trig := rfl
@[simp] theorem onLinks_matcher (f : Link → LinkState → LinkState) : (s.onLinks f).matcher = s.matcher := rfl
@[simp] theorem onLinks_tc (f : Link → LinkState → LinkState) : (s.onLinks f).tc = s.tc := rfl
@[simp] theorem onLinks_log (f : Link → LinkState → LinkState) : (s.onLinks f).log = s.log := rfl
@[simp] theorem onLinks_lens (f : Link → LinkState → LinkState) : (s.onLinks f).lens = s.lens := rfl
@[simp] theorem onLinks_memory (f : Link → LinkState → LinkState) : (s.onLinks f).memory = s.memory := rfl
@[simp] theorem onLinks_tieChoices (f : Link → LinkState → LinkState) : (s.onLinks f).tieChoices = s.tieChoices := rfl

@[simp] theorem post_pending (k : EventKind) (l : Link) : (post k l s).pending = s.pending := rfl
@[simp] theorem post_pins (k : EventKind) (l : Link) : (post k l s).pins = s.pins := rfl
@[simp] theorem post_timing (k : EventKind) (l : Link) : (post k l s).timing = s.timing := rfl
@[simp] theorem post_plan (k : EventKind) (l : Link) : (post k l s).plan = s.plan := rfl
@[simp] theorem post_trig (k : EventKind) (l : Link) : (post k l s).trig = s.trig := rfl
@[simp] theorem post_matcher (k : EventKind) (l : Link) : (post k l s).matcher = s.matcher := rfl
@[simp] theorem post_tc (k : EventKind) (l : Link) : (post k l s).tc = s.tc := rfl
@[simp] theorem post_log (k : EventKind) (l : Link) : (post k l s).log = s.log := rfl
@[simp] theorem post_lens (k : EventKind) (l : Link) : (post k l s).lens = s.lens := rfl
@[simp] theorem post_memory (k : EventKind) (l : Link) : (post k l s).memory = s.memory := rfl
@[simp] theorem post_tieChoices (k : EventKind) (l : Link) : (post k l s).tieChoices = s.tieChoices := rfl

@[simp] theorem postAll_pending (k : EventKind) : (postAll k s).pending = s.pending := rfl
@[simp] theorem postAll_pins (k : EventKind) : (postAll k s).pins = s.pins := rfl
@[simp] theorem postAll_timing (k : EventKind) : (postAll k s).timing = s.timing := rfl
@[simp] theorem postAll_plan (k : EventKind) : (postAll k s).plan = s.plan := rfl
@[simp] theorem postAll_trig (k : EventKind) : (postAll k s).trig = s.trig := rfl
@[simp] theorem postAll_matcher (k : EventKind) : (postAll k s).matcher = s.matcher := rfl
@[simp] theorem postAll_tc (k : EventKind) : (postAll k s).tc = s.tc := rfl
@[simp] theorem postAll_log (k : EventKind) : (postAll k s).log = s.log := rfl
@[simp] theorem postAll_lens (k : EventKind) : (postAll k s).lens = s.lens := rfl
@[simp] theorem postAll_memory (k : EventKind) : (postAll k s).memory = s.memory := rfl
@[simp] theorem postAll_tieChoices (k : EventKind) : (postAll k s).tieChoices = s.tieChoices := rfl

@[simp] theorem reformReady_pending (l : Link) : (reformReady l s).pending = s.pending := rfl
@[simp] theorem reformReady_pins (l : Link) : (reformReady l s).pins = s.pins := rfl
@[simp] theorem reformReady_timing (l : Link) : (reformReady l s).timing = s.timing := rfl
@[simp] theorem reformReady_plan (l : Link) : (reformReady l s).plan = s.plan := rfl
@[simp] theorem reformReady_trig (l : Link) : (reformReady l s).trig = s.trig := rfl
@[simp] theorem reformReady_matcher (l : Link) : (reformReady l s).matcher = s.matcher := rfl
@[simp] theorem reformReady_tc (l : Link) : (reformReady l s).tc = s.tc := rfl
@[simp] theorem reformReady_log (l : Link) : (reformReady l s).log = s.log := rfl
@[simp] theorem reformReady_lens (l : Link) : (reformReady l s).lens = s.lens := rfl
@[simp] theorem reformReady_memory (l : Link) : (reformReady l s).memory = s.memory := rfl
@[simp] theorem reformReady_tieChoices (l : Link) : (reformReady l s).tieChoices = s.tieChoices := rfl

@[simp] theorem reformReadyAll_pending : (reformReadyAll s).pending = s.pending := rfl
@[simp] theorem reformReadyAll_pins : (reformReadyAll s).pins = s.pins := rfl
@[simp] theorem reformReadyAll_timing : (reformReadyAll s).timing = s.timing := rfl
@[simp] theorem reformReadyAll_plan : (reformReadyAll s).plan = s.plan := rfl
@[simp] theorem reformReadyAll_trig : (reformReadyAll s).trig = s.trig := rfl
@[simp] theorem reformReadyAll_matcher : (reformReadyAll s).matcher = s.matcher := rfl
@[simp] theorem reformReadyAll_tc : (reformReadyAll s).tc = s.tc := rfl
@[simp] theorem reformReadyAll_log : (reformReadyAll s).log = s.log := rfl
@[simp] theorem reformReadyAll_lens : (reformReadyAll s).lens = s.lens := rfl
@[simp] theorem reformReadyAll_memory : (reformReadyAll s).memory = s.memory := rfl
@[simp] theorem reformReadyAll_tieChoices : (reformReadyAll s).tieChoices = s.tieChoices := rfl

@[simp] theorem replyWith_pending (l : Link) (st : Status) (data : List Byte) (evt : Bool) : (replyWith l st data evt s).pending = s.pending := rfl
@[simp] theorem replyWith_pins (l : Link) (st : Status) (data : List Byte) (evt : Bool) : (replyWith l st data evt s).pins = s.pins := rfl
@[simp] theorem replyWith_timing (l : Link) (st : Status) (data : List Byte) (evt : Bool) : (replyWith l st data evt s).timing = s.timing := rfl
@[simp] theorem replyWith_plan (l : Link) (st : Status) (data : List Byte) (evt : Bool) : (replyWith l st data evt s).plan = s.plan := rfl
@[simp] theorem replyWith_trig (l : Link) (st : Status) (data : List Byte) (evt : Bool) : (replyWith l st data evt s).trig = s.trig := rfl
@[simp] theorem replyWith_matcher (l : Link) (st : Status) (data : List Byte) (evt : Bool) : (replyWith l st data evt s).matcher = s.matcher := rfl
@[simp] theorem replyWith_tc (l : Link) (st : Status) (data : List Byte) (evt : Bool) : (replyWith l st data evt s).tc = s.tc := rfl
@[simp] theorem replyWith_log (l : Link) (st : Status) (data : List Byte) (evt : Bool) : (replyWith l st data evt s).log = s.log := rfl
@[simp] theorem replyWith_lens (l : Link) (st : Status) (data : List Byte) (evt : Bool) : (replyWith l st data evt s).lens = s.lens := rfl
@[simp] theorem replyWith_memory (l : Link) (st : Status) (data : List Byte) (evt : Bool) : (replyWith l st data evt s).memory = s.memory := rfl
@[simp] theorem replyWith_tieChoices (l : Link) (st : Status) (data : List Byte) (evt : Bool) : (replyWith l st data evt s).tieChoices = s.tieChoices := rfl

@[simp] theorem reply_pending (l : Link) (st : Status) (data : List Byte) : (reply l st data s).pending = s.pending := rfl
@[simp] theorem reply_pins (l : Link) (st : Status) (data : List Byte) : (reply l st data s).pins = s.pins := rfl
@[simp] theorem reply_timing (l : Link) (st : Status) (data : List Byte) : (reply l st data s).timing = s.timing := rfl
@[simp] theorem reply_plan (l : Link) (st : Status) (data : List Byte) : (reply l st data s).plan = s.plan := rfl
@[simp] theorem reply_trig (l : Link) (st : Status) (data : List Byte) : (reply l st data s).trig = s.trig := rfl
@[simp] theorem reply_matcher (l : Link) (st : Status) (data : List Byte) : (reply l st data s).matcher = s.matcher := rfl
@[simp] theorem reply_tc (l : Link) (st : Status) (data : List Byte) : (reply l st data s).tc = s.tc := rfl
@[simp] theorem reply_log (l : Link) (st : Status) (data : List Byte) : (reply l st data s).log = s.log := rfl
@[simp] theorem reply_lens (l : Link) (st : Status) (data : List Byte) : (reply l st data s).lens = s.lens := rfl
@[simp] theorem reply_memory (l : Link) (st : Status) (data : List Byte) : (reply l st data s).memory = s.memory := rfl
@[simp] theorem reply_tieChoices (l : Link) (st : Status) (data : List Byte) : (reply l st data s).tieChoices = s.tieChoices := rfl

@[simp] theorem replyDuring_pending (b : State) (l : Link) (st : Status) (data : List Byte) : (replyDuring b l st data s).pending = s.pending := rfl
@[simp] theorem replyDuring_pins (b : State) (l : Link) (st : Status) (data : List Byte) : (replyDuring b l st data s).pins = s.pins := rfl
@[simp] theorem replyDuring_timing (b : State) (l : Link) (st : Status) (data : List Byte) : (replyDuring b l st data s).timing = s.timing := rfl
@[simp] theorem replyDuring_plan (b : State) (l : Link) (st : Status) (data : List Byte) : (replyDuring b l st data s).plan = s.plan := rfl
@[simp] theorem replyDuring_trig (b : State) (l : Link) (st : Status) (data : List Byte) : (replyDuring b l st data s).trig = s.trig := rfl
@[simp] theorem replyDuring_matcher (b : State) (l : Link) (st : Status) (data : List Byte) : (replyDuring b l st data s).matcher = s.matcher := rfl
@[simp] theorem replyDuring_tc (b : State) (l : Link) (st : Status) (data : List Byte) : (replyDuring b l st data s).tc = s.tc := rfl
@[simp] theorem replyDuring_log (b : State) (l : Link) (st : Status) (data : List Byte) : (replyDuring b l st data s).log = s.log := rfl
@[simp] theorem replyDuring_lens (b : State) (l : Link) (st : Status) (data : List Byte) : (replyDuring b l st data s).lens = s.lens := rfl
@[simp] theorem replyDuring_memory (b : State) (l : Link) (st : Status) (data : List Byte) : (replyDuring b l st data s).memory = s.memory := rfl
@[simp] theorem replyDuring_tieChoices (b : State) (l : Link) (st : Status) (data : List Byte) : (replyDuring b l st data s).tieChoices = s.tieChoices := rfl

@[simp] theorem onReader_pending (l : Link) (f : Reader → Reader) : (onReader l f s).pending = s.pending := rfl
@[simp] theorem onReader_pins (l : Link) (f : Reader → Reader) : (onReader l f s).pins = s.pins := rfl
@[simp] theorem onReader_timing (l : Link) (f : Reader → Reader) : (onReader l f s).timing = s.timing := rfl
@[simp] theorem onReader_plan (l : Link) (f : Reader → Reader) : (onReader l f s).plan = s.plan := rfl
@[simp] theorem onReader_trig (l : Link) (f : Reader → Reader) : (onReader l f s).trig = s.trig := rfl
@[simp] theorem onReader_matcher (l : Link) (f : Reader → Reader) : (onReader l f s).matcher = s.matcher := rfl
@[simp] theorem onReader_tc (l : Link) (f : Reader → Reader) : (onReader l f s).tc = s.tc := rfl
@[simp] theorem onReader_lens (l : Link) (f : Reader → Reader) : (onReader l f s).lens = s.lens := rfl
@[simp] theorem onReader_memory (l : Link) (f : Reader → Reader) : (onReader l f s).memory = s.memory := rfl
@[simp] theorem onReader_links (l : Link) (f : Reader → Reader) : (onReader l f s).links = s.links := rfl
@[simp] theorem onReader_tieChoices (l : Link) (f : Reader → Reader) : (onReader l f s).tieChoices = s.tieChoices := rfl

@[simp] theorem clearGap_pending (l : Link) : (clearGap l s).pending = s.pending := rfl
@[simp] theorem clearGap_pins (l : Link) : (clearGap l s).pins = s.pins := rfl
@[simp] theorem clearGap_timing (l : Link) : (clearGap l s).timing = s.timing := rfl
@[simp] theorem clearGap_plan (l : Link) : (clearGap l s).plan = s.plan := rfl
@[simp] theorem clearGap_trig (l : Link) : (clearGap l s).trig = s.trig := rfl
@[simp] theorem clearGap_matcher (l : Link) : (clearGap l s).matcher = s.matcher := rfl
@[simp] theorem clearGap_tc (l : Link) : (clearGap l s).tc = s.tc := rfl
@[simp] theorem clearGap_lens (l : Link) : (clearGap l s).lens = s.lens := rfl
@[simp] theorem clearGap_memory (l : Link) : (clearGap l s).memory = s.memory := rfl
@[simp] theorem clearGap_links (l : Link) : (clearGap l s).links = s.links := rfl
@[simp] theorem clearGap_tieChoices (l : Link) : (clearGap l s).tieChoices = s.tieChoices := rfl

@[simp] theorem onEyeTrigger_pending (e : Eye) (f : EyeTrigger → EyeTrigger) : (onEyeTrigger e f s).pending = s.pending := rfl
@[simp] theorem onEyeTrigger_pins (e : Eye) (f : EyeTrigger → EyeTrigger) : (onEyeTrigger e f s).pins = s.pins := rfl
@[simp] theorem onEyeTrigger_timing (e : Eye) (f : EyeTrigger → EyeTrigger) : (onEyeTrigger e f s).timing = s.timing := rfl
@[simp] theorem onEyeTrigger_plan (e : Eye) (f : EyeTrigger → EyeTrigger) : (onEyeTrigger e f s).plan = s.plan := rfl
@[simp] theorem onEyeTrigger_matcher (e : Eye) (f : EyeTrigger → EyeTrigger) : (onEyeTrigger e f s).matcher = s.matcher := rfl
@[simp] theorem onEyeTrigger_tc (e : Eye) (f : EyeTrigger → EyeTrigger) : (onEyeTrigger e f s).tc = s.tc := rfl
@[simp] theorem onEyeTrigger_log (e : Eye) (f : EyeTrigger → EyeTrigger) : (onEyeTrigger e f s).log = s.log := rfl
@[simp] theorem onEyeTrigger_lens (e : Eye) (f : EyeTrigger → EyeTrigger) : (onEyeTrigger e f s).lens = s.lens := rfl
@[simp] theorem onEyeTrigger_memory (e : Eye) (f : EyeTrigger → EyeTrigger) : (onEyeTrigger e f s).memory = s.memory := rfl
@[simp] theorem onEyeTrigger_links (e : Eye) (f : EyeTrigger → EyeTrigger) : (onEyeTrigger e f s).links = s.links := rfl
@[simp] theorem onEyeTrigger_tieChoices (e : Eye) (f : EyeTrigger → EyeTrigger) : (onEyeTrigger e f s).tieChoices = s.tieChoices := rfl

@[simp] theorem editTable_pending (c : ChannelId) (f : Table → Table) : (editTable c f s).pending = s.pending := rfl
@[simp] theorem editTable_pins (c : ChannelId) (f : Table → Table) : (editTable c f s).pins = s.pins := rfl
@[simp] theorem editTable_timing (c : ChannelId) (f : Table → Table) : (editTable c f s).timing = s.timing := rfl
@[simp] theorem editTable_plan (c : ChannelId) (f : Table → Table) : (editTable c f s).plan = s.plan := rfl
@[simp] theorem editTable_trig (c : ChannelId) (f : Table → Table) : (editTable c f s).trig = s.trig := rfl
@[simp] theorem editTable_matcher (c : ChannelId) (f : Table → Table) : (editTable c f s).matcher = s.matcher := rfl
@[simp] theorem editTable_tc (c : ChannelId) (f : Table → Table) : (editTable c f s).tc = s.tc := rfl
@[simp] theorem editTable_log (c : ChannelId) (f : Table → Table) : (editTable c f s).log = s.log := rfl
@[simp] theorem editTable_memory (c : ChannelId) (f : Table → Table) : (editTable c f s).memory = s.memory := rfl
@[simp] theorem editTable_links (c : ChannelId) (f : Table → Table) : (editTable c f s).links = s.links := rfl
@[simp] theorem editTable_tieChoices (c : ChannelId) (f : Table → Table) : (editTable c f s).tieChoices = s.tieChoices := rfl

@[simp] theorem onTable_pending (c : ChannelId) (f : Table → Table) : (onTable c f s).pending = s.pending := rfl
@[simp] theorem onTable_pins (c : ChannelId) (f : Table → Table) : (onTable c f s).pins = s.pins := rfl
@[simp] theorem onTable_timing (c : ChannelId) (f : Table → Table) : (onTable c f s).timing = s.timing := rfl
@[simp] theorem onTable_plan (c : ChannelId) (f : Table → Table) : (onTable c f s).plan = s.plan := rfl
@[simp] theorem onTable_trig (c : ChannelId) (f : Table → Table) : (onTable c f s).trig = s.trig := rfl
@[simp] theorem onTable_matcher (c : ChannelId) (f : Table → Table) : (onTable c f s).matcher = s.matcher := rfl
@[simp] theorem onTable_tc (c : ChannelId) (f : Table → Table) : (onTable c f s).tc = s.tc := rfl
@[simp] theorem onTable_log (c : ChannelId) (f : Table → Table) : (onTable c f s).log = s.log := rfl
@[simp] theorem onTable_memory (c : ChannelId) (f : Table → Table) : (onTable c f s).memory = s.memory := rfl
@[simp] theorem onTable_links (c : ChannelId) (f : Table → Table) : (onTable c f s).links = s.links := rfl
@[simp] theorem onTable_tieChoices (c : ChannelId) (f : Table → Table) : (onTable c f s).tieChoices = s.tieChoices := rfl

@[simp] theorem onAxis_pending (x : Axis) (f : AxisState → AxisState) : (onAxis x f s).pending = s.pending := rfl
@[simp] theorem onAxis_pins (x : Axis) (f : AxisState → AxisState) : (onAxis x f s).pins = s.pins := rfl
@[simp] theorem onAxis_timing (x : Axis) (f : AxisState → AxisState) : (onAxis x f s).timing = s.timing := rfl
@[simp] theorem onAxis_plan (x : Axis) (f : AxisState → AxisState) : (onAxis x f s).plan = s.plan := rfl
@[simp] theorem onAxis_trig (x : Axis) (f : AxisState → AxisState) : (onAxis x f s).trig = s.trig := rfl
@[simp] theorem onAxis_matcher (x : Axis) (f : AxisState → AxisState) : (onAxis x f s).matcher = s.matcher := rfl
@[simp] theorem onAxis_tc (x : Axis) (f : AxisState → AxisState) : (onAxis x f s).tc = s.tc := rfl
@[simp] theorem onAxis_log (x : Axis) (f : AxisState → AxisState) : (onAxis x f s).log = s.log := rfl
@[simp] theorem onAxis_memory (x : Axis) (f : AxisState → AxisState) : (onAxis x f s).memory = s.memory := rfl
@[simp] theorem onAxis_links (x : Axis) (f : AxisState → AxisState) : (onAxis x f s).links = s.links := rfl
@[simp] theorem onAxis_tieChoices (x : Axis) (f : AxisState → AxisState) : (onAxis x f s).tieChoices = s.tieChoices := rfl

@[simp] theorem onChannel_pending (c : ChannelId) (f : Channel → Channel) : (onChannel c f s).pending = s.pending := rfl
@[simp] theorem onChannel_pins (c : ChannelId) (f : Channel → Channel) : (onChannel c f s).pins = s.pins := rfl
@[simp] theorem onChannel_timing (c : ChannelId) (f : Channel → Channel) : (onChannel c f s).timing = s.timing := rfl
@[simp] theorem onChannel_plan (c : ChannelId) (f : Channel → Channel) : (onChannel c f s).plan = s.plan := rfl
@[simp] theorem onChannel_trig (c : ChannelId) (f : Channel → Channel) : (onChannel c f s).trig = s.trig := rfl
@[simp] theorem onChannel_matcher (c : ChannelId) (f : Channel → Channel) : (onChannel c f s).matcher = s.matcher := rfl
@[simp] theorem onChannel_tc (c : ChannelId) (f : Channel → Channel) : (onChannel c f s).tc = s.tc := rfl
@[simp] theorem onChannel_log (c : ChannelId) (f : Channel → Channel) : (onChannel c f s).log = s.log := rfl
@[simp] theorem onChannel_memory (c : ChannelId) (f : Channel → Channel) : (onChannel c f s).memory = s.memory := rfl
@[simp] theorem onChannel_links (c : ChannelId) (f : Channel → Channel) : (onChannel c f s).links = s.links := rfl
@[simp] theorem onChannel_tieChoices (c : ChannelId) (f : Channel → Channel) : (onChannel c f s).tieChoices = s.tieChoices := rfl

@[simp] theorem onScan_pending (f : Scan → Scan) : (onScan f s).pending = s.pending := rfl
@[simp] theorem onScan_pins (f : Scan → Scan) : (onScan f s).pins = s.pins := rfl
@[simp] theorem onScan_timing (f : Scan → Scan) : (onScan f s).timing = s.timing := rfl
@[simp] theorem onScan_plan (f : Scan → Scan) : (onScan f s).plan = s.plan := rfl
@[simp] theorem onScan_trig (f : Scan → Scan) : (onScan f s).trig = s.trig := rfl
@[simp] theorem onScan_matcher (f : Scan → Scan) : (onScan f s).matcher = s.matcher := rfl
@[simp] theorem onScan_tc (f : Scan → Scan) : (onScan f s).tc = s.tc := rfl
@[simp] theorem onScan_log (f : Scan → Scan) : (onScan f s).log = s.log := rfl
@[simp] theorem onScan_memory (f : Scan → Scan) : (onScan f s).memory = s.memory := rfl
@[simp] theorem onScan_links (f : Scan → Scan) : (onScan f s).links = s.links := rfl
@[simp] theorem onScan_tieChoices (f : Scan → Scan) : (onScan f s).tieChoices = s.tieChoices := rfl

@[simp] theorem startScan_pending : (startScan s).pending = s.pending := rfl
@[simp] theorem startScan_pins : (startScan s).pins = s.pins := rfl
@[simp] theorem startScan_timing : (startScan s).timing = s.timing := rfl
@[simp] theorem startScan_plan : (startScan s).plan = s.plan := rfl
@[simp] theorem startScan_trig : (startScan s).trig = s.trig := rfl
@[simp] theorem startScan_matcher : (startScan s).matcher = s.matcher := rfl
@[simp] theorem startScan_tc : (startScan s).tc = s.tc := rfl
@[simp] theorem startScan_log : (startScan s).log = s.log := rfl
@[simp] theorem startScan_memory : (startScan s).memory = s.memory := rfl
@[simp] theorem startScan_links : (startScan s).links = s.links := rfl
@[simp] theorem startScan_tieChoices : (startScan s).tieChoices = s.tieChoices := rfl

@[simp] theorem requalifyInputs_pending (pn : Nat) : (requalifyInputs pn s).pending = s.pending := rfl
@[simp] theorem requalifyInputs_pins (pn : Nat) : (requalifyInputs pn s).pins = s.pins := rfl
@[simp] theorem requalifyInputs_plan (pn : Nat) : (requalifyInputs pn s).plan = s.plan := rfl
@[simp] theorem requalifyInputs_trig (pn : Nat) : (requalifyInputs pn s).trig = s.trig := rfl
@[simp] theorem requalifyInputs_matcher (pn : Nat) : (requalifyInputs pn s).matcher = s.matcher := rfl
@[simp] theorem requalifyInputs_tc (pn : Nat) : (requalifyInputs pn s).tc = s.tc := rfl
@[simp] theorem requalifyInputs_log (pn : Nat) : (requalifyInputs pn s).log = s.log := rfl
@[simp] theorem requalifyInputs_lens (pn : Nat) : (requalifyInputs pn s).lens = s.lens := rfl
@[simp] theorem requalifyInputs_memory (pn : Nat) : (requalifyInputs pn s).memory = s.memory := rfl
@[simp] theorem requalifyInputs_links (pn : Nat) : (requalifyInputs pn s).links = s.links := rfl
@[simp] theorem requalifyInputs_tieChoices (pn : Nat) : (requalifyInputs pn s).tieChoices = s.tieChoices := rfl

@[simp] theorem grantBurst_pending (h : Holder) (n : Nat) : (grantBurst h n s).pending = s.pending := rfl
@[simp] theorem grantBurst_pins (h : Holder) (n : Nat) : (grantBurst h n s).pins = s.pins := rfl
@[simp] theorem grantBurst_timing (h : Holder) (n : Nat) : (grantBurst h n s).timing = s.timing := rfl
@[simp] theorem grantBurst_plan (h : Holder) (n : Nat) : (grantBurst h n s).plan = s.plan := rfl
@[simp] theorem grantBurst_trig (h : Holder) (n : Nat) : (grantBurst h n s).trig = s.trig := rfl
@[simp] theorem grantBurst_matcher (h : Holder) (n : Nat) : (grantBurst h n s).matcher = s.matcher := rfl
@[simp] theorem grantBurst_tc (h : Holder) (n : Nat) : (grantBurst h n s).tc = s.tc := rfl
@[simp] theorem grantBurst_log (h : Holder) (n : Nat) : (grantBurst h n s).log = s.log := rfl
@[simp] theorem grantBurst_lens (h : Holder) (n : Nat) : (grantBurst h n s).lens = s.lens := rfl
@[simp] theorem grantBurst_links (h : Holder) (n : Nat) : (grantBurst h n s).links = s.links := rfl
@[simp] theorem grantBurst_tieChoices (h : Holder) (n : Nat) : (grantBurst h n s).tieChoices = s.tieChoices := rfl

@[simp] theorem releaseSlots_pending : (releaseSlots s).pending = s.pending := rfl
@[simp] theorem releaseSlots_pins : (releaseSlots s).pins = s.pins := rfl
@[simp] theorem releaseSlots_timing : (releaseSlots s).timing = s.timing := rfl
@[simp] theorem releaseSlots_plan : (releaseSlots s).plan = s.plan := rfl
@[simp] theorem releaseSlots_tc : (releaseSlots s).tc = s.tc := rfl
@[simp] theorem releaseSlots_log : (releaseSlots s).log = s.log := rfl
@[simp] theorem releaseSlots_lens : (releaseSlots s).lens = s.lens := rfl
@[simp] theorem releaseSlots_memory : (releaseSlots s).memory = s.memory := rfl
@[simp] theorem releaseSlots_links : (releaseSlots s).links = s.links := rfl
@[simp] theorem releaseSlots_tieChoices : (releaseSlots s).tieChoices = s.tieChoices := rfl

@[simp] theorem enterBoundary_pending (cause : Cause) : (enterBoundary cause s).pending = s.pending := rfl
@[simp] theorem enterBoundary_pins (cause : Cause) : (enterBoundary cause s).pins = s.pins := rfl
@[simp] theorem enterBoundary_plan (cause : Cause) : (enterBoundary cause s).plan = s.plan := rfl
@[simp] theorem enterBoundary_trig (cause : Cause) : (enterBoundary cause s).trig = s.trig := rfl
@[simp] theorem enterBoundary_matcher (cause : Cause) : (enterBoundary cause s).matcher = s.matcher := rfl
@[simp] theorem enterBoundary_tc (cause : Cause) : (enterBoundary cause s).tc = s.tc := rfl
@[simp] theorem enterBoundary_log (cause : Cause) : (enterBoundary cause s).log = s.log := rfl
@[simp] theorem enterBoundary_lens (cause : Cause) : (enterBoundary cause s).lens = s.lens := rfl
@[simp] theorem enterBoundary_memory (cause : Cause) : (enterBoundary cause s).memory = s.memory := rfl
@[simp] theorem enterBoundary_links (cause : Cause) : (enterBoundary cause s).links = s.links := rfl
@[simp] theorem enterBoundary_tieChoices (cause : Cause) : (enterBoundary cause s).tieChoices = s.tieChoices := rfl

@[simp] theorem beginFrame_pending : (beginFrame s).pending = s.pending := rfl
@[simp] theorem beginFrame_pins : (beginFrame s).pins = s.pins := rfl
@[simp] theorem beginFrame_plan : (beginFrame s).plan = s.plan := rfl
@[simp] theorem beginFrame_trig : (beginFrame s).trig = s.trig := rfl
@[simp] theorem beginFrame_matcher : (beginFrame s).matcher = s.matcher := rfl
@[simp] theorem beginFrame_tc : (beginFrame s).tc = s.tc := rfl
@[simp] theorem beginFrame_log : (beginFrame s).log = s.log := rfl
@[simp] theorem beginFrame_lens : (beginFrame s).lens = s.lens := rfl
@[simp] theorem beginFrame_memory : (beginFrame s).memory = s.memory := rfl
@[simp] theorem beginFrame_links : (beginFrame s).links = s.links := rfl
@[simp] theorem beginFrame_tieChoices : (beginFrame s).tieChoices = s.tieChoices := rfl

/-! ### The field written -/

@[simp] theorem onLink_get_self (l : Link) (f : LinkState → LinkState) :
    (s.onLink l f).links.get l = f (s.links.get l) := by
  simp [State.onLink]

theorem onLink_get_ne {l k : Link} (f : LinkState → LinkState) (h : k ≠ l) :
    (s.onLink l f).links.get k = s.links.get k := by
  simp [State.onLink, PerLink.get_set_ne _ _ h]

@[simp] theorem onLinks_get (f : Link → LinkState → LinkState) (l : Link) :
    (s.onLinks f).links.get l = f l (s.links.get l) := by
  simp [State.onLinks]

@[simp] theorem onLink_onLink (l : Link) (f g : LinkState → LinkState) :
    (s.onLink l f).onLink l g = s.onLink l fun x => g (f x) := by
  simp [State.onLink]

@[simp] theorem postAll_get (k : EventKind) (l : Link) :
    (postAll k s).links.get l = { s.links.get l with events := (s.links.get l).events ||| k.mask } := by
  simp [postAll]

@[simp] theorem onReader_get_self (l : Link) (f : Reader → Reader) :
    (onReader l f s).log.readers.get l = f (s.log.readers.get l) := by
  simp [onReader]

theorem onReader_get_ne {l k : Link} (f : Reader → Reader) (h : k ≠ l) :
    (onReader l f s).log.readers.get k = s.log.readers.get k := by
  simp [onReader, PerLink.get_set_ne _ _ h]

@[simp] theorem onAxis_get_self (x : Axis) (f : AxisState → AxisState) :
    (onAxis x f s).lens.axes.get x = f (s.lens.axes.get x) := by
  simp [onAxis]

@[simp] theorem onChannel_get_self (c : ChannelId) (f : Channel → Channel) :
    channelGet (onChannel c f s).lens.channels c = f (channelGet s.lens.channels c) := by
  simp [onChannel]

@[simp] theorem editTable_get_self (c : ChannelId) (f : Table → Table) :
    channelGet (editTable c f s).lens.tables c = f (channelGet s.lens.tables c) := by
  simp [editTable, LensUnit.withTableOf]

@[simp] theorem onTable_get_self (c : ChannelId) (f : Table → Table) :
    channelGet (onTable c f s).lens.tables c = f (channelGet s.lens.tables c) := by
  simp [onTable, LensUnit.withTableOf, LensUnit.reform]

@[simp] theorem onEyeTrigger_get_self (e : Eye) (f : EyeTrigger → EyeTrigger) :
    (onEyeTrigger e f s).trig.eyes.get e = f (s.trig.eyes.get e) := by
  simp [onEyeTrigger]

@[simp] theorem grantBurst_port (h : Holder) (n : Nat) :
    (grantBurst h n s).memory.port = some ⟨h, n, n, []⟩ := rfl

@[simp] theorem grantBurst_words (h : Holder) (n : Nat) : (grantBurst h n s).memory.words = s.memory.words := rfl

@[simp] theorem enterBoundary_timebase (cause : Cause) :
    (enterBoundary cause s).timing.timebase = s.timing.timebase := rfl

@[simp] theorem beginFrame_timebase : (beginFrame s).timing.timebase = s.timing.timebase := rfl

@[simp] theorem requalifyInputs_timebase (pn : Nat) :
    (requalifyInputs pn s).timing.timebase = s.timing.timebase := rfl

end Sys2Proof.Machine
end

