-- ==== Sys2Proof/Laws/Frames.lean ====
section
/-!
SUPPORT. The frames of the shared operations: the blocks each of them leaves as they were.
-/

namespace Sys2Proof.Machine

variable (s : State)

@[simp] theorem answer_pending (l : Link) (cast : Addressing) (st : Status) (data : List Byte) : (answer l cast st data s).pending = s.pending := by
  unfold answer; split <;> simp
@[simp] theorem answer_pins (l : Link) (cast : Addressing) (st : Status) (data : List Byte) : (answer l cast st data s).pins = s.pins := by
  unfold answer; split <;> simp
@[simp] theorem answer_timing (l : Link) (cast : Addressing) (st : Status) (data : List Byte) : (answer l cast st data s).timing = s.timing := by
  unfold answer; split <;> simp
@[simp] theorem answer_plan (l : Link) (cast : Addressing) (st : Status) (data : List Byte) : (answer l cast st data s).plan = s.plan := by
  unfold answer; split <;> simp
@[simp] theorem answer_trig (l : Link) (cast : Addressing) (st : Status) (data : List Byte) : (answer l cast st data s).trig = s.trig := by
  unfold answer; split <;> simp
@[simp] theorem answer_matcher (l : Link) (cast : Addressing) (st : Status) (data : List Byte) : (answer l cast st data s).matcher = s.matcher := by
  unfold answer; split <;> simp
@[simp] theorem answer_tc (l : Link) (cast : Addressing) (st : Status) (data : List Byte) : (answer l cast st data s).tc = s.tc := by
  unfold answer; split <;> simp
@[simp] theorem answer_log (l : Link) (cast : Addressing) (st : Status) (data : List Byte) : (answer l cast st data s).log = s.log := by
  unfold answer; split <;> simp
@[simp] theorem answer_lens (l : Link) (cast : Addressing) (st : Status) (data : List Byte) : (answer l cast st data s).lens = s.lens := by
  unfold answer; split <;> simp
@[simp] theorem answer_memory (l : Link) (cast : Addressing) (st : Status) (data : List Byte) : (answer l cast st data s).memory = s.memory := by
  unfold answer; split <;> simp
@[simp] theorem answer_tieChoices (l : Link) (cast : Addressing) (st : Status) (data : List Byte) : (answer l cast st data s).tieChoices = s.tieChoices := by
  unfold answer; split <;> simp

@[simp] theorem answerDuring_pending (b : State) (l : Link) (cast : Addressing) (st : Status) (data : List Byte) : (answerDuring b l cast st data s).pending = s.pending := by
  unfold answerDuring; split <;> simp
@[simp] theorem answerDuring_pins (b : State) (l : Link) (cast : Addressing) (st : Status) (data : List Byte) : (answerDuring b l cast st data s).pins = s.pins := by
  unfold answerDuring; split <;> simp
@[simp] theorem answerDuring_timing (b : State) (l : Link) (cast : Addressing) (st : Status) (data : List Byte) : (answerDuring b l cast st data s).timing = s.timing := by
  unfold answerDuring; split <;> simp
@[simp] theorem answerDuring_plan (b : State) (l : Link) (cast : Addressing) (st : Status) (data : List Byte) : (answerDuring b l cast st data s).plan = s.plan := by
  unfold answerDuring; split <;> simp
@[simp] theorem answerDuring_trig (b : State) (l : Link) (cast : Addressing) (st : Status) (data : List Byte) : (answerDuring b l cast st data s).trig = s.trig := by
  unfold answerDuring; split <;> simp
@[simp] theorem answerDuring_matcher (b : State) (l : Link) (cast : Addressing) (st : Status) (data : List Byte) : (answerDuring b l cast st data s).matcher = s.matcher := by
  unfold answerDuring; split <;> simp
@[simp] theorem answerDuring_tc (b : State) (l : Link) (cast : Addressing) (st : Status) (data : List Byte) : (answerDuring b l cast st data s).tc = s.tc := by
  unfold answerDuring; split <;> simp
@[simp] theorem answerDuring_log (b : State) (l : Link) (cast : Addressing) (st : Status) (data : List Byte) : (answerDuring b l cast st data s).log = s.log := by
  unfold answerDuring; split <;> simp
@[simp] theorem answerDuring_lens (b : State) (l : Link) (cast : Addressing) (st : Status) (data : List Byte) : (answerDuring b l cast st data s).lens = s.lens := by
  unfold answerDuring; split <;> simp
@[simp] theorem answerDuring_memory (b : State) (l : Link) (cast : Addressing) (st : Status) (data : List Byte) : (answerDuring b l cast st data s).memory = s.memory := by
  unfold answerDuring; split <;> simp
@[simp] theorem answerDuring_tieChoices (b : State) (l : Link) (cast : Addressing) (st : Status) (data : List Byte) : (answerDuring b l cast st data s).tieChoices = s.tieChoices := by
  unfold answerDuring; split <;> simp

@[simp] theorem setRef_pending (v : RefState) : (setRef v s).pending = s.pending := by
  unfold setRef; split <;> simp
@[simp] theorem setRef_pins (v : RefState) : (setRef v s).pins = s.pins := by
  unfold setRef; split <;> simp
@[simp] theorem setRef_plan (v : RefState) : (setRef v s).plan = s.plan := by
  unfold setRef; split <;> simp
@[simp] theorem setRef_trig (v : RefState) : (setRef v s).trig = s.trig := by
  unfold setRef; split <;> simp
@[simp] theorem setRef_matcher (v : RefState) : (setRef v s).matcher = s.matcher := by
  unfold setRef; split <;> simp
@[simp] theorem setRef_tc (v : RefState) : (setRef v s).tc = s.tc := by
  unfold setRef; split <;> simp
@[simp] theorem setRef_log (v : RefState) : (setRef v s).log = s.log := by
  unfold setRef; split <;> simp
@[simp] theorem setRef_lens (v : RefState) : (setRef v s).lens = s.lens := by
  unfold setRef; split <;> simp
@[simp] theorem setRef_memory (v : RefState) : (setRef v s).memory = s.memory := by
  unfold setRef; split <;> simp
@[simp] theorem setRef_tieChoices (v : RefState) : (setRef v s).tieChoices = s.tieChoices := by
  unfold setRef; split <;> simp

@[simp] theorem recomputeRef_pending : (recomputeRef s).pending = s.pending := by simp [recomputeRef]
@[simp] theorem recomputeRef_pins : (recomputeRef s).pins = s.pins := by simp [recomputeRef]
@[simp] theorem recomputeRef_plan : (recomputeRef s).plan = s.plan := by simp [recomputeRef]
@[simp] theorem recomputeRef_trig : (recomputeRef s).trig = s.trig := by simp [recomputeRef]
@[simp] theorem recomputeRef_matcher : (recomputeRef s).matcher = s.matcher := by simp [recomputeRef]
@[simp] theorem recomputeRef_tc : (recomputeRef s).tc = s.tc := by simp [recomputeRef]
@[simp] theorem recomputeRef_log : (recomputeRef s).log = s.log := by simp [recomputeRef]
@[simp] theorem recomputeRef_lens : (recomputeRef s).lens = s.lens := by simp [recomputeRef]
@[simp] theorem recomputeRef_memory : (recomputeRef s).memory = s.memory := by simp [recomputeRef]
@[simp] theorem recomputeRef_tieChoices : (recomputeRef s).tieChoices = s.tieChoices := by simp [recomputeRef]

@[simp] theorem settleReference_pending (u : PlanUnit) : (settleReference u s).pending = s.pending := by
  unfold settleReference
  (repeat' split) <;> simp
@[simp] theorem settleReference_pins (u : PlanUnit) : (settleReference u s).pins = s.pins := by
  unfold settleReference
  (repeat' split) <;> simp
@[simp] theorem settleReference_plan (u : PlanUnit) : (settleReference u s).plan = s.plan := by
  unfold settleReference
  (repeat' split) <;> simp
@[simp] theorem settleReference_trig (u : PlanUnit) : (settleReference u s).trig = s.trig := by
  unfold settleReference
  (repeat' split) <;> simp
@[simp] theorem settleReference_matcher (u : PlanUnit) : (settleReference u s).matcher = s.matcher := by
  unfold settleReference
  (repeat' split) <;> simp
@[simp] theorem settleReference_tc (u : PlanUnit) : (settleReference u s).tc = s.tc := by
  unfold settleReference
  (repeat' split) <;> simp
@[simp] theorem settleReference_log (u : PlanUnit) : (settleReference u s).log = s.log := by
  unfold settleReference
  (repeat' split) <;> simp
@[simp] theorem settleReference_lens (u : PlanUnit) : (settleReference u s).lens = s.lens := by
  unfold settleReference
  (repeat' split) <;> simp
@[simp] theorem settleReference_memory (u : PlanUnit) : (settleReference u s).memory = s.memory := by
  unfold settleReference
  (repeat' split) <;> simp
@[simp] theorem settleReference_tieChoices (u : PlanUnit) : (settleReference u s).tieChoices = s.tieChoices := by
  unfold settleReference
  (repeat' split) <;> simp

@[simp] theorem applyStaged_pending (b : Bool) : (applyStaged b s).pending = s.pending := by
  unfold applyStaged; dsimp only
  (repeat' split) <;> simp
@[simp] theorem applyStaged_pins (b : Bool) : (applyStaged b s).pins = s.pins := by
  unfold applyStaged; dsimp only
  (repeat' split) <;> simp
@[simp] theorem applyStaged_trig (b : Bool) : (applyStaged b s).trig = s.trig := by
  unfold applyStaged; dsimp only
  (repeat' split) <;> simp
@[simp] theorem applyStaged_matcher (b : Bool) : (applyStaged b s).matcher = s.matcher := by
  unfold applyStaged; dsimp only
  (repeat' split) <;> simp
@[simp] theorem applyStaged_tc (b : Bool) : (applyStaged b s).tc = s.tc := by
  unfold applyStaged; dsimp only
  (repeat' split) <;> simp
@[simp] theorem applyStaged_log (b : Bool) : (applyStaged b s).log = s.log := by
  unfold applyStaged; dsimp only
  (repeat' split) <;> simp
@[simp] theorem applyStaged_lens (b : Bool) : (applyStaged b s).lens = s.lens := by
  unfold applyStaged; dsimp only
  (repeat' split) <;> simp
@[simp] theorem applyStaged_memory (b : Bool) : (applyStaged b s).memory = s.memory := by
  unfold applyStaged; dsimp only
  (repeat' split) <;> simp
@[simp] theorem applyStaged_tieChoices (b : Bool) : (applyStaged b s).tieChoices = s.tieChoices := by
  unfold applyStaged; dsimp only
  (repeat' split) <;> simp

@[simp] theorem answerCommitter_pending (b : State) (l : Link) (n : BitVec 32) : (answerCommitter b l n s).pending = s.pending := rfl
@[simp] theorem answerCommitter_pins (b : State) (l : Link) (n : BitVec 32) : (answerCommitter b l n s).pins = s.pins := rfl
@[simp] theorem answerCommitter_timing (b : State) (l : Link) (n : BitVec 32) : (answerCommitter b l n s).timing = s.timing := rfl
@[simp] theorem answerCommitter_plan (b : State) (l : Link) (n : BitVec 32) : (answerCommitter b l n s).plan = s.plan := rfl
@[simp] theorem answerCommitter_trig (b : State) (l : Link) (n : BitVec 32) : (answerCommitter b l n s).trig = s.trig := rfl
@[simp] theorem answerCommitter_matcher (b : State) (l : Link) (n : BitVec 32) : (answerCommitter b l n s).matcher = s.matcher := rfl
@[simp] theorem answerCommitter_tc (b : State) (l : Link) (n : BitVec 32) : (answerCommitter b l n s).tc = s.tc := rfl
@[simp] theorem answerCommitter_log (b : State) (l : Link) (n : BitVec 32) : (answerCommitter b l n s).log = s.log := rfl
@[simp] theorem answerCommitter_lens (b : State) (l : Link) (n : BitVec 32) : (answerCommitter b l n s).lens = s.lens := rfl
@[simp] theorem answerCommitter_memory (b : State) (l : Link) (n : BitVec 32) : (answerCommitter b l n s).memory = s.memory := rfl
@[simp] theorem answerCommitter_tieChoices (b : State) (l : Link) (n : BitVec 32) : (answerCommitter b l n s).tieChoices = s.tieChoices := rfl

@[simp] theorem applyWhileStopped_pending (b : State) (o : Option Link) : (applyWhileStopped b o s).pending = s.pending := by
  unfold applyWhileStopped; split <;> simp
@[simp] theorem applyWhileStopped_pins (b : State) (o : Option Link) : (applyWhileStopped b o s).pins = s.pins := by
  unfold applyWhileStopped; split <;> simp
@[simp] theorem applyWhileStopped_trig (b : State) (o : Option Link) : (applyWhileStopped b o s).trig = s.trig := by
  unfold applyWhileStopped; split <;> simp
@[simp] theorem applyWhileStopped_matcher (b : State) (o : Option Link) : (applyWhileStopped b o s).matcher = s.matcher := by
  unfold applyWhileStopped; split <;> simp
@[simp] theorem applyWhileStopped_tc (b : State) (o : Option Link) : (applyWhileStopped b o s).tc = s.tc := by
  unfold applyWhileStopped; split <;> simp
@[simp] theorem applyWhileStopped_log (b : State) (o : Option Link) : (applyWhileStopped b o s).log = s.log := by
  unfold applyWhileStopped; split <;> simp
@[simp] theorem applyWhileStopped_lens (b : State) (o : Option Link) : (applyWhileStopped b o s).lens = s.lens := by
  unfold applyWhileStopped; split <;> simp
@[simp] theorem applyWhileStopped_memory (b : State) (o : Option Link) : (applyWhileStopped b o s).memory = s.memory := by
  unfold applyWhileStopped; split <;> simp
@[simp] theorem applyWhileStopped_tieChoices (b : State) (o : Option Link) : (applyWhileStopped b o s).tieChoices = s.tieChoices := by
  unfold applyWhileStopped; split <;> simp

@[simp] theorem judgeEye_pending (x : Slot) (e : Eye) : (judgeEye x e s).pending = s.pending := by
  unfold judgeEye; dsimp only
  (repeat' split) <;> simp
@[simp] theorem judgeEye_pins (x : Slot) (e : Eye) : (judgeEye x e s).pins = s.pins := by
  unfold judgeEye; dsimp only
  (repeat' split) <;> simp
@[simp] theorem judgeEye_timing (x : Slot) (e : Eye) : (judgeEye x e s).timing = s.timing := by
  unfold judgeEye; dsimp only
  (repeat' split) <;> simp
@[simp] theorem judgeEye_plan (x : Slot) (e : Eye) : (judgeEye x e s).plan = s.plan := by
  unfold judgeEye; dsimp only
  (repeat' split) <;> simp
@[simp] theorem judgeEye_trig (x : Slot) (e : Eye) : (judgeEye x e s).trig = s.trig := by
  unfold judgeEye; dsimp only
  (repeat' split) <;> simp
@[simp] theorem judgeEye_tc (x : Slot) (e : Eye) : (judgeEye x e s).tc = s.tc := by
  unfold judgeEye; dsimp only
  (repeat' split) <;> simp
@[simp] theorem judgeEye_log (x : Slot) (e : Eye) : (judgeEye x e s).log = s.log := by
  unfold judgeEye; dsimp only
  (repeat' split) <;> simp
@[simp] theorem judgeEye_lens (x : Slot) (e : Eye) : (judgeEye x e s).lens = s.lens := by
  unfold judgeEye; dsimp only
  (repeat' split) <;> simp
@[simp] theorem judgeEye_memory (x : Slot) (e : Eye) : (judgeEye x e s).memory = s.memory := by
  unfold judgeEye; dsimp only
  (repeat' split) <;> simp
@[simp] theorem judgeEye_tieChoices (x : Slot) (e : Eye) : (judgeEye x e s).tieChoices = s.tieChoices := by
  unfold judgeEye; dsimp only
  (repeat' split) <;> simp

@[simp] theorem strayReturn_pending (e : Eye) : (strayReturn e s).pending = s.pending := rfl
@[simp] theorem strayReturn_pins (e : Eye) : (strayReturn e s).pins = s.pins := rfl
@[simp] theorem strayReturn_timing (e : Eye) : (strayReturn e s).timing = s.timing := rfl
@[simp] theorem strayReturn_plan (e : Eye) : (strayReturn e s).plan = s.plan := rfl
@[simp] theorem strayReturn_trig (e : Eye) : (strayReturn e s).trig = s.trig := rfl
@[simp] theorem strayReturn_tc (e : Eye) : (strayReturn e s).tc = s.tc := rfl
@[simp] theorem strayReturn_log (e : Eye) : (strayReturn e s).log = s.log := rfl
@[simp] theorem strayReturn_lens (e : Eye) : (strayReturn e s).lens = s.lens := rfl
@[simp] theorem strayReturn_memory (e : Eye) : (strayReturn e s).memory = s.memory := rfl
@[simp] theorem strayReturn_tieChoices (e : Eye) : (strayReturn e s).tieChoices = s.tieChoices := rfl

@[simp] theorem closeSlot_pending (n : BitVec 32) : (closeSlot n s).pending = s.pending := by
  unfold closeSlot; split <;> simp
@[simp] theorem closeSlot_pins (n : BitVec 32) : (closeSlot n s).pins = s.pins := by
  unfold closeSlot; split <;> simp
@[simp] theorem closeSlot_timing (n : BitVec 32) : (closeSlot n s).timing = s.timing := by
  unfold closeSlot; split <;> simp
@[simp] theorem closeSlot_plan (n : BitVec 32) : (closeSlot n s).plan = s.plan := by
  unfold closeSlot; split <;> simp
@[simp] theorem closeSlot_tc (n : BitVec 32) : (closeSlot n s).tc = s.tc := by
  unfold closeSlot; split <;> simp
@[simp] theorem closeSlot_log (n : BitVec 32) : (closeSlot n s).log = s.log := by
  unfold closeSlot; split <;> simp
@[simp] theorem closeSlot_lens (n : BitVec 32) : (closeSlot n s).lens = s.lens := by
  unfold closeSlot; split <;> simp
@[simp] theorem closeSlot_memory (n : BitVec 32) : (closeSlot n s).memory = s.memory := by
  unfold closeSlot; split <;> simp
@[simp] theorem closeSlot_tieChoices (n : BitVec 32) : (closeSlot n s).tieChoices = s.tieChoices := by
  unfold closeSlot; split <;> simp

@[simp] theorem closeIfComplete_pending (n : BitVec 32) : (closeIfComplete n s).pending = s.pending := by
  unfold closeIfComplete
  (repeat' split) <;> simp
@[simp] theorem closeIfComplete_pins (n : BitVec 32) : (closeIfComplete n s).pins = s.pins := by
  unfold closeIfComplete
  (repeat' split) <;> simp
@[simp] theorem closeIfComplete_timing (n : BitVec 32) : (closeIfComplete n s).timing = s.timing := by
  unfold closeIfComplete
  (repeat' split) <;> simp
@[simp] theorem closeIfComplete_plan (n : BitVec 32) : (closeIfComplete n s).plan = s.plan := by
  unfold closeIfComplete
  (repeat' split) <;> simp
@[simp] theorem closeIfComplete_tc (n : BitVec 32) : (closeIfComplete n s).tc = s.tc := by
  unfold closeIfComplete
  (repeat' split) <;> simp
@[simp] theorem closeIfComplete_log (n : BitVec 32) : (closeIfComplete n s).log = s.log := by
  unfold closeIfComplete
  (repeat' split) <;> simp
@[simp] theorem closeIfComplete_lens (n : BitVec 32) : (closeIfComplete n s).lens = s.lens := by
  unfold closeIfComplete
  (repeat' split) <;> simp
@[simp] theorem closeIfComplete_memory (n : BitVec 32) : (closeIfComplete n s).memory = s.memory := by
  unfold closeIfComplete
  (repeat' split) <;> simp
@[simp] theorem closeIfComplete_tieChoices (n : BitVec 32) : (closeIfComplete n s).tieChoices = s.tieChoices := by
  unfold closeIfComplete
  (repeat' split) <;> simp

@[simp] theorem forceClosure_pending : (forceClosure s).pending = s.pending := by
  unfold forceClosure
  (repeat' split) <;> simp
@[simp] theorem forceClosure_pins : (forceClosure s).pins = s.pins := by
  unfold forceClosure
  (repeat' split) <;> simp
@[simp] theorem forceClosure_timing : (forceClosure s).timing = s.timing := by
  unfold forceClosure
  (repeat' split) <;> simp
@[simp] theorem forceClosure_plan : (forceClosure s).plan = s.plan := by
  unfold forceClosure
  (repeat' split) <;> simp
@[simp] theorem forceClosure_tc : (forceClosure s).tc = s.tc := by
  unfold forceClosure
  (repeat' split) <;> simp
@[simp] theorem forceClosure_log : (forceClosure s).log = s.log := by
  unfold forceClosure
  (repeat' split) <;> simp
@[simp] theorem forceClosure_lens : (forceClosure s).lens = s.lens := by
  unfold forceClosure
  (repeat' split) <;> simp
@[simp] theorem forceClosure_memory : (forceClosure s).memory = s.memory := by
  unfold forceClosure
  (repeat' split) <;> simp
@[simp] theorem forceClosure_tieChoices : (forceClosure s).tieChoices = s.tieChoices := by
  unfold forceClosure
  (repeat' split) <;> simp

@[simp] theorem assignReturn_pending (e : Eye) : (assignReturn e s).pending = s.pending := by
  unfold assignReturn; split <;> simp
@[simp] theorem assignReturn_pins (e : Eye) : (assignReturn e s).pins = s.pins := by
  unfold assignReturn; split <;> simp
@[simp] theorem assignReturn_timing (e : Eye) : (assignReturn e s).timing = s.timing := by
  unfold assignReturn; split <;> simp
@[simp] theorem assignReturn_plan (e : Eye) : (assignReturn e s).plan = s.plan := by
  unfold assignReturn; split <;> simp
@[simp] theorem assignReturn_tc (e : Eye) : (assignReturn e s).tc = s.tc := by
  unfold assignReturn; split <;> simp
@[simp] theorem assignReturn_log (e : Eye) : (assignReturn e s).log = s.log := by
  unfold assignReturn; split <;> simp
@[simp] theorem assignReturn_lens (e : Eye) : (assignReturn e s).lens = s.lens := by
  unfold assignReturn; split <;> simp
@[simp] theorem assignReturn_memory (e : Eye) : (assignReturn e s).memory = s.memory := by
  unfold assignReturn; split <;> simp
@[simp] theorem assignReturn_tieChoices (e : Eye) : (assignReturn e s).tieChoices = s.tieChoices := by
  unfold assignReturn; split <;> simp

@[simp] theorem decideSlot_pending (n : BitVec 32) (e : Eye) (o : Option Time) : (decideSlot n e o s).pending = s.pending := by simp [decideSlot]
@[simp] theorem decideSlot_pins (n : BitVec 32) (e : Eye) (o : Option Time) : (decideSlot n e o s).pins = s.pins := by simp [decideSlot]
@[simp] theorem decideSlot_timing (n : BitVec 32) (e : Eye) (o : Option Time) : (decideSlot n e o s).timing = s.timing := by simp [decideSlot]
@[simp] theorem decideSlot_plan (n : BitVec 32) (e : Eye) (o : Option Time) : (decideSlot n e o s).plan = s.plan := by simp [decideSlot]
@[simp] theorem decideSlot_tc (n : BitVec 32) (e : Eye) (o : Option Time) : (decideSlot n e o s).tc = s.tc := by simp [decideSlot]
@[simp] theorem decideSlot_log (n : BitVec 32) (e : Eye) (o : Option Time) : (decideSlot n e o s).log = s.log := by simp [decideSlot]
@[simp] theorem decideSlot_lens (n : BitVec 32) (e : Eye) (o : Option Time) : (decideSlot n e o s).lens = s.lens := by simp [decideSlot]
@[simp] theorem decideSlot_memory (n : BitVec 32) (e : Eye) (o : Option Time) : (decideSlot n e o s).memory = s.memory := by simp [decideSlot]
@[simp] theorem decideSlot_tieChoices (n : BitVec 32) (e : Eye) (o : Option Time) : (decideSlot n e o s).tieChoices = s.tieChoices := by simp [decideSlot]

@[simp] theorem issueTrigger_pending (e : Eye) (n : Entry) : (issueTrigger e n s).pending = s.pending := by
  unfold issueTrigger; split <;> simp
@[simp] theorem issueTrigger_pins (e : Eye) (n : Entry) : (issueTrigger e n s).pins = s.pins := by
  unfold issueTrigger; split <;> simp
@[simp] theorem issueTrigger_timing (e : Eye) (n : Entry) : (issueTrigger e n s).timing = s.timing := by
  unfold issueTrigger; split <;> simp
@[simp] theorem issueTrigger_plan (e : Eye) (n : Entry) : (issueTrigger e n s).plan = s.plan := by
  unfold issueTrigger; split <;> simp
@[simp] theorem issueTrigger_matcher (e : Eye) (n : Entry) : (issueTrigger e n s).matcher = s.matcher := by
  unfold issueTrigger; split <;> simp
@[simp] theorem issueTrigger_tc (e : Eye) (n : Entry) : (issueTrigger e n s).tc = s.tc := by
  unfold issueTrigger; split <;> simp
@[simp] theorem issueTrigger_log (e : Eye) (n : Entry) : (issueTrigger e n s).log = s.log := by
  unfold issueTrigger; split <;> simp
@[simp] theorem issueTrigger_lens (e : Eye) (n : Entry) : (issueTrigger e n s).lens = s.lens := by
  unfold issueTrigger; split <;> simp
@[simp] theorem issueTrigger_memory (e : Eye) (n : Entry) : (issueTrigger e n s).memory = s.memory := by
  unfold issueTrigger; split <;> simp
@[simp] theorem issueTrigger_links (e : Eye) (n : Entry) : (issueTrigger e n s).links = s.links := by
  unfold issueTrigger; split <;> simp
@[simp] theorem issueTrigger_tieChoices (e : Eye) (n : Entry) : (issueTrigger e n s).tieChoices = s.tieChoices := by
  unfold issueTrigger; split <;> simp

@[simp] theorem decideTrigger_pending (e : Eye) : (decideTrigger e s).pending = s.pending := by
  unfold decideTrigger; dsimp only
  (repeat' split) <;> simp
@[simp] theorem decideTrigger_pins (e : Eye) : (decideTrigger e s).pins = s.pins := by
  unfold decideTrigger; dsimp only
  (repeat' split) <;> simp
@[simp] theorem decideTrigger_timing (e : Eye) : (decideTrigger e s).timing = s.timing := by
  unfold decideTrigger; dsimp only
  (repeat' split) <;> simp
@[simp] theorem decideTrigger_plan (e : Eye) : (decideTrigger e s).plan = s.plan := by
  unfold decideTrigger; dsimp only
  (repeat' split) <;> simp
@[simp] theorem decideTrigger_tc (e : Eye) : (decideTrigger e s).tc = s.tc := by
  unfold decideTrigger; dsimp only
  (repeat' split) <;> simp
@[simp] theorem decideTrigger_log (e : Eye) : (decideTrigger e s).log = s.log := by
  unfold decideTrigger; dsimp only
  (repeat' split) <;> simp
@[simp] theorem decideTrigger_lens (e : Eye) : (decideTrigger e s).lens = s.lens := by
  unfold decideTrigger; dsimp only
  (repeat' split) <;> simp
@[simp] theorem decideTrigger_memory (e : Eye) : (decideTrigger e s).memory = s.memory := by
  unfold decideTrigger; dsimp only
  (repeat' split) <;> simp
@[simp] theorem decideTrigger_tieChoices (e : Eye) : (decideTrigger e s).tieChoices = s.tieChoices := by
  unfold decideTrigger; dsimp only
  (repeat' split) <;> simp

@[simp] theorem handSynth_pending (e : Eye) : (handSynth e s).pending = s.pending := by
  unfold handSynth; split <;> simp
@[simp] theorem handSynth_pins (e : Eye) : (handSynth e s).pins = s.pins := by
  unfold handSynth; split <;> simp
@[simp] theorem handSynth_timing (e : Eye) : (handSynth e s).timing = s.timing := by
  unfold handSynth; split <;> simp
@[simp] theorem handSynth_plan (e : Eye) : (handSynth e s).plan = s.plan := by
  unfold handSynth; split <;> simp
@[simp] theorem handSynth_tc (e : Eye) : (handSynth e s).tc = s.tc := by
  unfold handSynth; split <;> simp
@[simp] theorem handSynth_log (e : Eye) : (handSynth e s).log = s.log := by
  unfold handSynth; split <;> simp
@[simp] theorem handSynth_lens (e : Eye) : (handSynth e s).lens = s.lens := by
  unfold handSynth; split <;> simp
@[simp] theorem handSynth_memory (e : Eye) : (handSynth e s).memory = s.memory := by
  unfold handSynth; split <;> simp
@[simp] theorem handSynth_tieChoices (e : Eye) : (handSynth e s).tieChoices = s.tieChoices := by
  unfold handSynth; split <;> simp

@[simp] theorem answerOwed_pending (b : State) (o : Option Link) (st : Status) : (answerOwed b o st s).pending = s.pending := by
  unfold answerOwed; split <;> simp
@[simp] theorem answerOwed_pins (b : State) (o : Option Link) (st : Status) : (answerOwed b o st s).pins = s.pins := by
  unfold answerOwed; split <;> simp
@[simp] theorem answerOwed_timing (b : State) (o : Option Link) (st : Status) : (answerOwed b o st s).timing = s.timing := by
  unfold answerOwed; split <;> simp
@[simp] theorem answerOwed_plan (b : State) (o : Option Link) (st : Status) : (answerOwed b o st s).plan = s.plan := by
  unfold answerOwed; split <;> simp
@[simp] theorem answerOwed_trig (b : State) (o : Option Link) (st : Status) : (answerOwed b o st s).trig = s.trig := by
  unfold answerOwed; split <;> simp
@[simp] theorem answerOwed_matcher (b : State) (o : Option Link) (st : Status) : (answerOwed b o st s).matcher = s.matcher := by
  unfold answerOwed; split <;> simp
@[simp] theorem answerOwed_tc (b : State) (o : Option Link) (st : Status) : (answerOwed b o st s).tc = s.tc := by
  unfold answerOwed; split <;> simp
@[simp] theorem answerOwed_log (b : State) (o : Option Link) (st : Status) : (answerOwed b o st s).log = s.log := by
  unfold answerOwed; split <;> simp
@[simp] theorem answerOwed_lens (b : State) (o : Option Link) (st : Status) : (answerOwed b o st s).lens = s.lens := by
  unfold answerOwed; split <;> simp
@[simp] theorem answerOwed_memory (b : State) (o : Option Link) (st : Status) : (answerOwed b o st s).memory = s.memory := by
  unfold answerOwed; split <;> simp
@[simp] theorem answerOwed_tieChoices (b : State) (o : Option Link) (st : Status) : (answerOwed b o st s).tieChoices = s.tieChoices := by
  unfold answerOwed; split <;> simp

@[simp] theorem stampTimecode_pending : (stampTimecode s).pending = s.pending := by simp [stampTimecode]
@[simp] theorem stampTimecode_pins : (stampTimecode s).pins = s.pins := by simp [stampTimecode]
@[simp] theorem stampTimecode_timing : (stampTimecode s).timing = s.timing := by simp [stampTimecode]
@[simp] theorem stampTimecode_plan : (stampTimecode s).plan = s.plan := by simp [stampTimecode]
@[simp] theorem stampTimecode_trig : (stampTimecode s).trig = s.trig := by simp [stampTimecode]
@[simp] theorem stampTimecode_matcher : (stampTimecode s).matcher = s.matcher := by simp [stampTimecode]
@[simp] theorem stampTimecode_log : (stampTimecode s).log = s.log := by simp [stampTimecode]
@[simp] theorem stampTimecode_lens : (stampTimecode s).lens = s.lens := by simp [stampTimecode]
@[simp] theorem stampTimecode_memory : (stampTimecode s).memory = s.memory := by simp [stampTimecode]
@[simp] theorem stampTimecode_tieChoices : (stampTimecode s).tieChoices = s.tieChoices := by simp [stampTimecode]

@[simp] theorem applyPendingTimecode_pending (b : State) : (applyPendingTimecode b s).pending = s.pending := by simp [applyPendingTimecode]
@[simp] theorem applyPendingTimecode_pins (b : State) : (applyPendingTimecode b s).pins = s.pins := by simp [applyPendingTimecode]
@[simp] theorem applyPendingTimecode_timing (b : State) : (applyPendingTimecode b s).timing = s.timing := by simp [applyPendingTimecode]
@[simp] theorem applyPendingTimecode_plan (b : State) : (applyPendingTimecode b s).plan = s.plan := by simp [applyPendingTimecode]
@[simp] theorem applyPendingTimecode_trig (b : State) : (applyPendingTimecode b s).trig = s.trig := by simp [applyPendingTimecode]
@[simp] theorem applyPendingTimecode_matcher (b : State) : (applyPendingTimecode b s).matcher = s.matcher := by simp [applyPendingTimecode]
@[simp] theorem applyPendingTimecode_log (b : State) : (applyPendingTimecode b s).log = s.log := by simp [applyPendingTimecode]
@[simp] theorem applyPendingTimecode_lens (b : State) : (applyPendingTimecode b s).lens = s.lens := by simp [applyPendingTimecode]
@[simp] theorem applyPendingTimecode_memory (b : State) : (applyPendingTimecode b s).memory = s.memory := by simp [applyPendingTimecode]
@[simp] theorem applyPendingTimecode_tieChoices (b : State) : (applyPendingTimecode b s).tieChoices = s.tieChoices := by simp [applyPendingTimecode]

@[simp] theorem applyWaitingCommit_pending : (applyWaitingCommit s).pending = s.pending := by
  unfold applyWaitingCommit; split <;> simp
@[simp] theorem applyWaitingCommit_pins : (applyWaitingCommit s).pins = s.pins := by
  unfold applyWaitingCommit; split <;> simp
@[simp] theorem applyWaitingCommit_trig : (applyWaitingCommit s).trig = s.trig := by
  unfold applyWaitingCommit; split <;> simp
@[simp] theorem applyWaitingCommit_matcher : (applyWaitingCommit s).matcher = s.matcher := by
  unfold applyWaitingCommit; split <;> simp
@[simp] theorem applyWaitingCommit_tc : (applyWaitingCommit s).tc = s.tc := by
  unfold applyWaitingCommit; split <;> simp
@[simp] theorem applyWaitingCommit_log : (applyWaitingCommit s).log = s.log := by
  unfold applyWaitingCommit; split <;> simp
@[simp] theorem applyWaitingCommit_lens : (applyWaitingCommit s).lens = s.lens := by
  unfold applyWaitingCommit; split <;> simp
@[simp] theorem applyWaitingCommit_memory : (applyWaitingCommit s).memory = s.memory := by
  unfold applyWaitingCommit; split <;> simp
@[simp] theorem applyWaitingCommit_tieChoices : (applyWaitingCommit s).tieChoices = s.tieChoices := by
  unfold applyWaitingCommit; split <;> simp

@[simp] theorem openSlot_pending (cause : Cause) : (openSlot cause s).pending = s.pending := by
  unfold openSlot; split <;> simp
@[simp] theorem openSlot_pins (cause : Cause) : (openSlot cause s).pins = s.pins := by
  unfold openSlot; split <;> simp
@[simp] theorem openSlot_timing (cause : Cause) : (openSlot cause s).timing = s.timing := by
  unfold openSlot; split <;> simp
@[simp] theorem openSlot_plan (cause : Cause) : (openSlot cause s).plan = s.plan := by
  unfold openSlot; split <;> simp
@[simp] theorem openSlot_tc (cause : Cause) : (openSlot cause s).tc = s.tc := by
  unfold openSlot; split <;> simp
@[simp] theorem openSlot_log (cause : Cause) : (openSlot cause s).log = s.log := by
  unfold openSlot; split <;> simp
@[simp] theorem openSlot_lens (cause : Cause) : (openSlot cause s).lens = s.lens := by
  unfold openSlot; split <;> simp
@[simp] theorem openSlot_memory (cause : Cause) : (openSlot cause s).memory = s.memory := by
  unfold openSlot; split <;> simp
@[simp] theorem openSlot_links (cause : Cause) : (openSlot cause s).links = s.links := by
  unfold openSlot; split <;> simp
@[simp] theorem openSlot_tieChoices (cause : Cause) : (openSlot cause s).tieChoices = s.tieChoices := by
  unfold openSlot; split <;> simp

@[simp] theorem answerBoundaryCommit_pending (g b : State) : (answerBoundaryCommit g b s).pending = s.pending := by
  unfold answerBoundaryCommit; split <;> simp
@[simp] theorem answerBoundaryCommit_pins (g b : State) : (answerBoundaryCommit g b s).pins = s.pins := by
  unfold answerBoundaryCommit; split <;> simp
@[simp] theorem answerBoundaryCommit_timing (g b : State) : (answerBoundaryCommit g b s).timing = s.timing := by
  unfold answerBoundaryCommit; split <;> simp
@[simp] theorem answerBoundaryCommit_plan (g b : State) : (answerBoundaryCommit g b s).plan = s.plan := by
  unfold answerBoundaryCommit; split <;> simp
@[simp] theorem answerBoundaryCommit_trig (g b : State) : (answerBoundaryCommit g b s).trig = s.trig := by
  unfold answerBoundaryCommit; split <;> simp
@[simp] theorem answerBoundaryCommit_matcher (g b : State) : (answerBoundaryCommit g b s).matcher = s.matcher := by
  unfold answerBoundaryCommit; split <;> simp
@[simp] theorem answerBoundaryCommit_tc (g b : State) : (answerBoundaryCommit g b s).tc = s.tc := by
  unfold answerBoundaryCommit; split <;> simp
@[simp] theorem answerBoundaryCommit_log (g b : State) : (answerBoundaryCommit g b s).log = s.log := by
  unfold answerBoundaryCommit; split <;> simp
@[simp] theorem answerBoundaryCommit_lens (g b : State) : (answerBoundaryCommit g b s).lens = s.lens := by
  unfold answerBoundaryCommit; split <;> simp
@[simp] theorem answerBoundaryCommit_memory (g b : State) : (answerBoundaryCommit g b s).memory = s.memory := by
  unfold answerBoundaryCommit; split <;> simp
@[simp] theorem answerBoundaryCommit_tieChoices (g b : State) : (answerBoundaryCommit g b s).tieChoices = s.tieChoices := by
  unfold answerBoundaryCommit; split <;> simp

@[simp] theorem answerAtBoundary_pending (g b : State) : (answerAtBoundary g b s).pending = s.pending := by simp [answerAtBoundary]
@[simp] theorem answerAtBoundary_pins (g b : State) : (answerAtBoundary g b s).pins = s.pins := by simp [answerAtBoundary]
@[simp] theorem answerAtBoundary_timing (g b : State) : (answerAtBoundary g b s).timing = s.timing := by simp [answerAtBoundary]
@[simp] theorem answerAtBoundary_plan (g b : State) : (answerAtBoundary g b s).plan = s.plan := by simp [answerAtBoundary]
@[simp] theorem answerAtBoundary_trig (g b : State) : (answerAtBoundary g b s).trig = s.trig := by simp [answerAtBoundary]
@[simp] theorem answerAtBoundary_matcher (g b : State) : (answerAtBoundary g b s).matcher = s.matcher := by simp [answerAtBoundary]
@[simp] theorem answerAtBoundary_tc (g b : State) : (answerAtBoundary g b s).tc = s.tc := by simp [answerAtBoundary]
@[simp] theorem answerAtBoundary_log (g b : State) : (answerAtBoundary g b s).log = s.log := by simp [answerAtBoundary]
@[simp] theorem answerAtBoundary_lens (g b : State) : (answerAtBoundary g b s).lens = s.lens := by simp [answerAtBoundary]
@[simp] theorem answerAtBoundary_memory (g b : State) : (answerAtBoundary g b s).memory = s.memory := by simp [answerAtBoundary]
@[simp] theorem answerAtBoundary_tieChoices (g b : State) : (answerAtBoundary g b s).tieChoices = s.tieChoices := by simp [answerAtBoundary]

@[simp] theorem boundaryTiming_pending (cause : Cause) : (boundaryTiming cause s).pending = s.pending := by
  unfold boundaryTiming; split <;> simp
@[simp] theorem boundaryTiming_pins (cause : Cause) : (boundaryTiming cause s).pins = s.pins := by
  unfold boundaryTiming; split <;> simp
@[simp] theorem boundaryTiming_trig (cause : Cause) : (boundaryTiming cause s).trig = s.trig := by
  unfold boundaryTiming; split <;> simp
@[simp] theorem boundaryTiming_matcher (cause : Cause) : (boundaryTiming cause s).matcher = s.matcher := by
  unfold boundaryTiming; split <;> simp
@[simp] theorem boundaryTiming_tc (cause : Cause) : (boundaryTiming cause s).tc = s.tc := by
  unfold boundaryTiming; split <;> simp
@[simp] theorem boundaryTiming_log (cause : Cause) : (boundaryTiming cause s).log = s.log := by
  unfold boundaryTiming; split <;> simp
@[simp] theorem boundaryTiming_lens (cause : Cause) : (boundaryTiming cause s).lens = s.lens := by
  unfold boundaryTiming; split <;> simp
@[simp] theorem boundaryTiming_memory (cause : Cause) : (boundaryTiming cause s).memory = s.memory := by
  unfold boundaryTiming; split <;> simp
@[simp] theorem boundaryTiming_tieChoices (cause : Cause) : (boundaryTiming cause s).tieChoices = s.tieChoices := by
  unfold boundaryTiming; split <;> simp

@[simp] theorem abandonScan_pending : (abandonScan s).pending = s.pending := by
  unfold abandonScan; split <;> simp
@[simp] theorem abandonScan_pins : (abandonScan s).pins = s.pins := by
  unfold abandonScan; split <;> simp
@[simp] theorem abandonScan_timing : (abandonScan s).timing = s.timing := by
  unfold abandonScan; split <;> simp
@[simp] theorem abandonScan_plan : (abandonScan s).plan = s.plan := by
  unfold abandonScan; split <;> simp
@[simp] theorem abandonScan_trig : (abandonScan s).trig = s.trig := by
  unfold abandonScan; split <;> simp
@[simp] theorem abandonScan_matcher : (abandonScan s).matcher = s.matcher := by
  unfold abandonScan; split <;> simp
@[simp] theorem abandonScan_tc : (abandonScan s).tc = s.tc := by
  unfold abandonScan; split <;> simp
@[simp] theorem abandonScan_log : (abandonScan s).log = s.log := by
  unfold abandonScan; split <;> simp
@[simp] theorem abandonScan_links : (abandonScan s).links = s.links := by
  unfold abandonScan; split <;> simp
@[simp] theorem abandonScan_tieChoices : (abandonScan s).tieChoices = s.tieChoices := by
  unfold abandonScan; split <;> simp

@[simp] theorem frameScan_pending : (frameScan s).pending = s.pending := by
  unfold frameScan; split <;> simp
@[simp] theorem frameScan_pins : (frameScan s).pins = s.pins := by
  unfold frameScan; split <;> simp
@[simp] theorem frameScan_timing : (frameScan s).timing = s.timing := by
  unfold frameScan; split <;> simp
@[simp] theorem frameScan_plan : (frameScan s).plan = s.plan := by
  unfold frameScan; split <;> simp
@[simp] theorem frameScan_trig : (frameScan s).trig = s.trig := by
  unfold frameScan; split <;> simp
@[simp] theorem frameScan_matcher : (frameScan s).matcher = s.matcher := by
  unfold frameScan; split <;> simp
@[simp] theorem frameScan_tc : (frameScan s).tc = s.tc := by
  unfold frameScan; split <;> simp
@[simp] theorem frameScan_log : (frameScan s).log = s.log := by
  unfold frameScan; split <;> simp
@[simp] theorem frameScan_links : (frameScan s).links = s.links := by
  unfold frameScan; split <;> simp
@[simp] theorem frameScan_tieChoices : (frameScan s).tieChoices = s.tieChoices := by
  unfold frameScan; split <;> simp

@[simp] theorem boundary_pending (g : State) (cause : Cause) : (boundary g cause s).pending = s.pending := by simp [boundary]
@[simp] theorem boundary_pins (g : State) (cause : Cause) : (boundary g cause s).pins = s.pins := by simp [boundary]
@[simp] theorem boundary_log (g : State) (cause : Cause) : (boundary g cause s).log = s.log := by simp [boundary]
@[simp] theorem boundary_tieChoices (g : State) (cause : Cause) : (boundary g cause s).tieChoices = s.tieChoices := by simp [boundary]

@[simp] theorem takeBoundary_pending (g : State) (cause : Cause) : (takeBoundary g cause s).pending = s.pending := by
  unfold takeBoundary; split <;> simp
@[simp] theorem takeBoundary_pins (g : State) (cause : Cause) : (takeBoundary g cause s).pins = s.pins := by
  unfold takeBoundary; split <;> simp
@[simp] theorem takeBoundary_log (g : State) (cause : Cause) : (takeBoundary g cause s).log = s.log := by
  unfold takeBoundary; split <;> simp
@[simp] theorem takeBoundary_tieChoices (g : State) (cause : Cause) : (takeBoundary g cause s).tieChoices = s.tieChoices := by
  unfold takeBoundary; split <;> simp

@[simp] theorem boundaryAfterChange_pending (b : State) : (boundaryAfterChange b s).pending = s.pending := by
  unfold boundaryAfterChange; split <;> simp
@[simp] theorem boundaryAfterChange_pins (b : State) : (boundaryAfterChange b s).pins = s.pins := by
  unfold boundaryAfterChange; split <;> simp
@[simp] theorem boundaryAfterChange_log (b : State) : (boundaryAfterChange b s).log = s.log := by
  unfold boundaryAfterChange; split <;> simp
@[simp] theorem boundaryAfterChange_tieChoices (b : State) : (boundaryAfterChange b s).tieChoices = s.tieChoices := by
  unfold boundaryAfterChange; split <;> simp

@[simp] theorem reachStopped_pending (g : State) : (reachStopped g s).pending = s.pending := by
  unfold reachStopped; split <;> simp
@[simp] theorem reachStopped_pins (g : State) : (reachStopped g s).pins = s.pins := by
  unfold reachStopped; split <;> simp
@[simp] theorem reachStopped_trig (g : State) : (reachStopped g s).trig = s.trig := by
  unfold reachStopped; split <;> simp
@[simp] theorem reachStopped_matcher (g : State) : (reachStopped g s).matcher = s.matcher := by
  unfold reachStopped; split <;> simp
@[simp] theorem reachStopped_log (g : State) : (reachStopped g s).log = s.log := by
  unfold reachStopped; split <;> simp
@[simp] theorem reachStopped_lens (g : State) : (reachStopped g s).lens = s.lens := by
  unfold reachStopped; split <;> simp
@[simp] theorem reachStopped_memory (g : State) : (reachStopped g s).memory = s.memory := by
  unfold reachStopped; split <;> simp
@[simp] theorem reachStopped_tieChoices (g : State) : (reachStopped g s).tieChoices = s.tieChoices := by
  unfold reachStopped; split <;> simp

@[simp] theorem stopIfDrained_pending (g : State) : (stopIfDrained g s).pending = s.pending := by
  unfold stopIfDrained; split <;> simp
@[simp] theorem stopIfDrained_pins (g : State) : (stopIfDrained g s).pins = s.pins := by
  unfold stopIfDrained; split <;> simp
@[simp] theorem stopIfDrained_trig (g : State) : (stopIfDrained g s).trig = s.trig := by
  unfold stopIfDrained; split <;> simp
@[simp] theorem stopIfDrained_matcher (g : State) : (stopIfDrained g s).matcher = s.matcher := by
  unfold stopIfDrained; split <;> simp
@[simp] theorem stopIfDrained_log (g : State) : (stopIfDrained g s).log = s.log := by
  unfold stopIfDrained; split <;> simp
@[simp] theorem stopIfDrained_lens (g : State) : (stopIfDrained g s).lens = s.lens := by
  unfold stopIfDrained; split <;> simp
@[simp] theorem stopIfDrained_memory (g : State) : (stopIfDrained g s).memory = s.memory := by
  unfold stopIfDrained; split <;> simp
@[simp] theorem stopIfDrained_tieChoices (g : State) : (stopIfDrained g s).tieChoices = s.tieChoices := by
  unfold stopIfDrained; split <;> simp

@[simp] theorem abortCommit_pending (b : State) : (abortCommit b s).pending = s.pending := by
  unfold abortCommit; split <;> simp
@[simp] theorem abortCommit_pins (b : State) : (abortCommit b s).pins = s.pins := by
  unfold abortCommit; split <;> simp
@[simp] theorem abortCommit_timing (b : State) : (abortCommit b s).timing = s.timing := by
  unfold abortCommit; split <;> simp
@[simp] theorem abortCommit_plan (b : State) : (abortCommit b s).plan = s.plan := by
  unfold abortCommit; split <;> simp
@[simp] theorem abortCommit_trig (b : State) : (abortCommit b s).trig = s.trig := by
  unfold abortCommit; split <;> simp
@[simp] theorem abortCommit_matcher (b : State) : (abortCommit b s).matcher = s.matcher := by
  unfold abortCommit; split <;> simp
@[simp] theorem abortCommit_tc (b : State) : (abortCommit b s).tc = s.tc := by
  unfold abortCommit; split <;> simp
@[simp] theorem abortCommit_log (b : State) : (abortCommit b s).log = s.log := by
  unfold abortCommit; split <;> simp
@[simp] theorem abortCommit_lens (b : State) : (abortCommit b s).lens = s.lens := by
  unfold abortCommit; split <;> simp
@[simp] theorem abortCommit_memory (b : State) : (abortCommit b s).memory = s.memory := by
  unfold abortCommit; split <;> simp
@[simp] theorem abortCommit_tieChoices (b : State) : (abortCommit b s).tieChoices = s.tieChoices := by
  unfold abortCommit; split <;> simp

@[simp] theorem answerCutRead_pending (b : State) : (answerCutRead b s).pending = s.pending := by
  unfold answerCutRead; split <;> simp
@[simp] theorem answerCutRead_pins (b : State) : (answerCutRead b s).pins = s.pins := by
  unfold answerCutRead; split <;> simp
@[simp] theorem answerCutRead_timing (b : State) : (answerCutRead b s).timing = s.timing := by
  unfold answerCutRead; split <;> simp
@[simp] theorem answerCutRead_plan (b : State) : (answerCutRead b s).plan = s.plan := by
  unfold answerCutRead; split <;> simp
@[simp] theorem answerCutRead_trig (b : State) : (answerCutRead b s).trig = s.trig := by
  unfold answerCutRead; split <;> simp
@[simp] theorem answerCutRead_matcher (b : State) : (answerCutRead b s).matcher = s.matcher := by
  unfold answerCutRead; split <;> simp
@[simp] theorem answerCutRead_tc (b : State) : (answerCutRead b s).tc = s.tc := by
  unfold answerCutRead; split <;> simp
@[simp] theorem answerCutRead_log (b : State) : (answerCutRead b s).log = s.log := by
  unfold answerCutRead; split <;> simp
@[simp] theorem answerCutRead_lens (b : State) : (answerCutRead b s).lens = s.lens := by
  unfold answerCutRead; split <;> simp
@[simp] theorem answerCutRead_memory (b : State) : (answerCutRead b s).memory = s.memory := by
  unfold answerCutRead; split <;> simp
@[simp] theorem answerCutRead_tieChoices (b : State) : (answerCutRead b s).tieChoices = s.tieChoices := by
  unfold answerCutRead; split <;> simp

@[simp] theorem completeScan_pending : (completeScan s).pending = s.pending := by
  unfold completeScan; dsimp only
  (repeat' split) <;> simp
@[simp] theorem completeScan_pins : (completeScan s).pins = s.pins := by
  unfold completeScan; dsimp only
  (repeat' split) <;> simp
@[simp] theorem completeScan_timing : (completeScan s).timing = s.timing := by
  unfold completeScan; dsimp only
  (repeat' split) <;> simp
@[simp] theorem completeScan_plan : (completeScan s).plan = s.plan := by
  unfold completeScan; dsimp only
  (repeat' split) <;> simp
@[simp] theorem completeScan_trig : (completeScan s).trig = s.trig := by
  unfold completeScan; dsimp only
  (repeat' split) <;> simp
@[simp] theorem completeScan_matcher : (completeScan s).matcher = s.matcher := by
  unfold completeScan; dsimp only
  (repeat' split) <;> simp
@[simp] theorem completeScan_tc : (completeScan s).tc = s.tc := by
  unfold completeScan; dsimp only
  (repeat' split) <;> simp
@[simp] theorem completeScan_log : (completeScan s).log = s.log := by
  unfold completeScan; dsimp only
  (repeat' split) <;> simp
@[simp] theorem completeScan_memory : (completeScan s).memory = s.memory := by
  unfold completeScan; dsimp only
  (repeat' split) <;> simp
@[simp] theorem completeScan_tieChoices : (completeScan s).tieChoices = s.tieChoices := by
  unfold completeScan; dsimp only
  (repeat' split) <;> simp

@[simp] theorem dropOldest_pending : (dropOldest s).pending = s.pending := rfl
@[simp] theorem dropOldest_pins : (dropOldest s).pins = s.pins := rfl
@[simp] theorem dropOldest_timing : (dropOldest s).timing = s.timing := rfl
@[simp] theorem dropOldest_plan : (dropOldest s).plan = s.plan := rfl
@[simp] theorem dropOldest_trig : (dropOldest s).trig = s.trig := rfl
@[simp] theorem dropOldest_matcher : (dropOldest s).matcher = s.matcher := rfl
@[simp] theorem dropOldest_tc : (dropOldest s).tc = s.tc := rfl
@[simp] theorem dropOldest_lens : (dropOldest s).lens = s.lens := rfl
@[simp] theorem dropOldest_memory : (dropOldest s).memory = s.memory := rfl
@[simp] theorem dropOldest_tieChoices : (dropOldest s).tieChoices = s.tieChoices := rfl

@[simp] theorem appendRecord_pending : (appendRecord s).pending = s.pending := by
  unfold appendRecord; split <;> simp
@[simp] theorem appendRecord_pins : (appendRecord s).pins = s.pins := by
  unfold appendRecord; split <;> simp
@[simp] theorem appendRecord_timing : (appendRecord s).timing = s.timing := by
  unfold appendRecord; split <;> simp
@[simp] theorem appendRecord_plan : (appendRecord s).plan = s.plan := by
  unfold appendRecord; split <;> simp
@[simp] theorem appendRecord_trig : (appendRecord s).trig = s.trig := by
  unfold appendRecord; split <;> simp
@[simp] theorem appendRecord_matcher : (appendRecord s).matcher = s.matcher := by
  unfold appendRecord; split <;> simp
@[simp] theorem appendRecord_tc : (appendRecord s).tc = s.tc := by
  unfold appendRecord; split <;> simp
@[simp] theorem appendRecord_lens : (appendRecord s).lens = s.lens := by
  unfold appendRecord; split <;> simp
@[simp] theorem appendRecord_memory : (appendRecord s).memory = s.memory := by
  unfold appendRecord; split <;> simp
@[simp] theorem appendRecord_tieChoices : (appendRecord s).tieChoices = s.tieChoices := by
  unfold appendRecord; split <;> simp

@[simp] theorem finishLogRead_pending (l : Link) (gap k : Nat) (start : BitVec 32) (words : List MemWord) : (finishLogRead l gap k start words s).pending = s.pending := rfl
@[simp] theorem finishLogRead_pins (l : Link) (gap k : Nat) (start : BitVec 32) (words : List MemWord) : (finishLogRead l gap k start words s).pins = s.pins := rfl
@[simp] theorem finishLogRead_timing (l : Link) (gap k : Nat) (start : BitVec 32) (words : List MemWord) : (finishLogRead l gap k start words s).timing = s.timing := rfl
@[simp] theorem finishLogRead_plan (l : Link) (gap k : Nat) (start : BitVec 32) (words : List MemWord) : (finishLogRead l gap k start words s).plan = s.plan := rfl
@[simp] theorem finishLogRead_trig (l : Link) (gap k : Nat) (start : BitVec 32) (words : List MemWord) : (finishLogRead l gap k start words s).trig = s.trig := rfl
@[simp] theorem finishLogRead_matcher (l : Link) (gap k : Nat) (start : BitVec 32) (words : List MemWord) : (finishLogRead l gap k start words s).matcher = s.matcher := rfl
@[simp] theorem finishLogRead_tc (l : Link) (gap k : Nat) (start : BitVec 32) (words : List MemWord) : (finishLogRead l gap k start words s).tc = s.tc := rfl
@[simp] theorem finishLogRead_lens (l : Link) (gap k : Nat) (start : BitVec 32) (words : List MemWord) : (finishLogRead l gap k start words s).lens = s.lens := rfl
@[simp] theorem finishLogRead_memory (l : Link) (gap k : Nat) (start : BitVec 32) (words : List MemWord) : (finishLogRead l gap k start words s).memory = s.memory := rfl
@[simp] theorem finishLogRead_tieChoices (l : Link) (gap k : Nat) (start : BitVec 32) (words : List MemWord) : (finishLogRead l gap k start words s).tieChoices = s.tieChoices := rfl

@[simp] theorem readNothing_pending (l : Link) : (readNothing l s).pending = s.pending := rfl
@[simp] theorem readNothing_pins (l : Link) : (readNothing l s).pins = s.pins := rfl
@[simp] theorem readNothing_timing (l : Link) : (readNothing l s).timing = s.timing := rfl
@[simp] theorem readNothing_plan (l : Link) : (readNothing l s).plan = s.plan := rfl
@[simp] theorem readNothing_trig (l : Link) : (readNothing l s).trig = s.trig := rfl
@[simp] theorem readNothing_matcher (l : Link) : (readNothing l s).matcher = s.matcher := rfl
@[simp] theorem readNothing_tc (l : Link) : (readNothing l s).tc = s.tc := rfl
@[simp] theorem readNothing_lens (l : Link) : (readNothing l s).lens = s.lens := rfl
@[simp] theorem readNothing_memory (l : Link) : (readNothing l s).memory = s.memory := rfl
@[simp] theorem readNothing_tieChoices (l : Link) : (readNothing l s).tieChoices = s.tieChoices := rfl

/-- Two states that agree in every field are the same. -/
theorem State.eq_of_fields {s t : State} (h1 : s.pending = t.pending) (h2 : s.pins = t.pins)
    (h3 : s.timing = t.timing) (h4 : s.plan = t.plan) (h5 : s.trig = t.trig) (h6 : s.matcher = t.matcher)
    (h7 : s.tc = t.tc) (h8 : s.log = t.log) (h9 : s.lens = t.lens) (h10 : s.memory = t.memory)
    (h11 : s.links = t.links) (h12 : s.tieChoices = t.tieChoices) : s = t := by
  cases s
  cases t
  simp_all

/-- The target stage touches the Lens Control Unit, its request, and the links alone. -/
theorem nextSegment_frame (cs : List ChannelId) :
    ∃ u q v, nextSegment cs s =
      { s with lens := u, memory := { s.memory with lensRequest := q }, links := v } := by
  induction cs with
  | nil =>
    refine ⟨(completeScan s).lens, s.memory.lensRequest, (completeScan s).links, ?_⟩
    apply State.eq_of_fields <;> simp [nextSegment]
  | cons c rest ih =>
    unfold nextSegment
    split
    · exact ⟨_, _, s.links, rfl⟩
    · exact ih

theorem continueTargets_frame :
    ∃ u q v, continueTargets s =
      { s with lens := u, memory := { s.memory with lensRequest := q }, links := v } := by
  unfold continueTargets
  split
  · exact nextSegment_frame s _
  · exact ⟨s.lens, s.memory.lensRequest, s.links, rfl⟩

end Sys2Proof.Machine
end

