-- ==== Sys2Proof/Laws/Generator.lean ====
section
/-!
SUPPORT. The period generator: its accumulator stays below RATE_NUM of the active rate (R39), whatever a frame draws
and whatever an application changes.
-/

namespace Sys2Proof.Machine

theorem Plan.remainder_lt {p : Plan} (hp : 0 < p.rateNum) : p.remainder < p.rateNum := Nat.mod_lt _ hp

theorem drawAccumulator_acc_lt {p : Plan} {acc : Nat} (hp : 0 < p.rateNum) (h : acc < p.rateNum) :
    (drawAccumulator p acc).acc < p.rateNum := by
  have := Plan.remainder_lt hp
  dsimp only [drawAccumulator]
  split <;> dsimp only <;> omega

/-- No draw takes the accumulator to RATE_NUM (R39, R41, R42). -/
theorem drawPeriod_acc_lt {p : Plan} {acc : Nat} (ramp : Option Ramp) (hp : 0 < p.rateNum) (h : acc < p.rateNum) :
    (drawPeriod p acc ramp).acc < p.rateNum := by
  unfold drawPeriod
  split
  · exact drawAccumulator_acc_lt hp h
  · split
    · exact h
    · exact drawAccumulator_acc_lt hp hp

/-- An application leaves the accumulator below RATE_NUM of the plan it makes active, also where a ramp begins
(R39 to R42, log 36). -/
theorem Timing.restartGenerator_acc_lt {u : PlanUnit} {t : Timing} (atBoundary : Bool)
    (hp : 0 < u.staged.rateNum) (h : t.acc < u.active.rateNum) :
    (t.restartGenerator u atBoundary).acc < u.staged.rateNum := by
  unfold Timing.restartGenerator
  split
  · split <;> exact hp
  · have hr : u.staged.rateNum = u.active.rateNum := by simp_all [rateChanges]
    split
    · exact hp
    · exact hr ▸ h

end Sys2Proof.Machine
end

