-- ==== Sys2Proof/Laws/Replies.lean ====
section
/-!
SUPPORT. What taking a command and answering it do to a link: one law for the hand-over and one for each
form of reply.
-/

namespace Sys2Proof.Machine

/-! ### Status bytes and reply characters -/

theorem statusByte_number (st : Status) (evt ovr : Bool) : (statusByte st evt ovr).extractLsb' 0 6 = st.number := by
  cases st <;> cases evt <;> cases ovr <;> rfl

theorem statusByte_evt (st : Status) (evt ovr : Bool) : (statusByte st evt ovr).getLsbD 6 = evt := by
  cases st <;> cases evt <;> cases ovr <;> rfl

theorem statusByte_ovr (st : Status) (evt ovr : Bool) : (statusByte st evt ovr).getLsbD 7 = ovr := by
  cases st <;> cases evt <;> cases ovr <;> rfl

theorem byteSum_append (xs ys : List Byte) : byteSum (xs ++ ys) = byteSum xs + byteSum ys := by
  induction xs with
  | nil => simp [byteSum]
  | cons x xs ih =>
    simp only [byteSum, List.cons_append, List.foldr_cons] at ih ⊢
    rw [ih, BitVec.add_assoc]

/-- A reply's characters carry its status, marks and data, and its check byte makes the sum 0 (R170, R180). -/
theorem carries_replyCharacters (unit : Byte) (st : Status) (evt ovr : Bool) (data : List Byte) :
    Carries unit st ovr evt data (replyCharacters unit (statusByte st evt ovr) data) := by
  refine ⟨statusByte st evt ovr, 0 - byteSum (statusByte st evt ovr :: BitVec.ofNat 8 data.length :: data), rfl, ?_,
    statusByte_number .., statusByte_evt .., statusByte_ovr ..⟩
  rw [byteSum_append]
  generalize byteSum (statusByte st evt ovr :: BitVec.ofNat 8 data.length :: data) = x
  simp [byteSum]

/-! ### Replies -/

/-- The link after its reply was formed. -/
def LinkState.answered (unit : Byte) (st : Status) (data : List Byte) (evt : Bool) (done : Time) (x : LinkState) :
    LinkState :=
  { x with
    state := .replying
    buffer := []
    timer := none
    tx := replyCharacters unit (statusByte st evt x.ovr) data
    txDone := some done
    ovr := false }

variable (s : State)

theorem replyWith_get_self (l : Link) (st : Status) (data : List Byte) (evt : Bool) :
    (replyWith l st data evt s).links.get l =
      (s.links.get l).answered s.unitCode st data evt
        (later s.now (characterTicks s.pins.rate (data.length + 4))) := by
  simp [replyWith, LinkState.answered]

theorem replyWith_get_ne {l k : Link} (st : Status) (data : List Byte) (evt : Bool) (h : k ≠ l) :
    (replyWith l st data evt s).links.get k = s.links.get k :=
  onLink_get_ne s _ h

theorem reply_get_self (l : Link) (st : Status) (data : List Byte) :
    (reply l st data s).links.get l =
      (s.links.get l).answered s.unitCode st data (s.links.get l).attention
        (later s.now (characterTicks s.pins.rate (data.length + 4))) :=
  replyWith_get_self s l st data _

theorem reply_get_ne {l k : Link} (st : Status) (data : List Byte) (h : k ≠ l) :
    (reply l st data s).links.get k = s.links.get k :=
  onLink_get_ne s _ h

theorem replyDuring_get_ne (b : State) {l k : Link} (st : Status) (data : List Byte) (h : k ≠ l) :
    (replyDuring b l st data s).links.get k = s.links.get k :=
  onLink_get_ne s _ h

@[simp] theorem answered_attention (unit : Byte) (st : Status) (data : List Byte) (evt : Bool) (done : Time)
    (x : LinkState) : (x.answered unit st data evt done).attention = x.attention := rfl

@[simp] theorem answered_events (unit : Byte) (st : Status) (data : List Byte) (evt : Bool) (done : Time)
    (x : LinkState) : (x.answered unit st data evt done).events = x.events := rfl

@[simp] theorem answered_mask (unit : Byte) (st : Status) (data : List Byte) (evt : Bool) (done : Time)
    (x : LinkState) : (x.answered unit st data evt done).mask = x.mask := rfl

/-- A reply formed on `u` answers what was taken in `s`, when the two agree on the straps and on the OVR mark. -/
theorem reply_answered {u s : State} {l : Link} (st : Status) (data : List Byte) (hu : u.unitCode = s.unitCode)
    (ho : (u.links.get l).ovr = (s.links.get l).ovr) : AnsweredEvt l st data s (reply l st data u) := by
  have h := reply_get_self u l st data
  have hc := carries_replyCharacters u.unitCode st (u.links.get l).attention (u.links.get l).ovr data
  refine ⟨by rw [h]; rfl, by rw [h]; rfl, by rw [h]; rfl, ?_⟩
  rw [h, ← hu, ← ho]
  exact hc

/-- `AnsweredEvt` says more than `Answered`. -/
theorem AnsweredEvt.answered {l : Link} {st : Status} {data : List Byte} {s t : State}
    (h : AnsweredEvt l st data s t) : Answered l st data s t :=
  ⟨h.1, h.2.1, h.2.2.1, _, h.2.2.2, fun _ => rfl⟩

/-- A reply formed on `u` during an event that began in `b`, for a command taken in `s`: its EVT bit is open
only where the event changed the attention condition. -/
theorem replyDuring_answered {b u s : State} {l : Link} (st : Status) (data : List Byte)
    (hu : u.unitCode = s.unitCode) (ho : (u.links.get l).ovr = (s.links.get l).ovr)
    (hb : (b.links.get l).attention = (s.links.get l).attention) :
    Answered l st data s (replyDuring b l st data u) := by
  have h := replyWith_get_self u l st data
    (if (b.links.get l).attention = (u.links.get l).attention then (u.links.get l).attention
      else Config.evtDuringEvent u.now.toNat l)
  revert h
  rw [show replyDuring b l st data u = replyWith l st data
    (if (b.links.get l).attention = (u.links.get l).attention then (u.links.get l).attention
      else Config.evtDuringEvent u.now.toNat l) u from rfl]
  generalize hevt : (if (b.links.get l).attention = (u.links.get l).attention then (u.links.get l).attention
    else Config.evtDuringEvent u.now.toNat l) = evt
  intro h
  refine ⟨by rw [h]; rfl, by rw [h]; rfl, by rw [h]; rfl, evt, ?_, ?_⟩
  · rw [h, ← hu, ← ho]
    exact carries_replyCharacters ..
  · rw [h, ← hb, answered_attention]
    intro he
    rw [← hevt, if_pos he]

/-! ### Taking a command -/

/-- Link `l` after its receiver handed a command over (R168, R172). -/
def State.taken (l : Link) (cast : Addressing) (s : State) : State :=
  s.onLink l fun x =>
    { x with
      state := match cast with
        | .unicast => .executing
        | .broadcast => .idle
      addressing := cast
      buffer := []
      timer := none }

variable {s}

/-- A command of a ready link is its owner's part, on the state with the receiver moved on. -/
theorem handOver_ready {l : Link} (h : Ready l s) (cast : Addressing) (owner : State → State) :
    live s (handOver l cast owner) = .next (owner (s.taken l cast)) := by
  simp only [live, h.1, Bool.false_eq_true, if_false, handOver, h.2]
  rfl

@[simp] theorem taken_unitCode (l : Link) (cast : Addressing) : (s.taken l cast).unitCode = s.unitCode := rfl

@[simp] theorem taken_ovr (l : Link) (cast : Addressing) :
    ((s.taken l cast).links.get l).ovr = (s.links.get l).ovr := by
  simp [State.taken]

@[simp] theorem taken_events (l k : Link) (cast : Addressing) :
    ((s.taken l cast).links.get k).events = (s.links.get k).events := by
  cases l <;> cases k <;> rfl

@[simp] theorem taken_mask (l k : Link) (cast : Addressing) :
    ((s.taken l cast).links.get k).mask = (s.links.get k).mask := by
  cases l <;> cases k <;> rfl

@[simp] theorem taken_attention (l k : Link) (cast : Addressing) :
    ((s.taken l cast).links.get k).attention = (s.links.get k).attention := by
  cases l <;> cases k <;> rfl

theorem taken_get_ne {l k : Link} (cast : Addressing) (h : k ≠ l) :
    (s.taken l cast).links.get k = s.links.get k :=
  onLink_get_ne s _ h

/-- A refusal, or any reply that follows no other change, is all that its command does. -/
theorem reply_taken (l : Link) (st : Status) (data : List Byte) :
    AnsweredOnly l st data s (reply l st data (s.taken l .unicast)) := by
  refine ⟨reply_answered st data rfl (taken_ovr l .unicast), ?_, ?_, rfl⟩
  · constructor <;> rw [reply_get_self] <;> simp
  · intro k hk
    rw [reply_get_ne _ st data hk, taken_get_ne .unicast hk]

end Sys2Proof.Machine
end

