-- ==== Sys2Proof/Laws/Growth.lean ====
section
/-!
SUPPORT. Posting only adds: what the parts of a boundary, of a close and of an application do to the links,
and the reply that is formed among such posts.
-/

namespace Sys2Proof.Machine

/-- Between `s` and `t` the links' pending sets grew, and nothing else of any link moved. -/
def Grew (s t : State) : Prop := ∀ l, t.links.get l = { s.links.get l with events := (t.links.get l).events } ∧
   (s.links.get l).events &&& (t.links.get l).events = (s.links.get l).events

theorem Grew.refl (s : State) : Grew s s := fun l => ⟨rfl, by simp⟩
theorem grew_of_links {s t : State} (h : t.links = s.links) : Grew s t := by
  intro l; rw [h]; exact ⟨rfl, by simp⟩
theorem Grew.trans {s t u : State} (h1 : Grew s t) (h2 : Grew t u) : Grew s u := by
  intro l
  obtain ⟨a, b⟩ := h1 l; obtain ⟨c, d⟩ := h2 l
  refine ⟨?_, ?_⟩
  · rw [c]; rw [a]
  · calc _ = ((s.links.get l).events &&& (t.links.get l).events) &&& (u.links.get l).events := by rw [b]
      _ = (s.links.get l).events &&& ((t.links.get l).events &&& (u.links.get l).events) := by rw [BitVec.and_assoc]
      _ = _ := by rw [d, b]
theorem grew_postAll (k : EventKind) (s : State) : Grew s (postAll k s) := by
  intro l; simp; ext i hi; simp; intro h; exact Or.inl h
theorem Grew.att {s t : State} (h : Grew s t) (l : Link) (ha : (s.links.get l).attention = true) : (t.links.get l).attention = true := by
  obtain ⟨a, b⟩ := h l
  simp only [LinkState.attention] at *
  rw [a]; rw [← b] at ha
  simp only [bne_iff_ne, ne_eq] at *
  intro h0; apply ha
  rw [BitVec.and_assoc, h0]; simp

/-- A reply formed in an event that only posts, before and after it, answers as `Answered` says. -/
theorem answered_of_grew {b u s t : State} {l : Link} (st data)
    (hu : u.pins = s.pins) (ho : (u.links.get l).ovr = (s.links.get l).ovr)
    (hb : (b.links.get l).attention = (s.links.get l).attention)
    (hsu : (s.links.get l).attention = true → (u.links.get l).attention = true)
    (ht : Grew (replyDuring b l st data u) t) : Answered l st data s t := by
  have h := replyDuring_answered (b := b) (u := u) (s := s) st data (by simp [State.unitCode, hu]) ho hb
  obtain ⟨h1, h2, h3, evt, h4, h5⟩ := h
  obtain ⟨g1, g2⟩ := ht l
  have hatt := ht.att l
  refine ⟨by rw [g1]; exact h1, by rw [g1]; exact h2, by rw [g1]; exact h3, evt, by rw [g1]; exact h4, ?_⟩
  intro he
  have hru : ((replyDuring b l st data u).links.get l).attention = (u.links.get l).attention := by
    simp [replyDuring, replyWith_get_self]
  rw [hru] at h5 hatt
  by_cases hs : (s.links.get l).attention = true
  · rw [← he, hs]; rw [h5 (by rw [hs, hsu hs])]; exact hsu hs
  · simp at hs
    have : (u.links.get l).attention = false := by
      by_contra hc; simp at hc; have := hatt hc; rw [this, hs] at he; simp at he
    rw [h5 (by rw [hs, this]), this, ← he, hs]

theorem grew_setRef (v : RefState) (s : State) : Grew s (setRef v s) := by
  unfold setRef; split
  · exact .refl _
  · exact (grew_of_links (s := s) rfl).trans (grew_postAll _ _)
theorem grew_recomputeRef (s : State) : Grew s (recomputeRef s) := grew_setRef _ _
theorem grew_settleReference (u) (s : State) : Grew s (settleReference u s) := by
  unfold settleReference; split
  · exact grew_setRef _ _
  · split
    · exact grew_recomputeRef _
    · exact .refl _
theorem grew_applyStaged (b) (s : State) : Grew s (applyStaged b s) := by
  unfold applyStaged
  refine Grew.trans (grew_of_links ?_) (grew_postAll _ _)
  split <;> rfl
theorem grew_judgeEye (x e) (s : State) : Grew s (judgeEye x e s) := by
  unfold judgeEye; dsimp only; split
  · exact (grew_of_links (s := s) rfl).trans (grew_postAll _ _)
  · exact grew_of_links rfl
theorem grew_closeSlot (n) (s : State) : Grew s (closeSlot n s) := by
  unfold closeSlot; split
  · exact .refl _
  · exact (((grew_of_links (s := s) (by rfl)).trans (grew_judgeEye _ _ _)).trans (grew_judgeEye _ _ _)).trans (grew_of_links rfl)
theorem grew_closeIfComplete (n) (s : State) : Grew s (closeIfComplete n s) := by
  unfold closeIfComplete; split
  · exact .refl _
  · split
    · exact grew_closeSlot _ _
    · exact .refl _
theorem grew_forceClosure (s : State) : Grew s (forceClosure s) := by
  unfold forceClosure; split
  · split
    · exact grew_closeSlot _ _
    · exact .refl _
  · exact .refl _
theorem grew_decideSlot (n e o) (s : State) : Grew s (decideSlot n e o s) :=
  (grew_of_links (s := s) (by rfl)).trans (grew_closeIfComplete _ _)
theorem grew_decideTrigger (e) (s : State) : Grew s (decideTrigger e s) := by
  unfold decideTrigger; split
  · exact .refl _
  · dsimp only; split
    · exact (grew_of_links (s := s) (by rfl)).trans (grew_decideSlot _ _ _ _)
    · exact (grew_of_links (s := s) (by simp)).trans (grew_decideSlot _ _ _ _)
theorem grew_boundaryTiming (c) (s : State) : Grew s (boundaryTiming c s) := by
  have h1 : Grew s (beginFrame (applyWaitingCommit (enterBoundary c s))) := by
    refine ((grew_of_links (s := s) (t := enterBoundary c s) rfl).trans ?_).trans (grew_of_links rfl)
    unfold applyWaitingCommit; split
    · exact grew_applyStaged _ _
    · exact .refl _
  unfold boundaryTiming; dsimp only; split
  · exact h1.trans (grew_settleReference _ _)
  · exact h1
theorem grew_boundaryRest (c) (s : State) : Grew s (frameScan (decideTrigger .right (decideTrigger .left (openSlot c (forceClosure s))))) := by
  have h1 : Grew s (openSlot c (forceClosure s)) := (grew_forceClosure s).trans (grew_of_links (by simp))
  have h2 : Grew s (decideTrigger .right (decideTrigger .left (openSlot c (forceClosure s)))) :=
    (h1.trans (grew_decideTrigger _ _)).trans (grew_decideTrigger _ _)
  exact h2.trans (grew_of_links (by simp))

end Sys2Proof.Machine
end

