-- ==== Sys2Proof/Laws/Memory.lean ====
section
/-!
SUPPORT. The laws of Record Memory: every write keeps the canonical form, a read after a write to the same
address gives the word written, and every other address reads as before.
-/

namespace Sys2Proof.Machine

/-- A lower bound of the first listed address. -/
def Memory.above (lo : Option Nat) (a : Nat) : Prop :=
  match lo with
  | none => True
  | some b => b < a

theorem Memory.wfAbove_cons {lo : Option Nat} {k : Nat} {w : MemWord} {m : Memory} :
    Memory.wfAbove lo ((k, w) :: m) = true ↔
      Memory.above lo k ∧ w ≠ 0 ∧ Memory.wfAbove (some k) m = true := by
  cases lo <;> simp [Memory.wfAbove, Memory.above, and_assoc]

theorem Memory.above_trans {lo : Option Nat} {a b : Nat} (h : Memory.above lo a) (hab : a < b) :
    Memory.above lo b := by
  cases lo with
  | none => trivial
  | some c => exact Nat.lt_trans (show c < a from h) hab

/-- A bound may be weakened. -/
theorem Memory.wfAbove_weaken {lo : Option Nat} {a : Nat} (h : Memory.above lo a) :
    ∀ {m : Memory}, Memory.wfAbove (some a) m = true → Memory.wfAbove lo m = true
  | [], _ => rfl
  | (k, w) :: m, hm => by
    rw [Memory.wfAbove_cons] at hm ⊢
    exact ⟨Memory.above_trans h hm.1, hm.2⟩

theorem Memory.wfAbove_link {lo : Option Nat} {a : Nat} {w : MemWord} {m : Memory} (ha : Memory.above lo a)
    (hm : Memory.wfAbove (some a) m = true) : Memory.wfAbove lo (Memory.link a w m) = true := by
  unfold Memory.link
  split
  · exact Memory.wfAbove_weaken ha hm
  · next h => exact Memory.wfAbove_cons.2 ⟨ha, h, hm⟩

theorem Memory.wfAbove_write {w : MemWord} {a : Nat} :
    ∀ {m : Memory} {lo : Option Nat}, Memory.above lo a → Memory.wfAbove lo m = true →
      Memory.wfAbove lo (m.write a w) = true
  | [], _, ha, _ => Memory.wfAbove_link ha rfl
  | (k, v) :: m, lo, ha, hm => by
    have h := Memory.wfAbove_cons.1 hm
    unfold Memory.write
    split
    · next hlt => exact Memory.wfAbove_link ha (Memory.wfAbove_cons.2 ⟨hlt, h.2⟩)
    · next hle =>
      split
      · next he => exact Memory.wfAbove_link ha (he ▸ h.2.2)
      · next hne =>
        exact Memory.wfAbove_cons.2
          ⟨h.1, h.2.1, Memory.wfAbove_write (lo := some k) (show k < a by omega) h.2.2⟩

/-- Every write keeps the canonical form. -/
theorem Memory.wf_write {m : Memory} (a : Nat) (w : MemWord) (h : m.wf = true) : (m.write a w).wf = true :=
  Memory.wfAbove_write trivial h

/-- The reset memory has the canonical form. -/
theorem Memory.wf_reset : State.reset.memory.words.wf = true := rfl

/-- Below its bound a memory reads as unlisted. -/
theorem Memory.read_below {a : Nat} : ∀ {m : Memory} {b : Nat}, a ≤ b → Memory.wfAbove (some b) m = true → m.read a = 0
  | [], _, _, _ => rfl
  | (k, w) :: m, b, hab, hm => by
    have h := Memory.wfAbove_cons.1 hm
    have hk : b < k := h.1
    have hne : k ≠ a := by omega
    simp only [Memory.read, hne, if_false]
    exact Memory.read_below (b := k) (by omega) h.2.2

theorem Memory.read_link_self {a : Nat} {w : MemWord} {m : Memory} (hm : Memory.wfAbove (some a) m = true) :
    (Memory.link a w m).read a = w := by
  unfold Memory.link
  split
  · next h => rw [Memory.read_below (Nat.le_refl a) hm, h]
  · simp [Memory.read]

theorem Memory.read_link_ne {a b : Nat} {w : MemWord} {m : Memory} (h : b ≠ a) :
    (Memory.link a w m).read b = m.read b := by
  unfold Memory.link
  split
  · rfl
  · simp [Memory.read, Ne.symm h]

theorem Memory.read_write_self_above {a : Nat} {w : MemWord} :
    ∀ {m : Memory} {lo : Option Nat}, Memory.wfAbove lo m = true → (m.write a w).read a = w
  | [], _, _ => Memory.read_link_self rfl
  | (k, v) :: m, lo, hm => by
    have h := Memory.wfAbove_cons.1 hm
    unfold Memory.write
    split
    · next hlt => exact Memory.read_link_self (Memory.wfAbove_cons.2 ⟨hlt, h.2⟩)
    · next hle =>
      split
      · next he => exact Memory.read_link_self (he ▸ h.2.2)
      · next hne =>
        simp only [Memory.read, hne, if_false]
        exact Memory.read_write_self_above h.2.2

/-- A read after a write to the same address gives the word written. -/
theorem Memory.read_write_self {m : Memory} (a : Nat) (w : MemWord) (h : m.wf = true) : (m.write a w).read a = w :=
  Memory.read_write_self_above h

/-- A write leaves every other address alone. -/
theorem Memory.read_write_ne {a b : Nat} {w : MemWord} (hb : b ≠ a) :
    ∀ m : Memory, (m.write a w).read b = m.read b
  | [] => Memory.read_link_ne hb
  | (k, v) :: m => by
    unfold Memory.write
    split
    · exact Memory.read_link_ne hb
    · split
      · next he =>
        rw [Memory.read_link_ne hb]
        simp [Memory.read, he, Ne.symm hb]
      · simp only [Memory.read]
        split
        · rfl
        · exact Memory.read_write_ne hb m

/-- A word written as R151 says passes its check. -/
theorem passes_withParity : ∀ d : BitVec 16, passes (withParity d) = true := by
  intro d
  have hdata : ∀ i, i < 16 → (withParity d).getLsbD i = d.getLsbD i := by
    intro i hi
    simp only [withParity]
    split
    · interval_cases i <;> simp
    · simp [hi, show i < 17 by omega]
  have htop : (withParity d).getLsbD 16 = oddOnes (d.setWidth 17) := by
    simp only [withParity]
    split <;> simp_all
  unfold passes
  simp only [oddOnes, List.range, List.range.loop, List.foldl, hdata, htop, Nat.reduceLT, Bool.false_xor]
  simp

/-- The data bits written are the data bits read. -/
theorem wordData_withParity (d : BitVec 16) : wordData (withParity d) = d := by
  unfold wordData withParity
  apply BitVec.eq_of_getLsbD_eq
  intro i hi
  simp only
  split <;> simp [hi]

end Sys2Proof.Machine
end

