-- ==== Sys2Proof/Laws/PerInstr.lean ====
section
/-!
SUPPORT. Statements made for every constructor of `Instr`, by one lemma each.

`MessageForm`: the message that spells a well-formed command has a code R182 names, as many argument bytes as that
code accepts, and is a unicast one unless its command may be broadcast (R172, R182).
-/

namespace Sys2Proof.Laws

theorem split16_length (w : BitVec 16) : (split16 w).length = 2 := rfl

theorem split32_length (w : BitVec 32) : (split32 w).length = 4 := rfl

/-- The bytes of `n` breakpoints are 4 times `n` (R115). -/
theorem flatten_points_length (points : List (BitVec 16 × BitVec 16)) :
    (points.map fun p => split16 p.1 ++ split16 p.2).flatten.length = 4 * points.length := by
  induction points with
  | nil => rfl
  | cons p ps ih =>
    simp only [List.map_cons, List.flatten_cons, List.length_append, List.length_cons, split16_length, ih]
    omega

namespace MessageForm

/-- The form of the message that spells `i`. -/
def Statement (i : Instr) : Prop :=
  i.wellFormed = true → ∀ m, i.message = some m →
    (∃ ls, Machine.acceptedLengths m.code = some ls ∧ m.args.length ∈ ls) ∧
      (m.cast = .broadcast → i.broadcasts = true)

theorem pinReset : Statement .pinReset := by
  intro _ m h; cases h

theorem resetRelease (sel : BitVec 4) (rate : BitVec 2) : Statement (.resetRelease sel rate) := by
  intro _ m h; cases h

theorem receiveCharacter (l : Link) (ch : BitVec 9) (framingError : Bool) : Statement (.receiveCharacter l ch framingError) := by
  intro _ m h; cases h

theorem messageReceived (l : Link) (check : Byte) : Statement (.messageReceived l check) := by
  intro _ m h; cases h

theorem interCharacterTimeout (l : Link) : Statement (.interCharacterTimeout l) := by
  intro _ m h; cases h

theorem replySent (l : Link) : Statement (.replySent l) := by
  intro _ m h; cases h

theorem run (l : Link) (cast : Addressing) (start : Option (BitVec 32)) : Statement (.run l cast start) := by
  intro _ m h
  cases start with
  | none => cases h; exact ⟨⟨[0, 4], rfl, by simp⟩, fun _ => rfl⟩
  | some n => cases h; exact ⟨⟨[0, 4], rfl, by simp [split32]⟩, fun _ => rfl⟩

theorem stop (l : Link) (cast : Addressing) : Statement (.stop l cast) := by
  intro _ m h
  cases h
  exact ⟨⟨[0], rfl, by simp⟩, fun _ => rfl⟩

theorem restart (l : Link) (cast : Addressing) : Statement (.restart l cast) := by
  intro _ m h
  cases h
  exact ⟨⟨[0], rfl, by simp⟩, fun _ => rfl⟩

theorem timingStatus (l : Link) : Statement (.timingStatus l) := by
  intro _ m h
  cases h
  exact ⟨⟨[0], rfl, by simp⟩, fun h => by cases h⟩

theorem planSet (l : Link) (field : Byte) (value : BitVec 32) : Statement (.planSet l field value) := by
  intro _ m h
  cases h
  exact ⟨⟨[5], rfl, by simp [split32]⟩, fun h => by cases h⟩

theorem planCommit (l : Link) : Statement (.planCommit l) := by
  intro _ m h
  cases h
  exact ⟨⟨[0], rfl, by simp⟩, fun h => by cases h⟩

theorem planDiscard (l : Link) : Statement (.planDiscard l) := by
  intro _ m h
  cases h
  exact ⟨⟨[0], rfl, by simp⟩, fun h => by cases h⟩

theorem planGet (l : Link) (which : Byte) : Statement (.planGet l which) := by
  intro _ m h
  cases h
  exact ⟨⟨[1], rfl, by simp⟩, fun h => by cases h⟩

theorem planEditLapse : Statement .planEditLapse := by
  intro _ m h; cases h

theorem planApply : Statement .planApply := by
  intro _ m h; cases h

theorem pairStatus (l : Link) : Statement (.pairStatus l) := by
  intro _ m h
  cases h
  exact ⟨⟨[0], rfl, by simp⟩, fun h => by cases h⟩

theorem tcSet (l : Link) (cast : Addressing) (value : Timecode) (base : Byte) (drop : Byte) : Statement (.tcSet l cast value base drop) := by
  intro _ m h
  cases h
  exact ⟨⟨[6], rfl, by simp⟩, fun _ => rfl⟩

theorem tcGet (l : Link) : Statement (.tcGet l) := by
  intro _ m h
  cases h
  exact ⟨⟨[0], rfl, by simp⟩, fun h => by cases h⟩

theorem timecodePendingApply : Statement .timecodePendingApply := by
  intro _ m h; cases h

theorem logAttach (l : Link) : Statement (.logAttach l) := by
  intro _ m h
  cases h
  exact ⟨⟨[0], rfl, by simp⟩, fun h => by cases h⟩

theorem logDetach (l : Link) : Statement (.logDetach l) := by
  intro _ m h
  cases h
  exact ⟨⟨[0], rfl, by simp⟩, fun h => by cases h⟩

theorem logRead (l : Link) (maximum : Byte) : Statement (.logRead l maximum) := by
  intro _ m h
  cases h
  exact ⟨⟨[1], rfl, by simp⟩, fun h => by cases h⟩

theorem logStatus (l : Link) : Statement (.logStatus l) := by
  intro _ m h
  cases h
  exact ⟨⟨[0], rfl, by simp⟩, fun h => by cases h⟩

theorem eventMask (l : Link) (mask : BitVec 16) : Statement (.eventMask l mask) := by
  intro _ m h
  cases h
  exact ⟨⟨[2], rfl, by simp [split16]⟩, fun h => by cases h⟩

theorem eventRead (l : Link) : Statement (.eventRead l) := by
  intro _ m h
  cases h
  exact ⟨⟨[0], rfl, by simp⟩, fun h => by cases h⟩

theorem identify (l : Link) : Statement (.identify l) := by
  intro _ m h
  cases h
  exact ⟨⟨[0], rfl, by simp⟩, fun h => by cases h⟩

theorem tableBegin (l : Link) (eye : Byte) (axis : Byte) : Statement (.tableBegin l eye axis) := by
  intro _ m h
  cases h
  exact ⟨⟨[2], rfl, by simp⟩, fun h => by cases h⟩

theorem tableEntry (l : Link) (eye : Byte) (axis : Byte) (first : Byte) (points : List (BitVec 16 × BitVec 16)) : Statement (.tableEntry l eye axis first points) := by
  intro hw m h
  cases h
  refine ⟨⟨[7, 11, 15, 19], rfl, ?_⟩, fun h => by cases h⟩
  have hn : 1 ≤ points.length ∧ points.length ≤ 4 := by simpa [Instr.wellFormed] using hw
  simp only [List.length_cons, flatten_points_length, List.mem_cons, List.not_mem_nil, or_false]
  omega

theorem tableEnd (l : Link) (eye : Byte) (axis : Byte) : Statement (.tableEnd l eye axis) := by
  intro _ m h
  cases h
  exact ⟨⟨[2], rfl, by simp⟩, fun h => by cases h⟩

theorem tableAbort (l : Link) (eye : Byte) (axis : Byte) : Statement (.tableAbort l eye axis) := by
  intro _ m h
  cases h
  exact ⟨⟨[2], rfl, by simp⟩, fun h => by cases h⟩

theorem tableRead (l : Link) (eye : Byte) (axis : Byte) (index : Byte) : Statement (.tableRead l eye axis index) := by
  intro _ m h
  cases h
  exact ⟨⟨[3], rfl, by simp⟩, fun h => by cases h⟩

theorem tableLapse (eye : Eye) (axis : Axis) : Statement (.tableLapse eye axis) := by
  intro _ m h; cases h

theorem lensSource (l : Link) (axis : Byte) (source : Byte) : Statement (.lensSource l axis source) := by
  intro _ m h
  cases h
  exact ⟨⟨[2], rfl, by simp⟩, fun h => by cases h⟩

theorem lensDemand (l : Link) (axis : Byte) (value : BitVec 16) : Statement (.lensDemand l axis value) := by
  intro _ m h
  cases h
  exact ⟨⟨[3], rfl, by simp [split16]⟩, fun h => by cases h⟩

theorem lensTrim (l : Link) (eye : Byte) (axis : Byte) (trim : BitVec 16) : Statement (.lensTrim l eye axis trim) := by
  intro _ m h
  cases h
  exact ⟨⟨[4], rfl, by simp [split16]⟩, fun h => by cases h⟩

theorem lensTol (l : Link) (axis : Byte) (tolerance : BitVec 16) (settle : Byte) : Statement (.lensTol l axis tolerance settle) := by
  intro _ m h
  cases h
  exact ⟨⟨[4], rfl, by simp [split16]⟩, fun h => by cases h⟩

theorem lensDrive (l : Link) (eye : Byte) (axis : Byte) (drive : Byte) : Statement (.lensDrive l eye axis drive) := by
  intro _ m h
  cases h
  exact ⟨⟨[3], rfl, by simp⟩, fun h => by cases h⟩

theorem lensRun (l : Link) (mode : Byte) : Statement (.lensRun l mode) := by
  intro _ m h
  cases h
  exact ⟨⟨[1], rfl, by simp⟩, fun h => by cases h⟩

theorem lensStatus (l : Link) : Statement (.lensStatus l) := by
  intro _ m h
  cases h
  exact ⟨⟨[0], rfl, by simp⟩, fun h => by cases h⟩

theorem scheduleBoundary : Statement .scheduleBoundary := by
  intro _ m h; cases h

theorem refPulse (r : RefId) : Statement (.refPulse r) := by
  intro _ m h; cases h

theorem refAbsenceExpiry (r : RefId) : Statement (.refAbsenceExpiry r) := by
  intro _ m h; cases h

theorem returnEdge (e : Eye) : Statement (.returnEdge e) := by
  intro _ m h; cases h

theorem leftReturnLapse : Statement .leftReturnLapse := by
  intro _ m h; cases h

theorem triggerDecision (e : Eye) : Statement (.triggerDecision e) := by
  intro _ m h; cases h

theorem triggerPulseEnd (e : Eye) : Statement (.triggerPulseEnd e) := by
  intro _ m h; cases h

theorem synthReturn (e : Eye) : Statement (.synthReturn e) := by
  intro _ m h; cases h

theorem slotDeadline (number : BitVec 32) : Statement (.slotDeadline number) := by
  intro _ m h; cases h

theorem reachStopped : Statement .reachStopped := by
  intro _ m h; cases h

theorem arbiterGrant : Statement .arbiterGrant := by
  intro _ m h; cases h

theorem burstEnd : Statement .burstEnd := by
  intro _ m h; cases h

theorem scanDue : Statement .scanDue := by
  intro _ m h; cases h

theorem conversionsDone (codes : Conversions) : Statement (.conversionsDone codes) := by
  intro _ m h; cases h

end MessageForm

end Sys2Proof.Laws
end

