-- ==== Sys2Proof/Laws/Records.lean ====
section
/-!
SUPPORT. What a pair record holds and how its bytes lie: the value of a field's bytes, the record of a slot, the
carried form, and a slot's deadline.
-/

namespace Sys2Proof.Machine

/-- A number written most significant byte first reads as itself, modulo the width of its field. -/
theorem bigEndian_bytesOf (n v : Nat) : bigEndian (bytesOf n v) = v % 256 ^ n := by
  have run (n v acc : Nat) :
      (bytesOf n v).foldl (fun w b => 256 * w + b.toNat) acc = acc * 256 ^ n + v % 256 ^ n := by
    induction n generalizing acc with
    | zero => simp [bytesOf, Nat.mod_one]
    | succ n ih =>
      have := Nat.mod_mul (x := v) (a := 256 ^ n) (b := 256)
      simp only [bytesOf, List.foldl_cons, ih, BitVec.toNat_ofNat, pow_succ]
      rw [this]
      norm_num
      ring
  simpa [bigEndian] using run n v 0

@[simp] theorem length_bytesOf (n v : Nat) : (bytesOf n v).length = n := by
  induction n with
  | zero => rfl
  | succ n ih => simp [bytesOf, ih]

@[simp] theorem length_signedBytes (n : Nat) (v : Int) : (signedBytes n v).length = n := by simp [signedBytes]

/-- A stored record fills its place (R184). -/
@[simp] theorem PairRecord.length_bytes (r : PairRecord) : r.bytes.length = 38 := by
  simp [PairRecord.bytes, timecodeBytes, AxisSnapshot.bytes]

theorem saturate_eq (lo hi v : Int) (h : lo ≤ hi) : saturate lo hi v = max lo (min hi v) := by
  unfold saturate
  split
  · omega
  · split <;> omega

/-- A record built at a release holds its slot's items (R80). -/
theorem recordOf_record (x : Slot) : RecordOf x x.record := by
  refine ⟨fun o h => by simp [Slot.record, h], rfl, rfl, rfl, rfl, rfl, rfl, rfl, rfl, rfl, rfl, rfl, rfl, ?_, ?_,
    fun _ => rfl⟩
  · intro tl rl tr rr ht hr
    simp only [Slot.record, Slot.skew, ht, hr, returnDelay, Option.getD_some]
    rw [saturate_eq _ _ _ (by decide)]
  · rintro (h | h) <;> cases hl : x.returned.left <;> simp_all [Slot.record]

/-- The deadline a slot forms is the one of R72. -/
theorem deadlineOf_formDeadline (x : Slot) : DeadlineOf x x.formDeadline := by
  refine ⟨max (x.triggerOffset .left) (x.triggerOffset .right), rfl, ?_, ?_⟩
  · intro e v hv
    have : since x.start v ≤ x.triggerOffset e := by
      rcases List.mem_append.1 hv with h | h
      · simp [Slot.triggerOffset, Option.mem_toList.1 h, Slot.offsetOf]
      · simp [Slot.triggerOffset, Option.mem_toList.1 h, Slot.offsetOf]
    cases e
    · exact this.trans (le_max_left _ _)
    · exact this.trans (le_max_right _ _)
  · have pick (e : Eye) : x.triggerOffset e = 0 ∨
        ∃ v ∈ (x.trigger.get e).toList ++ (x.armed.get e).toList, x.triggerOffset e = since x.start v := by
      cases h : x.trigger.get e <;> cases g : x.armed.get e <;> simp [Slot.triggerOffset, Slot.offsetOf, h, g]
      rename_i a b
      rcases le_total (since x.start a) (since x.start b) with q | q <;> simp [q]
    rcases le_total (x.triggerOffset .left) (x.triggerOffset .right) with q | q
    · rw [max_eq_right q]
      exact (pick .right).imp id fun h => ⟨_, h⟩
    · rw [max_eq_left q]
      exact (pick .left).imp id fun h => ⟨_, h⟩

/-- A record is carried as R185 lays it out. -/
theorem carriedAs_carriedRecord (words : List MemWord) : CarriedAs words (carriedRecord words) := by
  constructor
  · rintro ⟨w, hw, hp⟩
    have : words.all passes = false := by simpa using ⟨w, hw, hp⟩
    simp [carriedRecord, this, corruptCode]
  · intro hp stored flags hs hf left right hl hr
    have hall : words.all passes = true := by simpa using hp
    have hst : (words.map fun w => wordBytes (wordData w)).flatten = stored := by
      rw [hs, List.flatMap_def]
      refine congrArg List.flatten (List.map_congr_left fun w _ => ?_)
      have (i : Nat) (h : i + 8 ≤ 16) : (w.setWidth 16).extractLsb' i 8 = w.extractLsb' i 8 := by
        ext j hj
        simp
        omega
      simp [wordBytes, wordData, this]
    have hform : carriedRecord words = carriedForm stored := by simp [carriedRecord, hall, hst]
    have hbit (k : Nat) : (stored.getD 1 0).getLsbD k = flags.any (·.getLsbD k) := by
      rw [hf]
      rcases stored with _ | ⟨a, _ | ⟨b, _⟩⟩ <;> simp [bytesAt]
    have hlen (h : words.length = 19) : stored.length = 38 := by
      simp [hs, List.length_flatMap, h]
    rw [hform, carriedForm, hbit, hbit, ← hl, ← hr]
    refine ⟨?_, fun h => ?_⟩
    · cases left <;> cases right <;> simp [bytesAt]
    · have := hlen h
      cases left <;> cases right <;> simp [this]

end Sys2Proof.Machine
end

