-- ==== Sys2Proof/Tests/Slice0.lean ====
section
/-!
SUPPORT. Tests. The first part takes its expected results from the worked cases of spec/ (the rule is named at each
test). The second part shows, for every statement with hypotheses, concrete states and operands that meet the
hypotheses of each of its clauses.
-/

namespace Sys2Proof.Tests

open Sys2Proof.Machine

/-! ### Well-formedness and messages -/

/-- R182: no length of TABLE_ENTRY carries 0 or 5 breakpoints. -/
theorem test_table_entry_needs_one_to_four_points :
    (Instr.tableEntry .a 0 0 0 []).wellFormed = false ∧
      (Instr.tableEntry .a 0 0 0 (List.replicate 5 (0, 0))).wellFormed = false ∧
      (Instr.tableEntry .a 0 0 0 (List.replicate 4 (0, 0))).wellFormed = true := by
  decide

/-- R167 and 11_message_and_record_formats.md: 30H, length 2, 01H, FFH is EVENT_MASK 01FFH with check byte CEH. -/
theorem test_event_mask_message :
    parseMessage .a .unicast 0x30 [0x01, 0xFF] = .command (.eventMask .a 0x01FF) ∧
      byteSum [0x30, 0x02, 0x01, 0xFF] + 0xCE = 0 := by
  decide

/-- R182: one message of each group of the command table, written out byte by byte. -/
theorem test_messages_of_every_group :
    parseMessage .b .broadcast 0x10 [0, 0, 1, 2] = .command (.run .b .broadcast (some 258)) ∧
      parseMessage .b .unicast 0x11 [] = .command (.stop .b .unicast) ∧
      parseMessage .a .unicast 0x18 [14, 0xFF, 0xFF, 0xFC, 0x18] = .command (.planSet .a 14 0xFFFFFC18#32) ∧
      parseMessage .a .unicast 0x24 [0x23, 0x59, 0x58, 0x29, 30, 1] =
        .command (.tcSet .a .unicast ⟨0x23, 0x59, 0x58, 0x29⟩ 30 1) ∧
      parseMessage .c .unicast 0x2A [4] = .command (.logRead .c 4) ∧
      parseMessage .c .unicast 0x39 [1, 2, 0, 0x4E, 0x20, 0x04, 0x4C] =
        .command (.tableEntry .c 1 2 0 [(20000, 1100)]) ∧
      parseMessage .c .unicast 0x42 [0, 1, 0xF8, 0x00] = .command (.lensTrim .c 0 1 0xF800#16) ∧
      parseMessage .c .unicast 0x43 [2, 0x00, 0x40, 50] = .command (.lensTol .c 2 64 50) := by
  decide

/-- R168: a code of no row, and lengths of no row. -/
theorem test_bad_messages :
    parseMessage .a .unicast 0x14 [] = .badCode ∧ parseMessage .a .unicast 0x10 [0] = .badLength ∧
      parseMessage .a .unicast 0x39 [0, 0, 0, 1, 2, 3] = .badLength := by
  decide

/-! ### Worked cases of the spec -/

/-- The mirror rig of 2.7. -/
def mirrorRig : Plan :=
  { Plan.pinReset with dirR := .up, readoutL := 150000, readoutR := 150000, alignLine := 300 }

/-- R46: the worked cases of the eye offset, ties toward plus infinity among them. -/
theorem test_eye_offset :
    mirrorRig.eyeOffset = -60000 ∧
      { Plan.pinReset with readoutL := 150000, readoutR := 140000 }.eyeOffset = 5000 ∧
      { Plan.pinReset with readoutL := 150001, readoutR := 150000 }.eyeOffset = 1 ∧
      { Plan.pinReset with readoutL := 150000, readoutR := 150001 }.eyeOffset = 0 := by
  decide

/-- Periods drawn one after another from the accumulator `acc` and the ramp state `ramp`. -/
def periods (p : Plan) : Nat → Nat → Option Ramp → List Nat
  | 0, _, _ => []
  | n + 1, acc, ramp =>
    let d := drawPeriod p acc ramp
    d.period :: periods p n d.acc d.ramp

/-- R39: the worked cases of 24000/1001 and 24000/1000. -/
theorem test_accumulator_periods :
    periods { Plan.pinReset with rateDen := 1001 } 6 0 none =
        [417083, 417083, 417084, 417083, 417083, 417084] ∧
      periods Plan.pinReset 4 0 none = [416666, 416667, 416667, 416666] := by
  decide

/-- The ramp of the worked case of 2.5. -/
def rampUp (hold : RampHold) : Ramp := ⟨4, 416667, 208333, hold, 208334, 0⟩

/-- R41, R42: the ramp from 24 to 48 frames per second, and the three frames after it. -/
theorem test_ramp_periods :
    periods { Plan.pinReset with rateNum := 48000 } 7 0 (some (rampUp .angle)) =
      [364584, 312500, 260417, 208333, 208333, 208333, 208334] := by
  decide

/-- R44, R45: the exposures of the ramp's first frame, held on ANGLE and on TIME, and the clamps of a wide shutter
and of a very short exposure. -/
theorem test_exposures :
    (frameOf { Plan.pinReset with rateNum := 48000 } 0 0
        (drawPeriod { Plan.pinReset with rateNum := 48000 } 0 (some (rampUp .angle)))).exposure = 182292 ∧
      (frameOf { Plan.pinReset with rateNum := 48000 } 0 0
        (drawPeriod { Plan.pinReset with rateNum := 48000 } 0 (some (rampUp .time)))).exposure = 208334 ∧
      (frameOf { Plan.pinReset with angle := 3600 } 0 0 (drawAccumulator Plan.pinReset 0)).exposure = 415666 ∧
      (frameOf { Plan.pinReset with rateNum := 240000, angle := 1 } 0 0
        (drawAccumulator { Plan.pinReset with rateNum := 240000, angle := 1 } 0)).exposure = 20 := by
  decide

/-- R85: rows of the table of legal values. -/
theorem test_legal_timecodes :
    legalTimecode ⟨0, 1, 0, 1⟩ 30 true = false ∧ legalTimecode ⟨0, 1, 0, 2⟩ 30 true = true ∧
      legalTimecode ⟨0, 0x10, 0, 0⟩ 30 true = true ∧ legalTimecode ⟨0, 1, 0, 3⟩ 60 true = false ∧
      legalTimecode ⟨0, 0, 0, 0x24⟩ 24 false = false ∧ legalTimecode ⟨0x24, 0, 0, 0⟩ 24 false = false ∧
      legalTimecode ⟨0, 0, 0, 0⟩ 25 true = false ∧ legalTimecode ⟨0, 0x3A, 0, 0⟩ 24 false = false := by
  decide

/-- R86, R87: rows of the table of worked increments. -/
theorem test_timecode_increments :
    nextTimecode ⟨0, 0, 0, 9⟩ 24 false = ⟨0, 0, 0, 0x10⟩ ∧
      nextTimecode ⟨9, 0x59, 0x59, 0x23⟩ 24 false = ⟨0x10, 0, 0, 0⟩ ∧
      nextTimecode ⟨0x23, 0x59, 0x59, 0x23⟩ 24 false = ⟨0, 0, 0, 0⟩ ∧
      nextTimecode ⟨0, 0, 0x59, 0x29⟩ 30 true = ⟨0, 1, 0, 2⟩ ∧
      nextTimecode ⟨0, 9, 0x59, 0x29⟩ 30 true = ⟨0, 0x10, 0, 0⟩ ∧
      nextTimecode ⟨0, 2, 0x59, 0x59⟩ 60 true = ⟨0, 3, 0, 4⟩ ∧
      nextTimecode ⟨0, 2, 0x59, 0x59⟩ 60 false = ⟨0, 3, 0, 0⟩ := by
  decide

/-- R123, R124: rows of the two tables of worked interpolations. -/
theorem test_interpolation :
    targetOf (baseCode 20000 1100 45000 2900 31234) 12 = ⟨1921, false⟩ ∧
      baseCode 20000 1100 45000 2900 44999 = 2900 ∧
      targetOf (baseCode 0 300 20000 1100 1000) (-500) = ⟨0, true⟩ ∧
      targetOf (baseCode 45000 2900 65535 3800 65535) 400 = ⟨4095, true⟩ ∧
      baseCode 1000 3000 2000 2995 500 = 3000 ∧ baseCode 1000 3000 2000 2995 1100 = 3000 ∧
      baseCode 1000 3000 2000 2995 1300 = 2999 ∧ baseCode 2000 2995 3000 2990 2500 = 2993 := by
  decide

/-- The rising table of R122's example. -/
def rising : Table :=
  ⟨.valid, 4, none, none, [0, 20000, 45000, 65535] ++ List.replicate 28 0⟩

/-- R122: the segments of the example, at both ends of each range. -/
theorem test_segments :
    [0, 19999, 20000, 44999, 45000, 65535].map rising.segment = [0, 0, 1, 1, 2, 2] := by
  decide

/-- R167: a carried delay wraps with the 32-bit timestamp (worked cases of 2.8). -/
theorem test_delay_wraps : returnDelay 0xFFFF0000 0x100020000 = 196608 := by decide

/-- An open slot of the mirror rig at `b`, with these returns. -/
def rigSlot (b l r : Time) : Slot where
  number := 1
  start := b
  generation := 0
  period := 416666
  exposure := 208333
  skewTol := 100
  trigger := ⟨some (b + 60000), some b⟩
  armed := ⟨none, none⟩
  issued := ⟨true, true⟩
  returned := ⟨some l, some r⟩
  deadline := b + 476666
  isRamp := false
  expClamp := false
  offsetClamp := false
  snapshot := ⟨⟨0, .unchecked⟩, ⟨0, .unchecked⟩, ⟨0, .unchecked⟩⟩
  stamp := ⟨0, 0, 0, 0⟩
  dropMark := false
  refState := .free
  followLeft := false
  status := .collecting
  outcome := none

/-- R47, R78: the worked cases of the skew. -/
theorem test_skew_outcomes :
    (rigSlot 7 268607 208527).skew = some (-80) ∧ (rigSlot 7 268607 208527).judged = .paired ∧
      (rigSlot 7 268607 208807).judged = .skewed ∧ (rigSlot 7 268607 208707).judged = .paired := by
  decide

/-- R72: the deadline of the mirror rig is b + 60,000 + P. -/
theorem test_deadline : (rigSlot 7 0 0).formDeadline = 7 + 60000 + 416666 := by decide

/-- The record of the worked example of chapter 11: LEFT_ONLY, slot 702. -/
def lateRecord : PairRecord where
  outcome := .leftOnly
  isRamp := false
  expClamp := false
  offsetClamp := false
  number := 702
  stamp := ⟨1, 0, 0x29, 6⟩
  dropMark := false
  generation := 3
  refState := .free
  period := 416667
  exposure := 208334
  leftReturn := some 1041733
  rightReturn := none
  skew := none
  lens := ⟨⟨31255, .matched⟩, ⟨0, .unchecked⟩, ⟨0, .unchecked⟩⟩

/-- R184, R185: the late right frame is stored in 19 words and carried in these 31 bytes. -/
theorem test_late_record_carried :
    lateRecord.words.length = 19 ∧ carriedForm lateRecord.bytes =
      [0x02, 0x10] ++ bytesOf 4 702 ++ [1, 0, 0x29, 6, 3, 0] ++ bytesOf 3 416667 ++ bytesOf 3 208334 ++
        bytesOf 4 1041733 ++ [1] ++ bytesOf 2 31255 ++ [0, 0, 0, 0, 0, 0] := by
  decide

/-- R184: the stored bytes of the late right frame, item by item, and its first word. -/
theorem test_late_record_stored : StoredAs lateRecord lateRecord.bytes ∧ RecordWord lateRecord 0 0x0210 := by
  have h : StoredAs lateRecord lateRecord.bytes := by
    refine ⟨by decide, by decide, ?_, by decide, by decide, by decide, by decide, by decide, by decide, by decide,
      by decide, by decide, ?_⟩
    · intro flags hf
      obtain rfl : 0x10 = flags := Option.some.inj (Eq.trans (by decide) hf)
      decide
    · intro i x hi
      have : i < 3 := (List.getElem?_eq_some_iff.1 hi).1
      obtain rfl | rfl | rfl : i = 0 ∨ i = 1 ∨ i = 2 := by omega
      all_goals
        obtain rfl := Option.some.inj hi
        decide
  exact ⟨h, _, h, by decide, by decide⟩

/-- R58: the synthesised delays of the loop table. -/
theorem test_synthesised_delays :
    synthDelay .left 120 = 50 ∧ synthDelay .right 120 = 170 ∧ synthDelay .right (-80) = 0 ∧
      synthDelay .right (-1000) = 0 := by
  decide

/-- R151, R152: 0001H is stored with its parity bit, and a changed bit fails the check. -/
theorem test_parity : withParity 1 = 0x10001 ∧ passes 0x10001 = true ∧ passes 0x00001 = false := by decide

/-- R130: the demands of the wheel codes 0, 2048 and 4095. -/
theorem test_wheel_demands : [0, 2048, 4095].map wheelDemand = [0, 32776, 65535] := by decide

/-! ### Witnesses: the states of the hypotheses -/

/-- The part after reset and its sweep: the memory FREE, nothing waiting. -/
def quiet : State := { State.reset with memory := { State.reset.memory with port := none } }

/-- `quiet` with RESET# asserted. -/
def held : State := { quiet with pins := ⟨true, 0, 0⟩ }

def quietTiming (f : Timing → Timing) : State := { quiet with timing := f quiet.timing }

def quietPlan (f : PlanUnit → PlanUnit) : State := { quiet with plan := f quiet.plan }

def quietLens (f : LensUnit → LensUnit) : State := { quiet with lens := f quiet.lens }

def quietMemory (f : RecordMemory → RecordMemory) : State := { quiet with memory := f quiet.memory }

/-- `quiet` with link A changed. -/
def quietLink (f : LinkState → LinkState) : State := quiet.onLink .a f

/-- The frame of a run of the plan after reset that began at 0. -/
def firstFrame : Frame := ⟨0, 0, 416666, 208333, 0, false, false, false⟩

/-- A run in its first frame, at this instant, with N at its end, no slot and nothing armed. -/
def rolling (now : Time) : State :=
  quietTiming fun t =>
    { t with timebase := now, run := .running, next := some 416666, frame := some firstFrame, pairNumber := 1,
             runStart := some 0 }

/-- `rolling` under a reference mode, in a reference state. -/
def rollingUnder (m : RefMode) (r : RefState) (now : Time) : State :=
  { rolling now with
    timing := { (rolling now).timing with refState := r }
    plan := { quiet.plan with active := { Plan.pinReset with refMode := m } } }

/-- A drain with nothing left in flight. -/
def drainedPart : State := quietTiming fun t => { t with run := .draining, next := some 9, frame := some firstFrame }

/-- Both inputs in this state, last pulsed at 0, their deadline at 833,332. -/
def bothInputs (st : InputState) (count : Nat) : PerRef RefInput :=
  PerRef.build fun _ => ⟨st, count, some 0, some 833332⟩

/-- LOCKED_A at this instant with REFA GOOD, in a re-phase or not. -/
def lockedRun (step : Option RephaseStep) (now : Time) : State :=
  let s := rollingUnder .external .lockedA now
  { s with timing := { s.timing with inputs := bothInputs .good 8, rephase := step } }

/-- `quiet` with this burst under way, of which `left` words are still to come. -/
def bursting (h : Holder) (length left : Nat) (got : List MemWord) : State :=
  quietMemory fun m => { m with port := some ⟨h, length, left, got⟩ }

def leftFocus : ChannelId := ⟨.left, .focus⟩

/-- `quiet` with the L-FOCUS table replaced. -/
def quietTable (t : Table) : State := quietLens fun u => { u with tables := channelSet u.tables leftFocus t }

/-- A table LOADING for link A with these demands, its timer to expire at 0. -/
def loadingTable (n : Nat) (ds : List (BitVec 16)) : Table := ⟨.loading, n, some .a, some 0, ds⟩

/-- An open slot with nothing issued and nothing armed. -/
def emptySlot (n : BitVec 32) : Slot :=
  { rigSlot 0 0 0 with
    number := n, trigger := ⟨none, none⟩, issued := ⟨false, false⟩, returned := ⟨none, none⟩, deadline := 416666 }

/-- A run at this instant with these slots. -/
def rollingWith (slots : List Slot) (now : Time) : State :=
  { rolling now with matcher := { quiet.matcher with slots := slots } }

/-! ### Witnesses: the step and the two resets -/

/-- No event of the part's own is due where the part finds none. -/
theorem noneDue {s : State} (h : dueEvents s = []) (i : Instr) : ¬ EventDue s i := by
  simp [← mem_dueEvents, h]

/-- An event due; none due and a request waiting; none due, no request and a conversion that ends with the next tick,
and with a later one. -/
theorem test_witness_idle :
    ((rolling 416666).pending = [] ∧ (rolling 416666).pins.resetAsserted = false ∧
        EventDue (rolling 416666) .scheduleBoundary) ∧
      (∃ s : State, s.pending = [] ∧ s.pins.resetAsserted = false ∧ (∀ i, ¬ EventDue s i) ∧ RequestWaits s) ∧
      ∀ now, now = 199 ∨ now = 198 → ∃ s : State, s.pending = [] ∧ s.pins.resetAsserted = false ∧
        (∀ i, ¬ EventDue s i) ∧ ¬ RequestWaits s ∧ s.memory.port = none ∧ s.timing.timebase = now ∧
        s.lens.scan = some (Scan.begun 0) := by
  refine ⟨⟨rfl, rfl, .scheduleBoundary ⟨rfl, rfl, .inl rfl⟩⟩, ⟨quietMemory fun m =>
    { m with linkRequests := ⟨some (.logRead 1), none, none⟩ }, rfl, rfl, noneDue (by decide), ?_⟩, ?_⟩
  · rw [← grantDue_iff]
    decide
  · rintro now (rfl | rfl) <;>
      exact ⟨{ rolling _ with lens := { quiet.lens with scan := some (Scan.begun 0) } }, rfl, rfl, noneDue (by decide),
        by rw [← grantDue_iff]; decide, rfl, rfl, rfl⟩

theorem test_witness_under_reset :
    held.pins.resetAsserted = true ∧ Instr.identify .a ≠ .pinReset ∧
      ∀ sel rate, Instr.identify .a ≠ .resetRelease sel rate :=
  ⟨rfl, by decide, nofun⟩

theorem test_witness_reset_release : held.pins.resetAsserted = true := rfl

/-- The hypotheses that the clauses of EachTickAccessesTheNextWordOfTheBurst share. -/
def BurstUnderWay (s : State) (b : Burst) : Prop :=
  s.pending = [] ∧ s.pins.resetAsserted = false ∧ (∀ i, ¬ EventDue s i) ∧ s.memory.port = some b ∧ 0 < b.left ∧
    b.left ≤ b.length ∧ s.memory.words.wf = true

theorem underWay {s : State} {b : Burst}
    (h : s.pending = [] ∧ s.pins.resetAsserted = false ∧ dueEvents s = [] ∧ s.memory.port = some b ∧ 0 < b.left ∧
      b.left ≤ b.length ∧ s.memory.words.wf = true) : BurstUnderWay s b :=
  ⟨h.1, h.2.1, noneDue h.2.2.1, h.2.2.2⟩

/-- The first and the last word of a sweep, the first of a record write and of a TABLE_ENTRY. -/
theorem test_witness_words_written :
    BurstUnderWay (bursting .sweep 2048 2048 []) ⟨.sweep, 2048, 2048, []⟩ ∧
      BurstUnderWay (bursting .sweep 2048 1 []) ⟨.sweep, 2048, 1, []⟩ ∧
      BurstUnderWay { bursting .record 19 19 [] with matcher := { quiet.matcher with queue := [lateRecord] } }
        ⟨.record, 19, 19, []⟩ ∧
      lateRecord.words[0]? = some 0x0210 ∧
      BurstUnderWay (bursting (.tableEntry .a leftFocus 31 [(5, 6)]) 2 1 [])
        ⟨.tableEntry .a leftFocus 31 [(5, 6)], 2, 1, []⟩ ∧
      ([((5 : BitVec 16), (6 : BitVec 16))].flatMap fun p => [p.1, p.2])[2 - 1]? = some 6 := by
  refine ⟨underWay ?_, underWay ?_, underWay ?_, rfl, underWay ?_, by decide⟩ <;> decide

/-- The last word of a segment read, of a four-record LOG_READ and of a TABLE_READ. -/
theorem test_witness_words_read :
    BurstUnderWay (bursting (.segment leftFocus 30 0 true) 4 1 [0, 0, 0]) ⟨.segment leftFocus 30 0 true, 4, 1, [0, 0, 0]⟩ ∧
      BurstUnderWay (bursting (.logRead .a 0 63 1) 19 1 (List.replicate 18 0))
        ⟨.logRead .a 0 63 1, 19, 1, List.replicate 18 0⟩ ∧
      BurstUnderWay (bursting (.tableRead .a leftFocus 31 .valid 32) 2 1 [0])
        ⟨.tableRead .a leftFocus 31 .valid 32, 2, 1, [0]⟩ := by
  refine ⟨underWay ?_, underWay ?_, underWay ?_⟩ <;> decide

/-! ### Witnesses: the links -/

theorem test_witness_ready (l : Link) : Ready l quiet := by cases l <;> exact ⟨rfl, rfl⟩

theorem test_witness_idle_receiver :
    quiet.pins.resetAsserted = false ∧ (quiet.links.get .a).state = .idle ∧
      (leadCharacter 0x50).getLsbD 8 = true ∧ (leadCharacter 0x50).setWidth 8 = quiet.unitCode ∧
      (leadCharacter 0xFF).getLsbD 8 = true ∧ (leadCharacter 0xFF).setWidth 8 = 0xFF#8 ∧
      (bodyCharacter 0x50).getLsbD 8 = false ∧ (leadCharacter 0x51).setWidth 8 ≠ quiet.unitCode := by
  decide

/-- `quiet` with link A in BODY holding these bytes, its timer running. -/
def inBody (cast : Addressing) (bytes : List Byte) : State :=
  quietLink fun x => { x with state := .body, addressing := cast, buffer := bytes, timer := some 9 }

theorem test_witness_new_lead :
    (inBody .unicast [0x11]).pins.resetAsserted = false ∧ ((inBody .unicast [0x11]).links.get .a).state = .body ∧
      (leadCharacter 0x50).getLsbD 8 = true ∧ (leadCharacter 0x51).getLsbD 8 = true := by
  decide

/-- A length of 64 joins the message, and the second of two argument bytes. -/
theorem test_witness_body_character :
    ((inBody .unicast [0x11]).links.get .a).state = .body ∧
      (((inBody .unicast [0x11]).links.get .a).buffer.length = 1 → (64 : Byte).toNat ≤ 64) ∧
      (∀ code n args, ((inBody .unicast [0x11]).links.get .a).buffer = code :: n :: args →
        args.length ≠ n.toNat) ∧
      (((inBody .unicast [0x30, 2, 1]).links.get .a).buffer.length = 1 → (255 : Byte).toNat ≤ 64) ∧
      ∀ code n args, ((inBody .unicast [0x30, 2, 1]).links.get .a).buffer = code :: n :: args →
        args.length ≠ n.toNat := by
  refine ⟨rfl, by decide, nofun, by decide, ?_⟩
  intro code n args h
  obtain ⟨rfl, rfl, rfl⟩ : 0x30#8 = code ∧ 2#8 = n ∧ [1#8] = args := by
    simpa [inBody, quietLink, State.onLink, PerLink.get, PerLink.set] using h
  decide

theorem test_witness_link_faults :
    ((inBody .unicast [0x11]).links.get .a).state = .body ∧
      ((inBody .unicast [0x11]).links.get .a).buffer.length = 1 ∧ 64 < (65 : Byte).toNat ∧
      ((inBody .unicast [0x11]).links.get .a).timer.isSome = true := by
  decide

theorem test_witness_busy_link :
    ((quietLink fun x => { x with state := .executing }).links.get .a).state = .executing ∧
      ((quietLink fun x => { x with state := .replying }).links.get .a).state = .replying ∧
      (Instr.tcGet .a).message = some ⟨.a, .unicast, 0x25, []⟩ := by
  decide

/-- A failed check, a code of no row, a length of no row; and a broadcast IDENTIFY. -/
theorem test_witness_bad_messages :
    ((inBody .unicast [0x11, 0]).links.get .a).buffer = [0x11, 0] ∧ byteSum [0x11, 0] + 0 ≠ 0 ∧
      byteSum [0x14, 0] + 0xEC = 0 ∧ acceptedLengths 0x14 = none ∧ byteSum [0x11, 1, 5] + 0xE9 = 0 ∧
      acceptedLengths 0x11 = some [0] ∧ [(5 : Byte)].length ∉ [0] ∧
      ((inBody .broadcast [0x32, 0]).links.get .a).addressing = .broadcast ∧
      (0x32 : Byte) ∉ [0x10#8, 0x11#8, 0x12#8, 0x24#8] := by
  decide

theorem test_witness_message_of_a_command :
    (Instr.stop .a .broadcast).wellFormed = true ∧
      (Instr.stop .a .broadcast).message = some ⟨.a, .broadcast, 0x11, []⟩ ∧
      ((inBody .broadcast [0x11, 0]).links.get .a).addressing = .broadcast ∧
      ((inBody .broadcast [0x11, 0]).links.get .a).buffer = [0x11, 0] ∧ byteSum [0x11, 0] + 0xEF = 0 := by
  decide

theorem test_witness_message_read_back :
    (Instr.tableEntry .c 1 2 0 (List.replicate 4 (1, 2))).wellFormed = true ∧
      (Instr.tableEntry .c 1 2 0 (List.replicate 4 (1, 2))).message.isSome = true := by
  decide

theorem test_witness_event_masks : 8192 ≤ (0x2000 : BitVec 16).toNat ∧ (0x1FFF : BitVec 16).toNat < 8192 := by decide

theorem test_witness_status_commands :
    2 ≤ (2 : Byte).toNat ∧ (1 : Byte).toNat < 2 ∧ (quiet.log.readers.get .a).attached = false ∧
      Ready .a { quiet with log := { quiet.log with readers := quiet.log.readers.set .a ⟨true, 0, 0⟩ } } :=
  ⟨by decide, by decide, rfl, rfl, rfl⟩

/-! ### Witnesses: the Plan Unit -/

/-- `quiet` with the staged plan held by link A. -/
def editing (p : Plan) (at' : Option Time) : State := quietPlan fun u => ⟨u.active, p, .editing, some .a, at', 0⟩

/-- `quiet` with a commit of link A waiting. -/
def committing (p : Plan) : State := quietPlan fun u => ⟨u.active, p, .committing, some .a, none, 0⟩

/-- Both ends of a range and the values beyond them, and a field of no number. -/
theorem test_witness_plan_set :
    planRange 14 = some (-1000, 1000) ∧ (BitVec.ofInt 32 (-1000)).toInt = -1000 ∧
      (BitVec.ofInt 32 (-1001)).toInt < -1000 ∧ planRange 15 = none ∧ Ready .a quiet ∧
      Ready .a (committing Plan.pinReset) ∧ Ready .b (editing Plan.pinReset (some 9)) ∧
      (editing Plan.pinReset (some 9)).plan.editor ≠ some .b ∧ Ready .a (editing Plan.pinReset (some 9)) :=
  ⟨rfl, by decide, by decide, rfl, ⟨rfl, rfl⟩, ⟨rfl, rfl⟩, ⟨rfl, rfl⟩, by decide, rfl, rfl⟩

/-- The room PLAN_COMMIT's validation computes. -/
def roomOf (u : PlanUnit) : Int :=
  (min (10000000 * u.active.rateDen / u.active.rateNum) (10000000 * u.staged.rateDen / u.staged.rateNum) : Nat) -
    (u.staged.gap : Int) - u.staged.eyeOffset.natAbs

/-- Rooms of 19 and 20 ticks at 240000/1000, a ramp under EXTERNAL, and a plan of the rate in force. -/
theorem test_witness_plan_commit :
    roomOf (editing { Plan.pinReset with rateNum := 240000, gap := 41647 } none).plan = 19 ∧
      roomOf (editing { Plan.pinReset with rateNum := 240000, gap := 41646 } none).plan = 20 ∧
      (editing { Plan.pinReset with rateNum := 240000, gap := 41646 } none).timing.run = .stopped ∧
      0 < { Plan.pinReset with rampLen := 1, refMode := .external }.rampLen ∧
      20 ≤ roomOf (editing Plan.pinReset none).plan ∧
      Ready .a (editing Plan.pinReset none) ∧
      (editing Plan.pinReset none).plan.editor = some .a ∧
      ({ editing Plan.pinReset none with timing := (rolling 0).timing }).timing.run ≠ .stopped :=
  ⟨by decide, by decide, rfl, by decide, by decide, ⟨rfl, rfl⟩, rfl, by decide⟩

theorem test_witness_discard_and_lapse :
    Ready .a (editing Plan.pinReset (some 0)) ∧ (editing Plan.pinReset (some 0)).plan.editor = some .a ∧
      (editing Plan.pinReset (some 0)).plan.lapse = some (editing Plan.pinReset (some 0)).timing.timebase ∧
      (committing Plan.pinReset).plan.stage = .committing ∧ quiet.plan.stage = .free :=
  ⟨⟨rfl, rfl⟩, rfl, rfl, rfl, rfl⟩

/-! ### Witnesses: runs -/

theorem test_witness_run :
    Ready .a (rolling 0) ∧ (rolling 0).timing.run ≠ .stopped ∧
      (Ready .a (quietPlan fun u => { u with active := { u.active with refMode := .followLeft } })) ∧
      (Ready .a quiet ∧ quiet.timing.run = .stopped ∧ quiet.plan.stage ≠ .committing ∧ quiet.tc.waiting = none ∧
        quiet.plan.active.refMode = .internal ∧ quiet.matcher.slots = []) :=
  ⟨⟨rfl, rfl⟩, by decide, ⟨rfl, rfl⟩, ⟨rfl, rfl⟩, rfl, by decide, rfl, rfl, rfl⟩

/-- The plan after reset is in its ranges, and usable. -/
theorem test_witness_plan_in_range : Plan.pinReset.inRanges ∧ Plan.pinReset.usable := by
  unfold Plan.inRanges Plan.usable
  decide

/-- EXTERNAL with an input GOOD and with none, in STOPPED. -/
theorem test_witness_run_external :
    ({ lockedRun none 0 with timing := { (lockedRun none 0).timing with run := .stopped } }).timing.inputs.a.state =
        .good ∧
      (quietPlan fun u => { u with active := { u.active with refMode := .external } }).timing.inputs.a.state ≠
        .good := by
  decide

theorem test_witness_stop :
    Ready .a quiet ∧ quiet.timing.run ≠ .running ∧ Ready .a (rollingWith [emptySlot 0] 0) ∧
      (rollingWith [emptySlot 0] 0).matcher.slots ≠ [] ∧ Ready .a (rolling 0) ∧ (rolling 0).matcher.slots = [] ∧
      (rolling 0).matcher.queue = [] ∧ (rolling 0).plan.stage ≠ .committing ∧ (rolling 0).tc.waiting = none :=
  ⟨⟨rfl, rfl⟩, by decide, ⟨rfl, rfl⟩, by decide, ⟨rfl, rfl⟩, rfl, rfl, by decide, rfl⟩

theorem test_witness_reach_stopped :
    drainedPart.pins.resetAsserted = false ∧ drainedPart.timing.run = .draining ∧ drainedPart.matcher.slots = [] ∧
      drainedPart.matcher.queue = [] ∧ drainedPart.plan.stage ≠ .committing ∧ drainedPart.tc.waiting = none :=
  ⟨rfl, rfl, rfl, rfl, by decide, rfl⟩

/-- A commit of link A, a timecode set of link B and a LOG_READ of link C, all waiting in a run. -/
def threeOwed : State :=
  { rolling 0 with
    plan := (committing Plan.pinReset).plan
    tc := { quiet.tc with waiting := some ⟨⟨1, 2, 3, 4⟩, 24, false, some .b⟩ }
    log := { quiet.log with next := 1, count := 1, readers := quiet.log.readers.set .c ⟨true, 0, 0⟩ }
    memory := { quiet.memory with port := some ⟨.logRead .c 0 0 1, 19, 5, List.replicate 14 0⟩ }
    links := PerLink.build fun _ => { LinkState.pinReset with state := .executing } }

/-- A commit of link A waiting in a run, the other links free. -/
def oneOwed : State :=
  { rolling 0 with
    plan := (committing Plan.pinReset).plan
    links := ⟨{ LinkState.pinReset with state := .executing }, .pinReset, .pinReset⟩ }

theorem test_witness_replies_owed : ReplyInv threeOwed ∧ ReplyInv oneOwed ∧ Ready .b oneOwed :=
  ⟨⟨fun l => by cases l <;> decide, by decide⟩, ⟨fun l => by cases l <;> decide, by decide⟩, rfl, rfl⟩

/-- A STOP of link B that reaches STOPPED at once, with the commit of link A and a timecode set of link C waiting. -/
theorem test_witness_stop_with_commit_and_set :
    ∃ s : State,
      s = { oneOwed with
            tc := { quiet.tc with waiting := some ⟨⟨1, 2, 3, 4⟩, 24, false, some .c⟩ }
            links := { oneOwed.links with c := { LinkState.pinReset with state := .executing } } } ∧
        ReplyInv s ∧ Ready .b s ∧ s.timing.run = .running ∧ s.matcher.slots = [] ∧ s.matcher.queue = [] ∧
        s.plan.editor = some .a ∧ (s.links.get .a).busy = true ∧ s.tc.owed = some .c ∧ (s.links.get .c).busy = true ∧
        s.plan.committer ≠ some .c :=
  ⟨_, rfl, ⟨fun l => by cases l <;> decide, by decide⟩, ⟨rfl, rfl⟩, rfl, rfl, rfl, rfl, rfl, rfl, rfl, by decide⟩

/-- RESTART of link A with a timecode set of link B owed and a LOG_READ of link C under way. -/
def readUnderRestart : State :=
  { threeOwed with
    plan := quiet.plan
    links := { threeOwed.links with a := .pinReset } }

theorem test_witness_restart :
    ReplyInv readUnderRestart ∧ Ready .a readUnderRestart ∧
      (∃ b, readUnderRestart.memory.port = some b ∧ b.holder = .logRead .c 0 0 1) ∧
      Ready .a quiet ∧ ReplyInv quiet ∧ quiet.memory.port = none :=
  ⟨⟨fun l => by cases l <;> decide, by decide⟩, ⟨rfl, rfl⟩, ⟨_, rfl, rfl⟩, ⟨rfl, rfl⟩,
    ⟨fun l => by cases l <;> decide, by decide⟩, rfl⟩

/-! ### Witnesses: boundaries -/

theorem test_witness_scheduled_boundary :
    (rolling 416666).pins.resetAsserted = false ∧ BoundaryDue (rolling 416666) ∧
      (rolling 416666).plan.stage ≠ .committing ∧ (rolling 416666).lens.mode ≠ .frame ∧
      ¬ InService (rollingUnder .followLeft .lockedL 416666) :=
  ⟨rfl, ⟨rfl, rfl, .inl rfl⟩, by decide, by decide, by unfold InService; decide⟩

/-- The schedule is in service in the first step of a re-phase, and in FRAME scanning a scan may be under way. -/
theorem test_witness_boundary_in_rephase_and_frame_scan :
    BoundaryDue (lockedRun (some .first) 416666) ∧
      BoundaryDue { rolling 416666 with
                    lens := { quiet.lens with mode := .frame, scan := some (Scan.begun 410000) } } :=
  ⟨⟨rfl, rfl, .inr (.inr (.inr (.inr ⟨.inl rfl, rfl⟩)))⟩, rfl, rfl, .inl rfl⟩

/-- A run at N under FRAME scanning with a scan under way and this burst. -/
def frameScanning (b : Burst) : State :=
  { rolling 416666 with
    lens := { quiet.lens with mode := .frame, scan := some (Scan.begun 410000) }
    memory := { quiet.memory with port := some b } }

/-- A boundary under FRAME scanning while a segment is read for the scan, and while a record is written. -/
theorem test_witness_boundary_during_bursts :
    BoundaryDue (frameScanning ⟨.segment leftFocus 0 0 true, 4, 2, [0, 0]⟩) ∧
      (frameScanning ⟨.segment leftFocus 0 0 true, 4, 2, [0, 0]⟩).plan.stage ≠ .committing ∧
      (frameScanning ⟨.segment leftFocus 0 0 true, 4, 2, [0, 0]⟩).lens.scan ≠ none ∧
      BoundaryDue (frameScanning ⟨.record, 19, 3, []⟩) ∧
      (∀ c lower trim isLive, Holder.record ≠ .segment c lower trim isLive) :=
  ⟨⟨rfl, rfl, .inl rfl⟩, by decide, by decide, ⟨rfl, rfl, .inl rfl⟩, nofun⟩

/-- Four slots, the head OPEN, numbered up to the last pair number given. -/
def fourSlots : State :=
  let s := rollingWith [emptySlot 7, emptySlot 8, emptySlot 9, emptySlot 10] 416666
  { s with timing := { s.timing with pairNumber := 11 } }

theorem test_witness_slot_opened :
    BoundaryDue (rolling 416666) ∧ (rolling 416666).tc.waiting = none ∧
      (∀ y ∈ (rolling 416666).matcher.slots, y.number ≠ (rolling 416666).timing.pairNumber) ∧
      (∀ e, ((rolling 416666).trig.eyes.get e).waiting = [] ∧
        ((rolling 416666).trig.eyes.get e).lastPulse = none) ∧
      (rolling 416666).matcher.slots.length < 4 ∧ BoundaryDue fourSlots ∧
      (∀ y ∈ fourSlots.matcher.slots, y.number ≠ fourSlots.timing.pairNumber) ∧
      fourSlots.matcher.slots.tail.length = 3 ∧ (emptySlot 7).status = .collecting :=
  ⟨⟨rfl, rfl, .inl rfl⟩, rfl, by decide, fun e => by cases e <;> exact ⟨rfl, rfl⟩, by decide,
    ⟨rfl, rfl, .inl rfl⟩, by decide, rfl, rfl⟩

/-- The commit of link A waiting at N, of this plan over that one. -/
def commitAtBoundary (old new : Plan) : State :=
  { rolling 416666 with plan := ⟨old, new, .committing, some .a, none, 0⟩ }

theorem test_witness_commit_applied :
    BoundaryDue (commitAtBoundary Plan.pinReset { Plan.pinReset with rateNum := 48000, rampLen := 4 }) ∧
      (commitAtBoundary Plan.pinReset { Plan.pinReset with rateNum := 48000 }).timing.frame = some firstFrame ∧
      (commitAtBoundary Plan.pinReset Plan.pinReset).tc.owed ≠ some .a ∧
      { Plan.pinReset with rateNum := 48000, rampLen := 4 }.rateNum ≠ Plan.pinReset.rateNum ∧
      { Plan.pinReset with refMode := .external }.refMode ≠ Plan.pinReset.refMode ∧
      ({ drainedPart with plan := (committing Plan.pinReset).plan }).timing.run = .draining :=
  ⟨⟨rfl, rfl, .inl rfl⟩, rfl, by decide, by decide, by decide, rfl⟩

/-- R39: an accumulator of 160,000 at 240000/1000 is below RATE_NUM again when a ramp to 24000/1000 begins. -/
theorem test_ramp_begins_within_the_new_rate :
    (({ (rolling 41667).timing with acc := 160000 }).restartGenerator
        (commitAtBoundary { Plan.pinReset with rateNum := 240000 } { Plan.pinReset with rampLen := 4 }).plan true).acc <
      24000 := by
  decide

/-- A run with a ramp under way, a rate kept, and a mode changed to EXTERNAL. -/
theorem test_witness_commit_ends_a_ramp :
    ∃ s : State, s = { commitAtBoundary Plan.pinReset { Plan.pinReset with refMode := .external } with
        timing := { (rolling 416666).timing with ramp := some (rampUp .time) } } ∧
      BoundaryDue s ∧ s.timing.ramp ≠ none ∧ s.plan.staged.rateNum = s.plan.active.rateNum :=
  ⟨_, rfl, ⟨rfl, rfl, .inl rfl⟩, by decide, rfl⟩

/-- A boundary that a pulse of the input locked to brings, with a commit of link A waiting that changes the rate. -/
theorem test_witness_commit_at_a_pulse :
    ∃ s t : State,
      s = { lockedRun none 416666 with
            plan :=
              ⟨(lockedRun none 0).plan.active, { (lockedRun none 0).plan.active with rateNum := 48000 },
                .committing, some .a, none, 0⟩ } ∧
        exec (.refPulse .a) s = .next t ∧ t.timing.pairNumber ≠ s.timing.pairNumber ∧ ReferenceInv s :=
  ⟨_, _, rfl, rfl, by decide, rfl⟩

/-- The hypotheses of FrameSlotOpened hold where a commit waits at N, and where REFA's pulse is the boundary. -/
theorem test_witness_frame_slot (s : State) (h : s = commitAtBoundary Plan.pinReset { Plan.pinReset with rateNum := 48000 } ∨
    s = lockedRun none 416666) :
    (planAtBoundary s).inRanges ∧ (∀ y ∈ s.matcher.slots, y.number ≠ s.timing.pairNumber) ∧
      ∀ e, (s.trig.eyes.get e).waiting = [] ∧ (s.trig.eyes.get e).lastPulse = none := by
  rcases h with rfl | rfl <;> refine ⟨by unfold Plan.inRanges; decide, by decide, fun e => ?_⟩ <;> cases e <;> exact ⟨rfl, rfl⟩

/-- A timecode set of link B. -/
def setOfB : PendingTimecode := ⟨⟨1, 2, 3, 4⟩, 24, false, some .b⟩

def withSet (s : State) : State := { s with tc := { s.tc with waiting := some setOfB } }

theorem test_witness_pending_timecode :
    BoundaryDue (withSet (rolling 416666)) ∧ (withSet (rolling 416666)).plan.committer ≠ some .b ∧
      (withSet drainedPart).timing.run = .draining ∧ (withSet drainedPart).tc.waiting = some setOfB ∧
      (withSet (rolling 416665)).timing.run = .running ∧
      ¬ ((withSet (rolling 416665)).timing.next = some (withSet (rolling 416665)).timing.timebase ∧
        InService (withSet (rolling 416665))) :=
  ⟨⟨rfl, rfl, .inl rfl⟩, by decide, rfl, rfl, rfl, by rintro ⟨h, -⟩; revert h; decide⟩

/-- A timecode set pending at a pulse that is a boundary, and at one that is none. -/
theorem test_witness_pending_timecode_at_a_pulse :
    (∃ t, exec (.refPulse .a) (withSet (lockedRun none 416666)) = .next t ∧
        t.timing.pairNumber ≠ (withSet (lockedRun none 416666)).timing.pairNumber) ∧
      ∃ t, exec (.refPulse .b) (withSet (lockedRun none 416666)) = .next t ∧
        t.timing.pairNumber = (withSet (lockedRun none 416666)).timing.pairNumber :=
  ⟨⟨_, rfl, by decide⟩, ⟨_, rfl, by decide⟩⟩

/-! ### Witnesses: reference inputs and returns -/

/-- The first and the last interval that qualify at 24000/1000, and the ones beyond them (R10: 416,666 / 1,024 is 406). -/
theorem test_witness_pulse_intervals :
    ((since 0 416260 : Int) - Plan.pinReset.basePeriod).natAbs ≤ Plan.pinReset.basePeriod / 1024 ∧
      ((since 0 417072 : Int) - Plan.pinReset.basePeriod).natAbs ≤ Plan.pinReset.basePeriod / 1024 ∧
      ¬ ((since 0 416259 : Int) - Plan.pinReset.basePeriod).natAbs ≤ Plan.pinReset.basePeriod / 1024 ∧
      ¬ ((since 0 417073 : Int) - Plan.pinReset.basePeriod).natAbs ≤ Plan.pinReset.basePeriod / 1024 := by
  decide

theorem test_witness_reference_pulse :
    quiet.pins.resetAsserted = false ∧ quiet.plan.stage ≠ .committing ∧
      (quiet.timing.inputs.get .a).state = .absent ∧ quiet.plan.active.refMode ≠ .external ∧ ReferenceInv quiet ∧
      (lockedRun none 416666).plan.active.refMode = .external ∧
      (lockedRun none 416666).timing.refState = lockedTo .a ∧
      ((lockedRun none 416666).timing.inputs.get .a).state = .good ∧
      ((lockedRun none 416666).timing.inputs.get .a).lastPulse = some 0 ∧
      (lockedRun (some .second) 416666).timing.rephase ≠ none ∧
      (lockedRun (some .second) 416666).timing.frame = some firstFrame :=
  ⟨rfl, by decide, rfl, by decide, rfl, rfl, rfl, rfl, rfl, by decide, rfl⟩

/-- The threshold of a re-phase, `|D| + E + GAP` after the boundary, and the tick after it. -/
theorem test_witness_rephase_threshold :
    firstFrame.offset.natAbs + firstFrame.exposure + Plan.pinReset.gap < since firstFrame.start 209334 ∧
      since firstFrame.start 209333 ≤ firstFrame.offset.natAbs + firstFrame.exposure + Plan.pinReset.gap := by
  decide

/-- A run under EXTERNAL in SEEKING at 416,666, REFA with seven good intervals, the scheduled boundary at `next`. -/
def nearlyGood (next : Time) : State :=
  let s := rollingUnder .external .seeking 416666
  { s with
    timing :=
      { s.timing with
        next := some next
        inputs := ⟨⟨.qualifying, 7, some 0, some 833332⟩, ⟨.absent, 0, none, none⟩⟩ } }

/-- A pulse that makes REFA GOOD, with N still to come and with N at this very instant. -/
theorem test_witness_pulse_moves_the_lock (next : Time) (h : next = 416667 ∨ next = 416666) :
    (nearlyGood next).plan.active.refMode = .external ∧ (nearlyGood next).timing.run = .running ∧
      (∃ t, exec (.refPulse .a) (nearlyGood next) = .next t ∧ (t.timing.inputs.get .a).state = .good) ∧
      ((nearlyGood next).timing.inputs.get .a).state ≠ .good ∧ (nearlyGood next).timing.refState ≠ lockedTo .a ∧
      (nearlyGood next).timing.frame = some firstFrame ∧ (nearlyGood next).timing.next = some next ∧
      (next = 416667 → since firstFrame.start (nearlyGood next).timing.timebase < since firstFrame.start next) ∧
      (next = 416666 → since firstFrame.start next ≤ since firstFrame.start (nearlyGood next).timing.timebase) := by
  rcases h with rfl | rfl <;> exact ⟨rfl, rfl, ⟨_, rfl, rfl⟩, by decide, by decide, rfl, rfl, by decide, by decide⟩

/-- LOCKED_A at 300,000 with REFB in this state. -/
def strayPulse (b : RefInput) : State :=
  let s := lockedRun none 300000
  { s with timing := { s.timing with inputs := { s.timing.inputs with b := b } } }

/-- A pulse of REFA out of tolerance, with REFB GOOD and with REFB ABSENT. -/
theorem test_witness_pulse_out_of_tolerance (b : RefInput) (h : b = ⟨.good, 8, some 0, some 833332⟩ ∨
    b = ⟨.absent, 0, none, none⟩) :
    (strayPulse b).timing.refState = lockedTo .a ∧ ((strayPulse b).timing.inputs.get .a).state = .good ∧
      (∃ t, exec (.refPulse .a) (strayPulse b) = .next t ∧ (t.timing.inputs.get .a).state ≠ .good) ∧
      ((strayPulse b).timing.inputs.get .b).state = b.state := by
  rcases h with rfl | rfl <;> exact ⟨rfl, rfl, ⟨_, rfl, by decide⟩, rfl⟩

/-- LOCKED_A with REFA to expire now and REFB QUALIFYING, N past or still to come. -/
def losingA (next : Time) : State :=
  let s := lockedRun none 833332
  { s with
    timing :=
      { s.timing with
        next := some next
        inputs := ⟨⟨.good, 8, some 0, some 833332⟩, ⟨.qualifying, 3, some 0, some 900000⟩⟩ } }

theorem test_witness_absence_expiry :
    ((losingA 416666).timing.inputs.get .a).state ≠ .absent ∧
      ((losingA 416666).timing.inputs.get .a).deadline = some (losingA 416666).timing.timebase ∧
      (losingA 416666).plan.stage ≠ .committing ∧ ReferenceInv (losingA 416666) ∧
      (losingA 416666).timing.refState = lockedTo .a ∧
      (∀ q, q ≠ RefId.a → ((losingA 416666).timing.inputs.get q).state ≠ .good) ∧
      since firstFrame.start 833332 ≤ since firstFrame.start (losingA 833332).timing.timebase ∧
      since firstFrame.start (losingA 833333).timing.timebase < since firstFrame.start 833333 :=
  ⟨by decide, rfl, by decide, rfl, rfl, fun q h => by cases q <;> [exact absurd rfl h; decide], by decide, by decide⟩

/-- LOCKED_A with REFA to expire now and REFB GOOD, as in 1.7, after a boundary and before the run's first one. -/
theorem test_witness_absence_expiry_with_a_reserve (frame : Option Frame) :
    ∃ s : State, s.timing.run = .running ∧ s.plan.active.refMode = .external ∧ s.timing.refState = lockedTo .a ∧
      s.timing.frame = frame ∧ (s.timing.inputs.get .a).state ≠ .absent ∧
      (s.timing.inputs.get .a).deadline = some s.timing.timebase ∧ (s.timing.inputs.get .b).state = .good ∧
      ReferenceInv s :=
  ⟨{ lockedRun none 833332 with
      timing :=
        { (lockedRun none 833332).timing with
          frame := frame, next := frame.map fun _ => 900000
          inputs := ⟨⟨.good, 8, some 0, some 833332⟩, ⟨.good, 8, some 500000, some 1333332⟩⟩ } },
    rfl, rfl, rfl, rfl, InputState.noConfusion, rfl, rfl, rfl⟩

theorem test_witness_absence_expiry_stopped :
    (({ losingA 416666 with timing := { (losingA 416666).timing with run := .stopped } }).timing.inputs.get .a).deadline =
      some 833332 := rfl

theorem test_witness_left_lapse :
    (rollingUnder .followLeft .lockedL 833332).plan.active.refMode = .followLeft ∧
      (rollingUnder .followLeft .lockedL 833332).timing.refState = .lockedL ∧
      (rollingUnder .followLeft .lockedL 833332).timing.frame = some firstFrame ∧
      (rollingUnder .followLeft .lockedL 833332).timing.timebase =
        firstFrame.start + BitVec.ofNat 48 (2 * firstFrame.period) ∧
      (∃ s : State, s.plan.active.refMode = .followLeft ∧ s.timing.run = .draining ∧ s.timing.refState = .seeking ∧
        s.timing.frame = none ∧ s.timing.runStart = some 0 ∧
        s.timing.timebase = 0 + BitVec.ofNat 48 (2 * s.plan.active.basePeriod)) :=
  ⟨rfl, rfl, rfl, rfl,
    { rollingUnder .followLeft .seeking 833332 with
      timing := { (rollingUnder .followLeft .seeking 833332).timing with run := .draining, frame := none } },
    rfl, rfl, rfl, rfl, rfl, by decide⟩

/-- The last instant at which a left return fails the half-period test, and the first at which it passes. -/
theorem test_witness_return_edges :
    (rollingUnder .loop .loop 0).plan.active.refMode = .loop ∧ quiet.timing.run = .stopped ∧
      (rolling 0).timing.run = .running ∧ (rolling 0).plan.active.refMode ≠ .loop ∧
      2 * since firstFrame.start (rollingUnder .followLeft .lockedL 208332).timing.timebase < firstFrame.period ∧
      firstFrame.period ≤ 2 * since firstFrame.start (rollingUnder .followLeft .lockedL 208333).timing.timebase ∧
      (rollingUnder .followLeft .seeking 208333).plan.stage ≠ .committing ∧
      (rollingUnder .followLeft .seeking 208333).timing.refState ≠ .lockedL ∧
      (rollingUnder .followLeft .seeking 208333).matcher.slots = [] ∧
      ∀ q, (rollingUnder .followLeft .seeking 208333).trig.eyes.get q = ⟨false, none, []⟩ := by
  refine ⟨by decide, by decide, by decide, by decide, by decide, by decide, by decide, by decide, by decide, fun q => ?_⟩
  cases q <;> rfl

/-- A left return taken as a boundary that a commit to INTERNAL leaves FOLLOW_LEFT at: its slot is filled (R67). -/
theorem test_left_return_fills_its_slot_under_a_commit :
    ∃ s t : State,
      s = { rollingUnder .followLeft .lockedL 416666 with
            plan :=
              ⟨{ mirrorRig with refMode := .followLeft }, mirrorRig, .committing, some .a, none, 0⟩ } ∧
        exec (.returnEdge .left) s = .next t ∧
        t.matcher.slots.map (fun x => (x.trigger.left, x.returned.left, x.isPending .left)) =
          [(some 416666, some 416666, false)] ∧
        ((t.trig.eyes.get .left).waiting.map (·.time)) = [476666] :=
  ⟨_, _, rfl, rfl, by decide, by decide⟩

/-- R59: in a slot that a left return filled under a commit that left FOLLOW_LEFT, the left eye is expected once its
trigger is issued, and not while it waits or when it is withheld. -/
theorem test_filled_left_trigger_is_expected_once_issued :
    (({ emptySlot 1 with trigger := ⟨some 0, none⟩, armed := ⟨some 5, none⟩ } : Slot).expects .left) = false ∧
      ((Slot.decided .left none { emptySlot 1 with trigger := ⟨some 0, none⟩ }).expects .left) = false ∧
      ((Slot.decided .left (some 5) { emptySlot 1 with trigger := ⟨some 0, none⟩ }).expects .left) = true := by
  decide

/-- R72: the deadline of a slot with a trigger filled at 0 and an entry to be decided at 9 counts from 9. -/
theorem test_witness_deadline_of :
    DeadlineOf { emptySlot 1 with trigger := ⟨some 0, none⟩, armed := ⟨none, some 9⟩ } 416675 := by
  refine ⟨9, by decide, fun e v hv => ?_, .inr ⟨.right, 9, by decide, by decide⟩⟩
  cases e
  · obtain rfl : v = 0 := by simpa [PerEye.get, emptySlot, rigSlot] using hv
    decide
  · obtain rfl : v = 9 := by simpa [PerEye.get, emptySlot, rigSlot] using hv
    decide

/-- A slot whose left trigger was issued at 0 and whose right one at 0, with neither return. -/
def issuedSlot : Slot := { emptySlot 1 with trigger := ⟨some 0, some 0⟩, issued := ⟨true, true⟩ }

/-- The left window holds a return from 0 up to 416,665 and none at 416,666; the second slot takes it then. -/
theorem test_witness_returns :
    TakesReturn .left 0 issuedSlot ∧ TakesReturn .left 416665 issuedSlot ∧ ¬ TakesReturn .left 416666 issuedSlot ∧
      PlacedAt [] issuedSlot [] (rollingWith [issuedSlot] 5) ∧
      PlacedAt [emptySlot 0] issuedSlot [] (rollingWith [emptySlot 0, issuedSlot] 5) ∧
      ¬ TakesReturn .left 5 (emptySlot 0) := by
  refine ⟨⟨rfl, rfl, 0, rfl, by decide⟩, ⟨rfl, rfl, 0, rfl, by decide⟩, ?_, ⟨rfl, by simp, by simp⟩,
    ⟨rfl, ?_, ?_⟩, ?_⟩
  · rintro ⟨-, -, t, h, h'⟩
    cases h
    revert h'
    decide
  · rintro y ys h
    cases h
    rfl
  · intro y hy
    obtain rfl : y = emptySlot 0 := by simpa using hy
    decide
  · rintro ⟨-, -, t, h, -⟩
    cases h

/-- The completion test fails with one return still missing and holds with both. -/
theorem test_witness_completion :
    ¬ IsComplete { issuedSlot with returned := issuedSlot.returned.set .left (some 5) } ∧
      IsComplete { issuedSlot with returned := ⟨some 5, some 6⟩ } := by
  refine ⟨fun h => ?_, fun e => by cases e <;> decide⟩
  exact absurd ((h .right).2 rfl) (by decide)

/-- A run at 5 whose right trigger of slot 1 is armed for now, with this last pulse of the right eye. -/
def armedRight (last : Option Pulse) : State :=
  let s := rollingWith [{ emptySlot 1 with armed := ⟨none, some 5⟩ }] 5
  { s with trig := { s.trig with eyes := s.trig.eyes.set .right ⟨false, last, [⟨1, 5, .driven, 208333, 0⟩]⟩ } }

/-- With no last pulse, with one that ended at 4, and with one that ends at 5 itself. -/
theorem test_witness_trigger_decision :
    ((armedRight none).trig.eyes.get .right).waiting = [] ++ ⟨1, 5, .driven, 208333, 0⟩ :: [] ∧
      (armedRight none).timing.timebase = 5 ∧ since 0 4 < since 0 (armedRight none).timing.timebase ∧
      ((armedRight (some ⟨0, 0, 5⟩)).trig.eyes.get .right).lastPulse = some ⟨0, 0, 5⟩ ∧
      since 0 (armedRight none).timing.timebase ≤ since 0 5 ∧
      PlacedAt [] { emptySlot 1 with armed := ⟨none, some 5⟩ } [] (armedRight none) ∧
      (emptySlot 1).returned.get .right = none :=
  ⟨by decide, by decide, by decide, by decide, by decide, ⟨by decide, by simp, by simp⟩, rfl⟩

/-- The left entry of a slot that a left return has filled, due at 5. -/
theorem test_witness_decision_of_a_filled_slot :
    ∃ s : State,
      s = { rollingWith [{ emptySlot 1 with trigger := ⟨some 0, none⟩, armed := ⟨some 5, some 9⟩ }] 5 with
            trig := { quiet.trig with
                      eyes := quiet.trig.eyes.set .left ⟨false, none, [⟨1, 5, .driven, 208333, 0⟩]⟩ } } ∧
        PlacedAt [] { emptySlot 1 with trigger := ⟨some 0, none⟩, armed := ⟨some 5, some 9⟩ } [] s ∧
        (s.trig.eyes.get .left).waiting = [⟨1, 5, .driven, 208333, 0⟩] ∧ s.timing.timebase = 5 ∧
        (s.trig.eyes.get .left).lastPulse = none :=
  ⟨_, rfl, ⟨rfl, by simp, by simp⟩, rfl, rfl, rfl⟩

theorem test_witness_pulse_end :
    ∃ s : State, (s.trig.eyes.get .left).active = true ∧ (s.trig.eyes.get .left).lastPulse = some ⟨1, 0, 5⟩ ∧
      s.timing.timebase = 5 ∧ s.trig.synth.get .left = [4] ++ s.timing.timebase :: [] ∧ s.timing.timebase ∉ [4#48] :=
  ⟨{ rolling 5 with trig := ⟨⟨⟨true, some ⟨1, 0, 5⟩, []⟩, ⟨false, none, []⟩⟩, ⟨[4, 5], []⟩⟩ }, rfl, by decide, by decide,
    by decide, by decide⟩

theorem test_witness_slot_deadline :
    PlacedAt [] (emptySlot 1) [] (rollingWith [emptySlot 1] 416666) ∧ (emptySlot 1).status = .collecting ∧
      (emptySlot 1).deadline = (rollingWith [emptySlot 1] 416666).timing.timebase ∧
      (emptySlot 1).deadline ≠ (rollingWith [emptySlot 1] 416665).timing.timebase :=
  ⟨⟨rfl, by simp, by simp⟩, rfl, by decide, by decide⟩

/-! ### Witnesses: timecode and log -/

/-- A drop mode of no code, a base of no code, an illegal label, and a legal one in STOPPED, pending and in a run. -/
theorem test_witness_timecode_set :
    Ready .a quiet ∧ 2 ≤ (2 : Byte).toNat ∧ legalBase (26 : Byte).toNat = false ∧
      legalTimecode ⟨0, 0, 0, 0x24⟩ (24 : Byte).toNat (decide ((0 : Byte).toNat = 1)) = false ∧
      legalBase (24 : Byte).toNat = true ∧
      legalTimecode ⟨0x23, 0x59, 0x59, 0x23⟩ (24 : Byte).toNat (decide ((0 : Byte).toNat = 1)) = true ∧
      quiet.tc.waiting = none ∧ quiet.timing.run = .stopped ∧ Ready .a (withSet (rolling 0)) ∧
      (withSet (rolling 0)).tc.waiting ≠ none ∧ Ready .a (rolling 0) ∧ (rolling 0).timing.run ≠ .stopped :=
  ⟨⟨rfl, rfl⟩, by decide, by decide, by decide, by decide, by decide, rfl, rfl, ⟨rfl, rfl⟩, by decide, ⟨rfl, rfl⟩,
    by decide⟩

/-- The last label of a minute in drop mode, before a minute that drops and before one that does not. -/
theorem test_witness_timecode_labels :
    legalBase 30 = true ∧ legalTimecode ⟨0, 0, 0x59, 0x29⟩ 30 true = true ∧
      (labelNumber ⟨0, 0, 0x59, 0x29⟩ 30 + 1) % (86400 * 30) % (60 * 30) = 0 ∧
      (labelNumber ⟨0, 9, 0x59, 0x29⟩ 30 + 1) % (86400 * 30) / (60 * 30) % 10 = 0 := by
  decide

/-- `quiet` with link A attached at this cursor, N at 70 and 64 records held. -/
def attachedAt (cursor : BitVec 32) : State :=
  { quiet with log := { next := 70, count := 64, readers := quiet.log.readers.set .a ⟨true, cursor, 3⟩ } }

theorem test_witness_log_commands :
    Ready .a quiet ∧ quiet.log.count ≤ 64 ∧ (quiet.log.readers.get .a).attached = false ∧ Ready .a (attachedAt 6) ∧
      ((attachedAt 6).log.readers.get .a).attached = true ∧ (0 : Byte).toNat < 1 ∧ 4 < (5 : Byte).toNat ∧
      1 ≤ (1 : Byte).toNat ∧ (4 : Byte).toNat ≤ 4 ∧
      (attachedAt 70).log.next = ((attachedAt 70).log.readers.get .a).cursor ∧
      (attachedAt 69).log.next ≠ ((attachedAt 69).log.readers.get .a).cursor :=
  ⟨⟨rfl, rfl⟩, by decide, rfl, ⟨rfl, rfl⟩, rfl, by decide, by decide, by decide, by decide, by decide, by decide⟩

/-! ### Witnesses: calibration tables -/

theorem test_witness_table_codes :
    Ready .a quiet ∧ 2 ≤ (2 : Byte).toNat ∧ 3 ≤ (3 : Byte).toNat ∧ channelOfCodes 1 2 = some ⟨.right, .zoom⟩ :=
  ⟨⟨rfl, rfl⟩, by decide, by decide, rfl⟩

/-- Loads of 1 breakpoint, of 2 that do not rise, of 3 that offend at index 2, and of 2 that pass. -/
theorem test_witness_table_loads :
    Ready .a (quietTable (loadingTable 1 (List.replicate 32 0))) ∧
      (channelGet (quietTable (loadingTable 1 (List.replicate 32 0))).lens.tables leftFocus).count < 2 ∧
      (loadingTable 2 (List.replicate 32 0)).demandAt 1 ≤ (loadingTable 2 (List.replicate 32 0)).demandAt 0 ∧
      (loadingTable 3 ([1, 5, 5] ++ List.replicate 29 0)).demandAt 0 <
        (loadingTable 3 ([1, 5, 5] ++ List.replicate 29 0)).demandAt 1 ∧
      (loadingTable 3 ([1, 5, 5] ++ List.replicate 29 0)).demandAt 2 ≤
        (loadingTable 3 ([1, 5, 5] ++ List.replicate 29 0)).demandAt 1 ∧
      (loadingTable 2 ([1, 2] ++ List.replicate 30 0)).demandAt 0 <
        (loadingTable 2 ([1, 2] ++ List.replicate 30 0)).demandAt 1 ∧
      (loadingTable 0 []).loader = some .a ∧ (loadingTable 0 []).loader ≠ some .b ∧
      (channelGet quiet.lens.tables leftFocus).state ≠ .loading ∧
      (channelGet (quietTable (loadingTable 0 [])).lens.tables leftFocus).lapse =
        some (quietTable (loadingTable 0 [])).timing.timebase :=
  ⟨⟨rfl, rfl⟩, by decide, by decide, by decide, by decide, by decide, rfl, by decide, by decide, rfl⟩

/-- No breakpoint and five; the last entry that fits, the ones beyond it; and the ends of the code range. -/
theorem test_witness_table_entries :
    ([] : List (BitVec 16 × BitVec 16)).length = 0 ∧ 4 < (List.replicate 5 ((0 : BitVec 16), (0 : BitVec 16))).length ∧
      Ready .a (quietTable (loadingTable 28 (List.replicate 32 0))) ∧
      (28 : Byte).toNat ≤ (loadingTable 28 []).count ∧ (loadingTable 28 []).count < (29 : Byte).toNat ∧
      (28 : Byte).toNat + 4 ≤ 32 ∧ 32 < (29 : Byte).toNat + 4 ∧ (4095 : BitVec 16).toNat ≤ 4095 ∧
      4095 < (4096 : BitVec 16).toNat ∧ (loadingTable 28 []).count ≤ (28 : Byte).toNat ∧
      (27 : Byte).toNat < (loadingTable 28 []).count :=
  ⟨rfl, by decide, ⟨rfl, rfl⟩, by decide, by decide, by decide, by decide, by decide, by decide, by decide, by decide⟩

/-! ### Witnesses: the lenses -/

theorem test_witness_lens_settings :
    axisOfCode 2 = some .zoom ∧ eyeOfCode 1 = some .right ∧ 3 ≤ (3 : Byte).toNat ∧ 4 ≤ (4 : Byte).toNat ∧
      [Source.link .a, .link .b, .link .c, .wheel][(3 : Byte).toNat]? = some .wheel ∧
      (quiet.lens.axes.get .focus).source ≠ .link .a ∧
      ((quietLens fun u => { u with axes := u.axes.set .focus ⟨0, 0, .link .a, 64, 50, .unchecked⟩ }).lens.axes.get
        .focus).source = .link .a ∧
      (0xF800 : BitVec 16).toInt = -2048 ∧ (0x07FF : BitVec 16).toInt = 2047 ∧ (0xF7FF : BitVec 16).toInt < -2048 ∧
      2047 < (0x0800 : BitVec 16).toInt ∧ (4095 : BitVec 16).toNat ≤ 4095 ∧ 4095 < (4096 : BitVec 16).toNat := by
  decide

/-- A drive off, and scanning OFF, FREE, and FREE with a scan in progress. -/
theorem test_witness_drives_and_scanning :
    (1 : Byte).toNat = (if true = true then 1 else 0) ∧ (0 : Byte).toNat = (if false = true then 1 else 0) ∧
      2 ≤ (2 : Byte).toNat ∧ 3 ≤ (3 : Byte).toNat ∧ [ScanMode.off, .free, .frame][(2 : Byte).toNat]? = some .frame ∧
      (channelGet quiet.lens.channels leftFocus).drive = false ∧ quiet.lens.mode = .off ∧
      (quietLens fun u => { u with mode := .free }).lens.mode ≠ .off ∧
      (quietLens fun u => { u with mode := .free, scan := some (Scan.begun 0) }).lens.scan ≠ none := by
  decide

/-- A scan that began at 0, with these conversions made. -/
def scanning (made : List (BitVec 12)) (now : Time) : State :=
  { rolling now with lens := { quiet.lens with mode := .free, scan := some { Scan.begun 0 with made := made } } }

/-- A scan due now; and one whose conversions end now, 1,800 ticks after its start, with the codes it holds and with
others. -/
theorem test_witness_scans :
    (∃ s : State, s.lens.mode ≠ .off ∧ s.lens.nextDue = some s.timing.timebase ∧ s.pins.resetAsserted = false) ∧
      ∃ s : State, ∃ sc : Scan, s.lens.scan = some sc ∧ sc.stage = .conversions ∧
        s.timing.timebase = sc.start + 1800 ∧
        (∀ c, channelGet sc.conversions.encoders c = sc.made.getD (tableNumber c) 0) ∧
        sc.conversions.wheels = ⟨sc.made.getD 6 0, sc.made.getD 7 0, sc.made.getD 8 0⟩ ∧
        (⟨channelBuild fun _ => 0, ⟨0, 0, 0⟩⟩ : Conversions) ≠ sc.conversions := by
  refine ⟨⟨quietLens fun u => { u with mode := .free, nextDue := some 0 }, by decide, rfl, rfl⟩,
    scanning [1, 2, 3, 4, 5, 6, 7, 8, 9] 1800, _, rfl, rfl, by decide, fun c => ?_, rfl, by decide⟩
  rcases c with ⟨e, x⟩
  cases e <;> cases x <;> rfl

/-- R143: the first conversion ends 200 ticks after the scan's start, and not a tick before. -/
theorem test_first_conversion_ends_at_200 :
    (LensUnit.convert 200 (scanning [] 199).lens).scan.map (·.made.length) = some 1 ∧
      LensUnit.convert 199 (scanning [] 198).lens = (scanning [] 198).lens := by
  decide

/-- R69, R139: with scanning OFF a slot's snapshot is UNCHECKED, though the scan that is finishing has a match state. -/
theorem test_snapshot_is_unchecked_while_off :
    ((lensSnapshot (quietLens fun u =>
      { u with mode := .off, scan := some (Scan.begun 0)
               axes := u.axes.set .focus ⟨7, 0, .wheel, 64, 50, .matched⟩ }).lens).get .focus) = ⟨7, .unchecked⟩ := by
  decide

/-- The stored words of the segment (1000, 3000), (2000, 2995); the second has its parity bit set. -/
def segmentWords : List MemWord := [0x003E8, 0x10BB8, 0x007D0, 0x00BB3]

theorem test_words_that_pass :
    passes 0x003E8 = true ∧ passes 0x10BB8 = true ∧ passes 0x007D0 = true ∧ passes 0x00BB3 = true := by
  decide

/-- The demands at both ends of the segment, inside it and beyond it; and a word that fails. -/
theorem test_witness_segments :
    (bursting (.segment leftFocus 0 0 true) 4 0 segmentWords).memory.port =
        some ⟨.segment leftFocus 0 0 true, 4, 0, segmentWords⟩ ∧
      segmentWords.map wordData = [1000, 3000, 2000, 2995] ∧ (∀ w ∈ segmentWords, passes w = true) ∧
      (∃ w ∈ [(1 : MemWord)], passes w = false) ∧ 999 < (1000 : BitVec 16).toNat ∧
      (1000 : BitVec 16).toNat ≤ 1000 ∧ 1999 < (2000 : BitVec 16).toNat ∧ (2000 : BitVec 16).toNat ≤ 2000 := by
  refine ⟨rfl, rfl, ?_, ⟨1, by simp, test_parity.2.2⟩, by decide, by decide, by decide, by decide⟩
  simpa [segmentWords] using test_words_that_pass

/-- Channels whose tables are not VALID, and one whose table is, at both ends of the example of R122. -/
theorem test_witness_target_stage :
    (∀ d ∈ channelOrder, (channelGet quiet.lens.tables d).state ≠ .valid) ∧ tableInv rising ∧
      (channelGet (quietTable rising).lens.tables leftFocus).state = .valid ∧
      19999 < rising.demandAt 1 ∧ rising.demandAt (rising.count - 2) ≤ 45000 ∧ rising.demandAt 1 ≤ 20000 ∧
      44999 < rising.demandAt (rising.count - 2) := by
  refine ⟨by decide, ⟨by decide, rfl, by decide, by decide, fun _ => ⟨by decide, ?_⟩⟩, rfl, by decide, by decide,
    by decide, by decide⟩
  intro i hi
  have : i = 0 ∨ i = 1 ∨ i = 2 := by
    have : i + 1 < 4 := hi
    omega
  rcases this with rfl | rfl | rfl <;> decide

/-! ### Witnesses: Record Memory -/

/-- A record, a lens request and link requests waiting, the last link served B. -/
def requesting (queue : List PairRecord) (q : Option SegmentRequest) (b : Option LinkRequest) (t : Table) : State :=
  { quietTable t with
    matcher := { quiet.matcher with queue := queue }
    memory := ⟨[], none, q, ⟨some (.tableRead leftFocus 3), b, none⟩, .b⟩ }

theorem test_witness_grants :
    (requesting [lateRecord] (some ⟨leftFocus, 0⟩) none rising).matcher.queue ≠ [] ∧
      (requesting [] (some ⟨leftFocus, 2⟩) none rising).memory.lensRequest = some ⟨leftFocus, 2⟩ ∧
      (channelGet (requesting [] (some ⟨leftFocus, 2⟩) none rising).lens.tables leftFocus).state = .valid ∧
      (∃ s : State, ∃ sc, s.memory.lensRequest = some ⟨leftFocus, 2⟩ ∧ s.lens.scan = some sc ∧
        (channelGet s.lens.tables leftFocus).state ≠ .valid) ∧
      (requesting [] none none rising).memory.linkRequests.get .a = some (.tableRead leftFocus 3) ∧
      [Link.c, .a, .b] = [.c] ++ .a :: [.b] ∧
      (∀ k ∈ [Link.c], (requesting [] none none rising).memory.linkRequests.get k = none) ∧ 3 < rising.count ∧
      (loadingTable 3 []).count ≤ 3 := by
  refine ⟨by decide, rfl, rfl, ⟨?_, Scan.begun 0, ?_⟩, rfl, rfl, by decide, by decide, by decide⟩
  · exact { requesting [] (some ⟨leftFocus, 2⟩) none (loadingTable 0 []) with
            lens := { quiet.lens with scan := some (Scan.begun 0) } }
  · exact ⟨rfl, rfl, by decide⟩

/-- LOG_READs with one record unread and with none, and a TABLE_ENTRY, alone at the Arbiter. -/
theorem test_witness_link_grants :
    0 < min 4 (((attachedAt 69).log.next - ((attachedAt 69).log.readers.get .a).cursor).toNat) ∧
      min 4 (((attachedAt 70).log.next - ((attachedAt 70).log.readers.get .a).cursor).toNat) = 0 ∧
      ((quietMemory fun m => { m with linkRequests := ⟨none, none, some (.tableEntry leftFocus 0 [(1, 2)])⟩ }).memory.linkRequests.get
        .c) = some (.tableEntry leftFocus 0 [(1, 2)]) := by
  decide

/-- A record write that ends with the log full, the cursor of link A at its oldest record; and one that ends a drain. -/
def endedWrite (s : State) : State :=
  { s with
    matcher := { s.matcher with queue := [lateRecord] }
    memory := { s.memory with port := some ⟨.record, 19, 0, []⟩ } }

theorem test_witness_record_write :
    (endedWrite (attachedAt 6)).memory.port = some ⟨.record, 19, 0, []⟩ ∧
      (endedWrite (attachedAt 6)).matcher.queue = [lateRecord] ∧ 64 ≤ (endedWrite (attachedAt 6)).log.count ∧
      ((endedWrite (attachedAt 6)).log.readers.get .a).cursor =
        (endedWrite (attachedAt 6)).log.next - BitVec.ofNat 32 (endedWrite (attachedAt 6)).log.count ∧
      (endedWrite (attachedAt 6)).timing.run ≠ .draining ∧ (endedWrite drainedPart).timing.run = .draining ∧
      (endedWrite drainedPart).matcher.slots = [] := by
  decide

theorem test_witness_link_bursts :
    (bursting (.logRead .a 3 6 4) 76 0 (List.replicate 76 0)).memory.port =
        some ⟨.logRead .a 3 6 4, 76, 0, List.replicate 76 0⟩ ∧
      (bursting (.tableEntry .a leftFocus 31 [(5, 6)]) 2 0 []).memory.port =
        some ⟨.tableEntry .a leftFocus 31 [(5, 6)], 2, 0, []⟩ ∧
      (channelGet quiet.lens.tables leftFocus).demands.length = 32 ∧ 31 + [((5 : BitVec 16), (6 : BitVec 16))].length ≤ 32 ∧
      (bursting (.tableRead .a leftFocus 0 .valid 2) 2 0 [0, 1]).memory.port =
        some ⟨.tableRead .a leftFocus 0 .valid 2, 2, 0, [0, 1]⟩ ∧
      (∀ w ∈ segmentWords, passes w = true) ∧ ∃ w ∈ [(0 : MemWord), 1], passes w = false :=
  ⟨rfl, rfl, rfl, by decide, rfl, test_witness_segments.2.2.1, 1, by simp, test_parity.2.2⟩

/-! ### Witnesses: arithmetic and invariants -/

/-- The accumulator of 24000/1000, r = 16,000: the last value without an extra tick, and the first with one. -/
theorem test_witness_accumulator :
    7999 < Plan.pinReset.rateNum ∧ 7999 + 10000000 * Plan.pinReset.rateDen % Plan.pinReset.rateNum < 24000 ∧
      24000 ≤ 8000 + 10000000 * Plan.pinReset.rateDen % Plan.pinReset.rateNum := by
  decide

/-- `quiet` takes a step. -/
theorem test_witness_step : ∃ t, step quiet = .next t := ⟨_, rfl⟩

/-- `quiet` meets the invariants of the memory, the plans and the reference. -/
theorem test_witness_frame_rate_invariants : MemoryInv quiet ∧ PlanInv quiet ∧ ReferenceInv quiet :=
  ⟨⟨rfl, fun _ _ => rfl⟩,
    ⟨test_witness_plan_in_range.1, test_witness_plan_in_range.1, test_witness_plan_in_range.2, ⟨rfl, rfl, rfl⟩, by decide⟩, rfl⟩

/-- `quiet` meets the invariants of runs, slots, triggers and timecode. -/
theorem test_witness_run_invariants : RunInv quiet ∧ SlotInv quiet ∧ TriggerInv quiet ∧ TimecodeInv quiet := by
  refine ⟨⟨by decide, rfl, by decide⟩, ⟨by decide, trivial, fun _ _ h => (by cases h), fun _ h => (by cases h)⟩, ?_,
    by decide, fun _ h => by cases h⟩
  intro e
  cases e <;> exact List.Sublist.refl _

/-- `quiet` meets the invariants of replies and of the log's readers. -/
theorem test_witness_link_invariants : ReplyInv quiet ∧ LogReadyInv quiet ∧ LogInv quiet := by
  refine ⟨⟨fun l => ?_, by decide⟩, fun l => ?_, by decide, fun l => ?_, fun l _ h => ?_, fun _ _ _ _ _ _ _ h => ?_⟩
  · cases l <;> decide
  · cases l <;> decide
  · cases l <;> decide
  · cases l <;> cases h
  · cases h

/-- `quiet` meets the invariants of the tables and of the bursts. -/
theorem test_witness_table_invariants : TableInv quiet ∧ BurstInv quiet := by
  refine ⟨⟨fun c => ?_, fun l _ _ _ h => ?_, fun _ _ _ _ _ _ _ h => ?_⟩, fun c => ?_, fun _ h => ?_, fun _ h => ?_,
    fun l _ _ _ h => ?_⟩
  · rcases c with ⟨e, x⟩
    cases e <;> cases x <;> exact ⟨by decide, rfl, by decide, by decide, fun h => by cases h⟩
  · cases l <;> cases h
  · cases h
  · rcases c with ⟨e, x⟩
    cases e <;> cases x <;> decide
  · cases h
  · cases h
  · cases l <;> cases h

/-- `quiet` meets the invariants of the lens channels and outputs, and a scan one tick before its third conversion that
of the conversions. -/
theorem test_witness_lens_invariants : StatusInv quiet ∧ OutputInv quiet ∧ ConversionInv (scanning [1, 2] 599) := by
  refine ⟨fun c => ?_, ⟨fun c => ?_, fun x => ?_, fun _ h => ?_⟩, by decide, fun sc h => ?_⟩
  · rcases c with ⟨e, x⟩
    cases e <;> cases x <;>
      exact ⟨by decide, fun h => (by cases h), fun h => (by cases h), fun h => (by cases h), fun h => (by cases h), fun _ => rfl⟩
  · rcases c with ⟨e, x⟩
    cases e <;> cases x <;> decide
  · cases x <;> decide
  · cases h
  · obtain rfl : _ = sc := Option.some.inj h
    decide

/-- A sweep whose first word has been passed meets the memory's invariants. -/
theorem test_witness_sweep : MemoryInv (bursting .sweep 2048 2047 []) ∧ SweepInv (bursting .sweep 2048 2047 []) :=
  ⟨⟨rfl, fun _ _ => rfl⟩, rfl, fun _ _ _ _ _ _ => rfl⟩

end Sys2Proof.Tests
end

section
/-!
PROOFS. The exposure plan: the period accumulator (R39), PLAN_SET (R25, R27, R28), and PLAN_DISCARD with the edit
lapse (R28, R32).
-/

namespace Sys2Proof.Machine

/-! ### Answers that follow a change outside the links -/

/-- A reply formed after an owner changed blocks other than the links and the pins answers its command, and moves
nothing else of the links (R170, R172). -/
theorem reply_answeredAlone {s u : State} {l : Link} (st : Status) (data : List Byte) (hpins : u.pins = s.pins)
    (hlinks : u.links = (s.taken l .unicast).links) : AnsweredAlone l st data s (reply l st data u) := by
  refine ⟨reply_answered st data (by simp [State.unitCode, hpins]) (by simp [hlinks]), ?_, ?_⟩
  · constructor <;> rw [reply_get_self, hlinks] <;> simp
  · intro k hk
    rw [reply_get_ne u st data hk, hlinks, taken_get_ne .unicast hk]

/-! ### The period accumulator (R39) -/

theorem drawAccumulator_of_carry {p : Plan} {acc : Nat} (h : p.rateNum ≤ acc + p.remainder) :
    drawAccumulator p acc = ⟨p.basePeriod + 1, acc + p.remainder - p.rateNum, none, false, false, none⟩ :=
  if_pos h

theorem drawAccumulator_of_no_carry {p : Plan} {acc : Nat} (h : acc + p.remainder < p.rateNum) :
    drawAccumulator p acc = ⟨p.basePeriod, acc + p.remainder, none, false, false, none⟩ :=
  if_neg (Nat.not_le.2 h)

theorem Plan.rateNum_mul_basePeriod_add (p : Plan) :
    p.rateNum * p.basePeriod + p.remainder = 10000000 * p.rateDen :=
  Nat.div_add_mod _ _

/-- One frame loses nothing: its period, counted in units of 1 / RATE_NUM tick, and the accumulator it leaves make up
the exact period and the accumulator it found. -/
theorem drawAccumulator_balance (p : Plan) (acc : Nat) :
    p.rateNum * (drawAccumulator p acc).period + (drawAccumulator p acc).acc = acc + 10000000 * p.rateDen := by
  have hexact := p.rateNum_mul_basePeriod_add
  rcases Nat.lt_or_ge (acc + p.remainder) p.rateNum with h | h
  · rw [drawAccumulator_of_no_carry h]
    dsimp only
    omega
  · rw [drawAccumulator_of_carry h]
    dsimp only
    rw [Nat.mul_add_one]
    omega

theorem drawMany_balance (p : Plan) (acc n : Nat) :
    p.rateNum * (drawMany p acc n).1 + (drawMany p acc n).2 = acc + n * (10000000 * p.rateDen) := by
  induction n with
  | zero => simp [drawMany]
  | succ n ih =>
    have hframe := drawAccumulator_balance p (drawMany p acc n).2
    rw [drawMany, Nat.mul_add, Nat.add_one_mul n]
    omega

theorem drawMany_acc_lt {p : Plan} {acc : Nat} (h : acc < p.rateNum) (n : Nat) :
    (drawMany p acc n).2 < p.rateNum := by
  induction n with
  | zero => exact h
  | succ n ih => exact drawAccumulator_acc_lt (Nat.zero_lt_of_lt h) ih

/-- RATE_NUM frames take RATE_DEN seconds exactly and leave the accumulator they found: both accumulators are the
remainder of one balance by RATE_NUM, and the total is its quotient. -/
theorem drawMany_rateNum {p : Plan} {acc : Nat} (h : acc < p.rateNum) :
    drawMany p acc p.rateNum = (10000000 * p.rateDen, acc) := by
  have hpos : 0 < p.rateNum := Nat.zero_lt_of_lt h
  have hlt := drawMany_acc_lt h p.rateNum
  have hbal : (drawMany p acc p.rateNum).2 + p.rateNum * (drawMany p acc p.rateNum).1 =
      acc + p.rateNum * (10000000 * p.rateDen) := by
    have := drawMany_balance p acc p.rateNum
    omega
  refine Prod.ext ?_ ?_
  · simpa [Nat.add_mul_div_left, hpos, Nat.div_eq_of_lt, hlt, h] using congrArg (· / p.rateNum) hbal
  · simpa [Nat.mod_eq_of_lt, hlt, h] using congrArg (· % p.rateNum) hbal

/-- Settles O48: one draw by the two cases of R39, RATE_NUM draws by the balance of each. -/
theorem accumulatorKeepsTheRate : Obligations.AccumulatorKeepsTheRate := by
  intro p acc h
  refine ⟨fun hcarry => ?_, fun hno => ?_, drawPeriod_acc_lt none (Nat.zero_lt_of_lt h) h, drawMany_rateNum h⟩
  · have hdraw : drawPeriod p acc none = _ := drawAccumulator_of_carry hcarry
    rw [hdraw]
    exact ⟨rfl, rfl⟩
  · have hdraw : drawPeriod p acc none = _ := drawAccumulator_of_no_carry hno
    rw [hdraw]
    exact ⟨rfl, rfl⟩

/-! ### Plan fields (R25) -/

/-- `read` takes exactly the values of `lo..hi`, each to an item whose own value is that one. -/
def ReadsRange {α : Type} (read : Int → Option α) (value : α → Int) (lo hi : Int) : Prop :=
  ∀ v, (v < lo ∨ hi < v → read v = none) ∧ (lo ≤ v → v ≤ hi → ∃ a, read v = some a ∧ value a = v)

theorem readsRange_inRange (lo hi : Nat) : ReadsRange (inRange lo hi) (fun n => (n : Int)) lo hi := by
  intro v
  refine ⟨fun hout => if_neg (by omega), fun hlo hhi => ⟨v.toNat, if_pos ⟨hlo, hhi⟩, ?_⟩⟩
  dsimp only
  omega

theorem readsRange_pair {α : Type} {value : α → Int} {x y : α} (hx : value x = 0) (hy : value y = 1) :
    ReadsRange (fun v => if v = 0 then some x else if v = 1 then some y else none) value 0 1 := by
  intro v
  refine ⟨fun hout => ?_, fun hlo hhi => ?_⟩
  · dsimp only
    rw [if_neg (by omega), if_neg (by omega)]
  · obtain rfl | rfl : v = 0 ∨ v = 1 := by omega
    exacts [⟨x, rfl, hx⟩, ⟨y, rfl, hy⟩]

theorem readsRange_rampHold : ReadsRange rampHoldOfValue RampHold.value 0 1 := readsRange_pair rfl rfl

theorem readsRange_dir : ReadsRange dirOfValue Dir.value 0 1 := readsRange_pair rfl rfl

theorem readsRange_refMode : ReadsRange refModeOfValue RefMode.value 0 3 := by
  intro v
  refine ⟨fun hout => ?_, fun hlo hhi => ?_⟩
  · rw [refModeOfValue, if_neg (by omega), if_neg (by omega), if_neg (by omega), if_neg (by omega)]
  · obtain rfl | rfl | rfl | rfl : v = 0 ∨ v = 1 ∨ v = 2 ∨ v = 3 := by omega
    exacts [⟨.internal, rfl, rfl⟩, ⟨.external, rfl, rfl⟩, ⟨.followLeft, rfl, rfl⟩, ⟨.loop, rfl, rfl⟩]

/-- `o` is plan `p` with field `field` set to `v` when `v` lies in `lo..hi`, and nothing otherwise. -/
def WritesField (p : Plan) (field : Nat) (v lo hi : Int) (o : Option Plan) : Prop :=
  (v < lo ∨ hi < v → o = none) ∧
    (lo ≤ v → v ≤ hi → ∃ q, o = some q ∧ q.values = p.values.set (field - 1) v)

/-- A field read over its range and put in its place in the plan writes that field. -/
theorem ReadsRange.writesField {α : Type} {read : Int → Option α} {value : α → Int} {lo hi : Int}
    (hread : ReadsRange read value lo hi) {p : Plan} {field : Nat} {put : α → Plan}
    (hput : ∀ a, (put a).values = p.values.set (field - 1) (value a)) (v : Int) :
    WritesField p field v lo hi ((read v).map put) := by
  obtain ⟨hout, hin⟩ := hread v
  refine ⟨fun h => by rw [hout h, Option.map_none], fun hlo hhi => ?_⟩
  obtain ⟨a, ha, rfl⟩ := hin hlo hhi
  exact ⟨put a, by rw [ha, Option.map_some], hput a⟩

theorem Plan.withField_loopSkew (p : Plan) (v : Int) : WritesField p 14 v (-1000) 1000 (p.withField 14 v) :=
  ⟨fun hout => if_neg (by omega), fun hlo hhi => ⟨{ p with loopSkew := v }, if_pos ⟨hlo, hhi⟩, rfl⟩⟩

/-- Every numbered field is written over the range its row of the field table gives (2.1, R25). -/
theorem Plan.withField_of_range (p : Plan) (v : Int) :
    ∀ {field : Nat} {lo hi : Int}, planRange field = some (lo, hi) →
      WritesField p field v lo hi (p.withField field v)
  | 1, _, _, rfl => (readsRange_inRange 1000 240000).writesField (fun _ => rfl) v
  | 2, _, _, rfl => (readsRange_inRange 1000 1001).writesField (fun _ => rfl) v
  | 3, _, _, rfl => (readsRange_inRange 1 3600).writesField (fun _ => rfl) v
  | 4, _, _, rfl => (readsRange_inRange 0 100000).writesField (fun _ => rfl) v
  | 5, _, _, rfl => (readsRange_inRange 0 255).writesField (fun _ => rfl) v
  | 6, _, _, rfl => readsRange_rampHold.writesField (fun _ => rfl) v
  | 7, _, _, rfl => (readsRange_inRange 0 1000).writesField (fun _ => rfl) v
  | 8, _, _, rfl => (readsRange_inRange 0 500000).writesField (fun _ => rfl) v
  | 9, _, _, rfl => (readsRange_inRange 0 500000).writesField (fun _ => rfl) v
  | 10, _, _, rfl => readsRange_dir.writesField (fun _ => rfl) v
  | 11, _, _, rfl => readsRange_dir.writesField (fun _ => rfl) v
  | 12, _, _, rfl => (readsRange_inRange 1 65535).writesField (fun _ => rfl) v
  | 13, _, _, rfl => readsRange_refMode.writesField (fun _ => rfl) v
  | 14, _, _, rfl => p.withField_loopSkew v

theorem Plan.withField_of_no_field (p : Plan) (v : Int) :
    ∀ {field : Nat}, planRange field = none → p.withField field v = none
  | 0, _ => rfl
  | _ + 15, _ => rfl

/-- A value outside its field's range, or for no field, writes nothing (R27). -/
theorem Plan.withField_eq_none (p : Plan) {field : Nat} {v : Int}
    (hout : ∀ lo hi, planRange field = some (lo, hi) → v < lo ∨ hi < v) : p.withField field v = none := by
  cases hr : planRange field with
  | none => exact p.withField_of_no_field v hr
  | some range => exact (p.withField_of_range v hr).1 (hout _ _ hr)

/-! ### PLAN_SET (R27, R28) -/

section PlanSet

variable {s : State} {l : Link} {field : Byte} {value : BitVec 32} {q : Plan}

theorem takePlanSet_of_invalid (hq : s.plan.staged.withField field.toNat value.toInt = none) :
    takePlanSet l field value s = reply l .val [] s := by
  simp only [takePlanSet, hq]

theorem takePlanSet_of_committing (hq : s.plan.staged.withField field.toNat value.toInt = some q)
    (hstage : s.plan.stage = .committing) : takePlanSet l field value s = reply l .pend [] s := by
  simp only [takePlanSet, hq, hstage]

theorem takePlanSet_of_held (hq : s.plan.staged.withField field.toNat value.toInt = some q)
    (hstage : s.plan.stage = .editing) (heditor : s.plan.editor ≠ some l) :
    takePlanSet l field value s = reply l .held [] s := by
  simp only [takePlanSet, hq, hstage, if_neg heditor]

/-- The Plan Unit after link `l` wrote the staged plan `q` at `now`. -/
def PlanUnit.edited (u : PlanUnit) (q : Plan) (l : Link) (now : Time) : PlanUnit :=
  { u with staged := q, stage := .editing, editor := some l, lapse := some (now + 20000000) }

theorem takePlanSet_of_editor (hq : s.plan.staged.withField field.toNat value.toInt = some q)
    (hstage : s.plan.stage = .free ∨ (s.plan.stage = .editing ∧ s.plan.editor = some l)) :
    takePlanSet l field value s = reply l .ok [] { s with plan := s.plan.edited q l s.timing.timebase } := by
  rcases hstage with hfree | ⟨hedit, heditor⟩
  · simp only [takePlanSet, hq, hfree]
    rfl
  · have hsame : s.plan.edited q l s.timing.timebase =
        { s.plan with staged := q, lapse := lapseFromNow s } := by
      rw [PlanUnit.edited, ← hedit, ← heditor]
      rfl
    simp only [takePlanSet, hq, hedit, if_pos heditor, hsame]

end PlanSet

/-- Settles O20: the field table decides VAL, and then the stage and the editor decide among PEND, HELD and the
write. -/
theorem planSetWritesOneFieldForItsEditor : Obligations.PlanSetWritesOneFieldForItsEditor := by
  intro l field value s hready
  refine ⟨takePlanSet l field value (s.taken l .unicast), handOver_ready hready .unicast _, ?_, ?_⟩
  · intro hout
    rw [takePlanSet_of_invalid (s := s.taken l .unicast) (s.plan.staged.withField_eq_none hout)]
    exact reply_taken l .val []
  · intro lo hi hrange hlo hhi
    obtain ⟨q, hq, hvalues⟩ := (s.plan.staged.withField_of_range value.toInt hrange).2 hlo hhi
    refine ⟨fun hstage => ?_, fun hstage heditor => ?_, fun hstage => ?_⟩
    · rw [takePlanSet_of_committing (s := s.taken l .unicast) hq hstage]
      exact reply_taken l .pend []
    · rw [takePlanSet_of_held (s := s.taken l .unicast) hq hstage heditor]
      exact reply_taken l .held []
    · rw [takePlanSet_of_editor (s := s.taken l .unicast) hq hstage]
      exact ⟨reply_answeredAlone .ok [] rfl rfl, hvalues, rfl⟩

/-! ### PLAN_DISCARD and the edit lapse (R28, R32) -/

section PlanDiscard

variable {s : State} {l : Link}

theorem takePlanDiscard_of_free (hstage : s.plan.stage = .free) : takePlanDiscard l s = reply l .ok [] s := by
  simp only [takePlanDiscard, hstage]

theorem takePlanDiscard_of_committing (hstage : s.plan.stage = .committing) :
    takePlanDiscard l s = reply l .pend [] s := by
  simp only [takePlanDiscard, hstage]

theorem takePlanDiscard_of_held (hstage : s.plan.stage = .editing) (heditor : s.plan.editor ≠ some l) :
    takePlanDiscard l s = reply l .held [] s := by
  simp only [takePlanDiscard, hstage, if_neg heditor]

theorem takePlanDiscard_of_editor (hstage : s.plan.stage = .editing) (heditor : s.plan.editor = some l) :
    takePlanDiscard l s = reply l .ok [] { s with plan := s.plan.freed } := by
  simp only [takePlanDiscard, hstage, if_pos heditor]

/-- The lapse at its instant frees the plan and posts to the editor. -/
theorem execPlanEditLapse_of_due (hpins : s.pins.resetAsserted = false) (hstage : s.plan.stage = .editing)
    (heditor : s.plan.editor = some l) (hlapse : s.plan.lapse = some s.timing.timebase) :
    execPlanEditLapse s = .next (post .planLapsed l { s with plan := s.plan.freed }) := by
  have hdue : editLapseDue s = true := by simp [editLapseDue, hstage, hlapse]
  simp [execPlanEditLapse, live, hpins, hdue, lapseEdit, heditor]

end PlanDiscard

/-- Settles O22: the discard by the stage and the editor, the lapse at its own instant. -/
theorem discardAndLapseFreeTheStagedPlan : Obligations.DiscardAndLapseFreeTheStagedPlan := by
  refine ⟨fun l s hready => ?_, fun l s hpins hstage heditor hlapse =>
    execPlanEditLapse_of_due hpins hstage heditor hlapse⟩
  refine ⟨takePlanDiscard l (s.taken l .unicast), handOver_ready hready .unicast _, ?_, ?_, ?_, ?_⟩
  · intro hstage
    rw [takePlanDiscard_of_free (s := s.taken l .unicast) hstage]
    exact reply_taken l .ok []
  · intro hstage
    rw [takePlanDiscard_of_committing (s := s.taken l .unicast) hstage]
    exact reply_taken l .pend []
  · intro hstage heditor
    rw [takePlanDiscard_of_held (s := s.taken l .unicast) hstage heditor]
    exact reply_taken l .held []
  · intro hstage heditor
    rw [takePlanDiscard_of_editor (s := s.taken l .unicast) hstage heditor]
    exact ⟨reply_answeredAlone .ok [] rfl rfl, rfl⟩

end Sys2Proof.Machine
end

section
/-!
PROOFS. The Pair Matcher: the close of a slot (R53, R59, R60, R78 to R81), a return handed to it (R62, R63, R74, R77),
and the Trigger Unit's pulse ends (R52) and synthesised returns (R58).
-/

namespace Sys2Proof.Machine

/-- With RESET# released an event does what its block does. -/
theorem live_of_released {s : State} (hpins : s.pins.resetAsserted = false) (f : State → State) :
    live s f = .next (f s) := by
  simp only [live, hpins, Bool.false_eq_true, if_false]

/-! ### The first element of a list that meets a test -/

theorem find?_append_cons {α : Type} {p : α → Bool} {pre post : List α} {x : α} (hpre : ∀ y ∈ pre, p y = false)
    (hx : p x = true) : (pre ++ x :: post).find? p = some x :=
  List.find?_eq_some_iff_append.2 ⟨hx, pre, post, rfl, fun y hy => by simp [hpre y hy]⟩

theorem updateFirst_append_cons {α : Type} {p : α → Bool} (f : α → α) {pre post : List α} {x : α}
    (hpre : ∀ y ∈ pre, p y = false) (hx : p x = true) :
    updateFirst p f (pre ++ x :: post) = pre ++ f x :: post := by
  induction pre with
  | nil => simp [updateFirst, hx]
  | cons y ys ih =>
    have hy : p y = false := hpre y List.mem_cons_self
    have hys : ∀ z ∈ ys, p z = false := fun z hz => hpre z (List.mem_cons_of_mem y hz)
    simp [updateFirst, hy, ih hys]

/-! ### Tests of a slot -/

/-- The window test of a return (R74). -/
theorem Slot.takes_iff {e : Eye} {t : Time} {x : Slot} : x.takes e t = true ↔ TakesReturn e t x := by
  cases htrigger : x.trigger.get e <;> simp [Slot.takes, TakesReturn, htrigger, and_assoc]

theorem Slot.isOpenNumber_iff {n : BitVec 32} {x : Slot} :
    x.isOpenNumber n = true ↔ x.number = n ∧ x.status = .collecting := by
  simp [Slot.isOpenNumber]

/-- Before a placed slot no OPEN slot has its number. -/
theorem PlacedAt.isOpenNumber_before {pre post : List Slot} {x : Slot} {s : State} (hplaced : PlacedAt pre x post s) :
    ∀ y ∈ pre, y.isOpenNumber x.number = false := by
  obtain ⟨-, -, hbefore⟩ := hplaced
  intro y hy
  rw [← Bool.not_eq_true, Slot.isOpenNumber_iff]
  rintro ⟨hnumber, hopen⟩
  exact hbefore y hy hopen hnumber

/-- A placed OPEN slot is the one its number finds. -/
theorem PlacedAt.find? {pre post : List Slot} {x : Slot} {s : State} (hplaced : PlacedAt pre x post s)
    (hopen : x.status = .collecting) : s.matcher.slots.find? (Slot.isOpenNumber x.number) = some x := by
  rw [hplaced.1]
  exact find?_append_cons hplaced.isOpenNumber_before (Slot.isOpenNumber_iff.2 ⟨rfl, hopen⟩)

/-- A change of a placed slot that keeps its number leaves it placed. -/
theorem PlacedAt.replace {pre post : List Slot} {x y : Slot} {s : State} (hplaced : PlacedAt pre x post s)
    (hnumber : y.number = x.number) :
    PlacedAt pre y post { s with matcher := { s.matcher with slots := pre ++ y :: post } } := by
  obtain ⟨-, hhead, hbefore⟩ := hplaced
  exact ⟨rfl, hhead, by rwa [hnumber]⟩

/-! ### Pending sets -/

theorem EventKind.getLsbD_mask (k j : EventKind) : k.mask.getLsbD j.bit = decide (j = k) := by
  cases k <;> cases j <;> decide

/-- A kind is pending after a posting when it was, or when it is the one posted (R175). -/
theorem holds_or_mask {events : EventSet} {k j : EventKind} :
    holds (events ||| k.mask) j = true ↔ holds events j = true ∨ j = k := by
  simp [holds, EventKind.getLsbD_mask]

theorem OnlyEvents.trans {s t u : State} (hst : OnlyEvents s t) (htu : OnlyEvents t u) : OnlyEvents s u := by
  intro l
  rw [htu l, hst l]

theorem onlyEvents_of_links {s t : State} (hlinks : t.links = s.links) : OnlyEvents s t := by
  intro l
  rw [hlinks]

/-! ### The judgement of an eye (R59, R60) -/

section Judgement

variable {s : State} {x : Slot} {e : Eye} {y : EyeState}

theorem bump_eq_min (m n : Nat) : bump m n = min m (n + 1) := by
  unfold bump
  split <;> omega

theorem Slot.expects_iff : x.expects e = true ↔ x.issued.get e = true ∨ (e = .left ∧ x.followLeft = true) := by
  simp [Slot.expects]

theorem EyeState.afterClose_of_not_expected (h : ¬ x.expects e = true) : y.afterClose x e = y := by
  rw [EyeState.afterClose, if_neg h]

theorem EyeState.afterClose_of_hit (h : x.expects e = true) (hreturn : (x.returned.get e).isSome = true) :
    y.afterClose x e = y.afterHit := by
  rw [EyeState.afterClose, if_pos h, if_pos hreturn]

theorem EyeState.afterClose_of_miss (h : x.expects e = true) (hreturn : ¬ (x.returned.get e).isSome = true) :
    y.afterClose x e = y.afterMiss := by
  rw [EyeState.afterClose, if_pos h, if_neg hreturn]

theorem EyeState.afterHit_presence :
    y.afterHit.presence = if y.presence = .lost ∧ y.afterHit.hit ≠ 2 then .lost else .present := by
  cases hp : y.presence <;> simp [EyeState.afterHit, hp]

theorem EyeState.afterMiss_presence :
    y.afterMiss.presence = if y.afterMiss.miss = 4 then .lost else y.presence := by
  cases hp : y.presence <;> simp [EyeState.afterMiss, hp]

/-- What a close makes of an eye is the judgement of R59 and R60. -/
theorem eyeJudged_afterClose : EyeJudged x e y (y.afterClose x e) := by
  unfold EyeJudged
  simp only [← Slot.expects_iff]
  by_cases hexpected : x.expects e = true
  · rw [if_pos hexpected]
    by_cases hreturn : (x.returned.get e).isSome = true
    · rw [if_pos hreturn, EyeState.afterClose_of_hit hexpected hreturn]
      exact ⟨rfl, rfl, bump_eq_min _ _, EyeState.afterHit_presence⟩
    · rw [if_neg hreturn, EyeState.afterClose_of_miss hexpected hreturn]
      exact ⟨rfl, rfl, bump_eq_min _ _, EyeState.afterMiss_presence⟩
  · rw [if_neg hexpected, EyeState.afterClose_of_not_expected hexpected]
    exact ⟨rfl, rfl⟩

/-- No judgement turns LOST into UNKNOWN. -/
theorem EyeState.afterClose_ne_unknown (h : y.presence = .lost) : (y.afterClose x e).presence ≠ .unknown := by
  unfold EyeState.afterClose
  split
  · split
    · rw [EyeState.afterHit_presence]
      split <;> simp
    · rw [EyeState.afterMiss_presence, h]
      split <;> simp
  · simp [h]

/-- The presence event is EYE_LOST on the way into LOST and EYE_BACK on the way out (R60). -/
theorem presenceEvent_eq_some_iff {p q : Presence} {k : EventKind} (h : p = .lost → q ≠ .unknown) :
    presenceEvent p q = some k ↔
      (k = .eyeLost ∧ p ≠ .lost ∧ q = .lost) ∨ (k = .eyeBack ∧ p = .lost ∧ q ≠ .lost) := by
  cases p with
  | lost =>
    cases q with
    | unknown => exact absurd rfl (h rfl)
    | present | lost => simp [presenceEvent, eq_comm (b := k)]
  | unknown | present => cases q <;> simp [presenceEvent, eq_comm (b := k)]

theorem judgeEye_matcher : (judgeEye x e s).matcher =
    { s.matcher with eyes := s.matcher.eyes.set e ((s.matcher.eyes.get e).afterClose x e) } := by
  unfold judgeEye
  dsimp only
  split <;> rfl

/-- A judgement adds to the pending sets the event of its presence change. -/
theorem holds_judgeEye {l : Link} {k : EventKind} :
    holds ((judgeEye x e s).links.get l).events k = true ↔ holds (s.links.get l).events k = true ∨
      presenceEvent (s.matcher.eyes.get e).presence ((s.matcher.eyes.get e).afterClose x e).presence = some k := by
  unfold judgeEye
  dsimp only
  split
  next j hj => rw [postAll_get, holds_or_mask, hj, Option.some.injEq, eq_comm (a := k)]
  next hj => simp [hj]

theorem onlyEvents_judgeEye : OnlyEvents s (judgeEye x e s) := by
  unfold judgeEye
  dsimp only
  split
  · intro l
    rw [postAll_get]
  · exact onlyEvents_of_links rfl

end Judgement

/-! ### The close of a slot (R78, R79, R81, R53) -/

section Close

variable {s : State} {pre post : List Slot} {x : Slot}

/-- Both eyes judged for a closed slot, the left one first. -/
def judgeEyes (x : Slot) (s : State) : State := judgeEye x .right (judgeEye x .left s)

theorem judgeEyes_eyes (e : Eye) :
    (judgeEyes x s).matcher.eyes.get e = (s.matcher.eyes.get e).afterClose x e := by
  cases e <;> simp [judgeEyes, judgeEye_matcher, PerEye.get, PerEye.set]

theorem judgeEyes_slots : (judgeEyes x s).matcher.slots = s.matcher.slots := by
  simp [judgeEyes, judgeEye_matcher]

theorem judgeEyes_queue : (judgeEyes x s).matcher.queue = s.matcher.queue := by
  simp [judgeEyes, judgeEye_matcher]

theorem judgeEyes_trig : (judgeEyes x s).trig = s.trig := by
  simp [judgeEyes]

theorem onlyEvents_judgeEyes : OnlyEvents s (judgeEyes x s) := onlyEvents_judgeEye.trans onlyEvents_judgeEye

theorem holds_judgeEyes {l : Link} {k : EventKind} :
    holds ((judgeEyes x s).links.get l).events k = true ↔ holds (s.links.get l).events k = true ∨
      ∃ e, presenceEvent (s.matcher.eyes.get e).presence ((s.matcher.eyes.get e).afterClose x e).presence = some k := by
  have hright : (judgeEye x .left s).matcher.eyes.get .right = s.matcher.eyes.get .right := by
    rw [judgeEye_matcher]
    rfl
  rw [judgeEyes, holds_judgeEye, holds_judgeEye, hright, or_assoc]
  exact or_congr_right
    ⟨fun h => h.elim (fun hl => ⟨.left, hl⟩) (fun hr => ⟨.right, hr⟩),
      fun | ⟨.left, hl⟩ => .inl hl | ⟨.right, hr⟩ => .inr hr⟩

/-- EYE_LOST and EYE_BACK go out exactly as the presences move (R60). -/
theorem holds_judgeEyes_iff {l : Link} {k : EventKind} :
    holds ((judgeEyes x s).links.get l).events k = true ↔ holds (s.links.get l).events k = true ∨
      (k = .eyeLost ∧ ∃ e, (s.matcher.eyes.get e).presence ≠ .lost ∧
        ((judgeEyes x s).matcher.eyes.get e).presence = .lost) ∨
      (k = .eyeBack ∧ ∃ e, (s.matcher.eyes.get e).presence = .lost ∧
        ((judgeEyes x s).matcher.eyes.get e).presence ≠ .lost) := by
  simp only [holds_judgeEyes, judgeEyes_eyes, presenceEvent_eq_some_iff EyeState.afterClose_ne_unknown, exists_or,
    exists_and_left]

@[simp] theorem releaseSlots_eyes : (releaseSlots s).matcher.eyes = s.matcher.eyes := rfl

@[simp] theorem releaseSlots_synth : (releaseSlots s).trig.synth = s.trig.synth := rfl

/-- Nothing leaves a table whose head is OPEN. -/
theorem releaseSlots_of_open_head {y : Slot} {ys : List Slot} (hslots : s.matcher.slots = y :: ys)
    (hopen : y.status = .collecting) : releaseSlots s = s := by
  have hclosed : ¬ y.closed = true := by simp [Slot.closed, hopen]
  have hkept (u : EyeTrigger) : u.withdraw [] = u := by simp [EyeTrigger.withdraw]
  simp only [releaseSlots, hslots, List.takeWhile_cons_of_neg hclosed, List.dropWhile_cons_of_neg hclosed,
    List.map_nil, List.append_nil, hkept]
  rw [← hslots]
  rfl

/-- A slot that has been closed with the returns it holds (R78). -/
def Slot.judgedClosed (x : Slot) : Slot := { x with status := .closedWaiting, outcome := some x.judged }

/-- The outcome formed at a close is the one of R47 and R78. -/
theorem outcomeIs_judged (x : Slot) : OutcomeIs x x.judged := by
  refine ⟨fun tl rl tr rr ht hr => by simp [Slot.judged, Slot.skew, returnDelay, ht, hr], fun hl hr => ?_,
    fun hl hr => ?_, fun hl hr => by simp [Slot.judged, hl, hr]⟩
  · obtain ⟨t, hl⟩ := Option.isSome_iff_exists.1 hl
    simp [Slot.judged, hl, hr]
  · obtain ⟨t, hr⟩ := Option.isSome_iff_exists.1 hr
    simp [Slot.judged, hl, hr]

/-- The close of a placed OPEN slot: its entry replaced, both eyes judged, and the table's closed front released. -/
theorem closeSlot_of_placed (hplaced : PlacedAt pre x post s) (hopen : x.status = .collecting) :
    closeSlot x.number s = releaseSlots
      (judgeEyes x { s with matcher := { s.matcher with slots := pre ++ x.judgedClosed :: post } }) := by
  have hupdate : updateFirst (Slot.isOpenNumber x.number)
      (fun y => { y with status := .closedWaiting, outcome := some x.judged }) s.matcher.slots =
        pre ++ x.judgedClosed :: post := by
    rw [hplaced.1]
    exact updateFirst_append_cons _ hplaced.isOpenNumber_before (Slot.isOpenNumber_iff.2 ⟨rfl, hopen⟩)
  simp only [closeSlot, hplaced.find? hopen, hupdate]
  rfl

/-- A close moves the Pair Matcher, the Trigger Unit and the links only. -/
theorem closeSlot_frame (n : BitVec 32) (s : State) :
    closeSlot n s = { s with
      matcher := (closeSlot n s).matcher, trig := (closeSlot n s).trig, links := (closeSlot n s).links } := by
  have heta : closeSlot n s =
      { closeSlot n s with
        pending := (closeSlot n s).pending, pins := (closeSlot n s).pins, timing := (closeSlot n s).timing
        plan := (closeSlot n s).plan, tc := (closeSlot n s).tc, log := (closeSlot n s).log
        lens := (closeSlot n s).lens, memory := (closeSlot n s).memory
        tieChoices := (closeSlot n s).tieChoices } := rfl
  simpa only [closeSlot_pending, closeSlot_pins, closeSlot_timing, closeSlot_plan, closeSlot_tc, closeSlot_log,
    closeSlot_lens, closeSlot_memory, closeSlot_tieChoices] using heta

/-- Behind an older slot the close leaves the slot waiting in its place (R78). -/
theorem closeSlot_of_behind (hplaced : PlacedAt pre x post s) (hopen : x.status = .collecting) (hpre : pre ≠ []) :
    closeSlot x.number s =
      judgeEyes x { s with matcher := { s.matcher with slots := pre ++ x.judgedClosed :: post } } := by
  obtain ⟨y, ys, rfl⟩ := List.exists_cons_of_ne_nil hpre
  have hhead : y.status = .collecting := hplaced.2.1 y ys rfl
  rw [closeSlot_of_placed hplaced hopen, releaseSlots_of_open_head judgeEyes_slots hhead]

/-- A closed head is released with the closed slots directly behind it (R79). -/
theorem takeWhile_closed_cons :
    (x.judgedClosed :: post).takeWhile Slot.closed = x.judgedClosed :: post.takeWhile Slot.closed :=
  List.takeWhile_cons_of_pos rfl

theorem releaseSlots_slots_of_closed (hslots : s.matcher.slots = x.judgedClosed :: post) :
    (releaseSlots s).matcher.slots = post.dropWhile Slot.closed := by
  simp only [releaseSlots, hslots]
  exact List.dropWhile_cons_of_pos rfl

theorem releaseSlots_queue_of_closed (hslots : s.matcher.slots = x.judgedClosed :: post) :
    (releaseSlots s).matcher.queue =
      s.matcher.queue ++ (x.judgedClosed :: post.takeWhile Slot.closed).map Slot.record := by
  simp only [releaseSlots, hslots, takeWhile_closed_cons]

theorem releaseSlots_waiting_of_closed (hslots : s.matcher.slots = x.judgedClosed :: post) (e : Eye) :
    (releaseSlots s).trig.eyes.get e =
      { s.trig.eyes.get e with
        waiting := (s.trig.eyes.get e).waiting.filter fun n =>
          n.slot ∉ x.number :: (post.takeWhile Slot.closed).map (·.number) } := by
  simp only [releaseSlots, hslots, takeWhile_closed_cons, PerEye.get_build, EyeTrigger.withdraw,
    List.contains_eq_mem, decide_not]
  rfl

/-- Each released slot's record is that of R80. -/
theorem forall₂_recordOf_map_record (slots : List Slot) : List.Forall₂ RecordOf slots (slots.map Slot.record) :=
  List.forall₂_map_right_iff.2 (List.forall₂_same.2 fun x _ => recordOf_record x)

/-- The close of a placed OPEN slot does all that R78 to R81 say of it. -/
theorem closeEffect_closeSlot (hplaced : PlacedAt pre x post s) (hopen : x.status = .collecting) :
    CloseEffect pre x post s (closeSlot x.number s) := by
  refine ⟨⟨x.judged, outcomeIs_judged x, fun hpre => ?_, fun hpre => ?_⟩, fun e => ?_, fun l k => ?_, ?_,
    closeSlot_frame x.number s⟩
  · rw [closeSlot_of_behind hplaced hopen hpre]
    exact ⟨judgeEyes_slots, judgeEyes_queue, judgeEyes_trig⟩
  · subst hpre
    rw [closeSlot_of_placed hplaced hopen]
    refine ⟨releaseSlots_slots_of_closed judgeEyes_slots, ⟨_, ?_, forall₂_recordOf_map_record _⟩, ?_, fun e => ?_⟩
    · rw [releaseSlots_queue_of_closed judgeEyes_slots, judgeEyes_queue]
      rfl
    · rw [releaseSlots_synth, judgeEyes_trig]
    · rw [releaseSlots_waiting_of_closed judgeEyes_slots, judgeEyes_trig]
      rfl
  · rw [closeSlot_of_placed hplaced hopen]
    rw [releaseSlots_eyes, judgeEyes_eyes]
    exact eyeJudged_afterClose
  · rw [closeSlot_of_placed hplaced hopen]
    exact holds_judgeEyes_iff
  · rw [closeSlot_of_placed hplaced hopen]
    exact onlyEvents_judgeEyes

/-- The completion test of a placed OPEN slot that is not complete does nothing (R77). -/
theorem closeIfComplete_of_incomplete (hplaced : PlacedAt pre x post s) (hopen : x.status = .collecting)
    (hincomplete : ¬ IsComplete x) : closeIfComplete x.number s = s := by
  simp only [closeIfComplete, hplaced.find? hopen, if_neg (mt x.complete_iff.1 hincomplete)]

theorem closeIfComplete_of_complete (hplaced : PlacedAt pre x post s) (hopen : x.status = .collecting)
    (hcomplete : IsComplete x) : closeIfComplete x.number s = closeSlot x.number s := by
  simp only [closeIfComplete, hplaced.find? hopen, if_pos (x.complete_iff.2 hcomplete)]

end Close

/-! ### Returns (R62, R63, R74, R77) -/

section Returns

variable {s : State} {e : Eye}

theorem strayEffect_strayReturn (e : Eye) (s : State) : StrayEffect e s (strayReturn e s) := by
  refine ⟨fun l => ?_, fun l => ?_, ?_⟩
  · rw [strayReturn, postAll_get]
  · rw [strayReturn, postAll_get]
  · rw [← bump_eq_min]
    rfl

/-- A return that no slot takes is a stray (R74). -/
theorem assignReturn_of_untaken (huntaken : ∀ x ∈ s.matcher.slots, ¬ TakesReturn e s.now x) :
    assignReturn e s = strayReturn e s := by
  have hnone : s.matcher.slots.find? (Slot.takes e s.now) = none :=
    List.find?_eq_none.2 fun x hx htakes => huntaken x hx (Slot.takes_iff.1 htakes)
  simp only [assignReturn, hnone]

/-- A return goes to the oldest slot that takes it, which then has its completion test (R74, R77). -/
theorem assignReturn_of_taken {pre post : List Slot} {x : Slot} (hslots : s.matcher.slots = pre ++ x :: post)
    (hbefore : ∀ y ∈ pre, ¬ TakesReturn e s.now y) (htakes : TakesReturn e s.now x) :
    assignReturn e s = closeIfComplete x.number
      { s with
        matcher :=
          { s.matcher with
            slots := pre ++ { x with returned := x.returned.set e (some s.now) } :: post } } := by
  have hpre : ∀ y ∈ pre, y.takes e s.now = false := fun y hy => by
    rw [← Bool.not_eq_true, Slot.takes_iff]
    exact hbefore y hy
  have hx : x.takes e s.now = true := Slot.takes_iff.2 htakes
  simp only [assignReturn, hslots, find?_append_cons hpre hx, updateFirst_append_cons _ hpre hx]

/-- The Pair Matcher does with a return what R74 and R77 say. -/
theorem returnEffect_assignReturn (e : Eye) (s : State) : ReturnEffect e s (assignReturn e s) := by
  refine ⟨fun huntaken => ?_, fun pre x post hplaced hbefore htakes x' hx' => ?_⟩
  · rw [assignReturn_of_untaken huntaken]
    exact strayEffect_strayReturn e s
  · have hnumber : x'.number = x.number := by rw [hx']
    have hopen : x'.status = .collecting := by rw [hx']; exact htakes.1
    have hplaced' := hplaced.replace hnumber
    rw [assignReturn_of_taken hplaced.1 hbefore htakes, ← hx', ← hnumber]
    refine ⟨closeIfComplete_of_incomplete hplaced' hopen, fun hcomplete => ?_⟩
    rw [closeIfComplete_of_complete hplaced' hopen hcomplete]
    exact closeEffect_closeSlot hplaced' hopen

end Returns

/-! ### Pulse ends and synthesised returns (R52, R58) -/

/-- The pulse on the line ends at its end time, and the last pulse is kept (R52). -/
theorem execTriggerPulseEnd_of_due {s : State} {e : Eye} (hpins : s.pins.resetAsserted = false)
    (hdue : EventDue s (.triggerPulseEnd e)) :
    execTriggerPulseEnd e s = .next (onEyeTrigger e (fun y => { y with active := false }) s) := by
  rw [execTriggerPulseEnd, live_of_released hpins, if_pos ((pulseEndDue_iff s e).2 hdue)]

/-- The first synthesised return that falls due now leaves its list and goes to the Pair Matcher (R58). -/
theorem handSynth_of_due {s : State} {e : Eye} {before after : List Time}
    (hsynth : s.trig.synth.get e = before ++ s.timing.timebase :: after) (hbefore : s.timing.timebase ∉ before) :
    handSynth e s =
      assignReturn e { s with trig := { s.trig with synth := s.trig.synth.set e (before ++ after) } } := by
  have herase : (before ++ s.timing.timebase :: after).erase s.timing.timebase = before ++ after := by
    rw [List.erase_append_right _ hbefore, List.erase_cons_head]
  simp only [handSynth, State.now, hsynth, herase, List.contains_iff_mem, List.mem_append, List.mem_cons, true_or,
    or_true, if_true]

/-- Settles O34: the end of the pulse on the line is one write, and the return due now is assigned like a real one. -/
theorem pulsesEndAndSynthesisedReturnsArrive : Obligations.PulsesEndAndSynthesisedReturnsArrive := by
  intro e s hpins
  refine ⟨fun p hactive hlast hstop => ?_, fun before after hsynth hbefore => ?_⟩
  · exact execTriggerPulseEnd_of_due hpins (.triggerPulseEnd e p hactive hlast hstop)
  · refine ⟨handSynth e s, live_of_released hpins (handSynth e), ?_⟩
    rw [handSynth_of_due hsynth hbefore]
    exact returnEffect_assignReturn e _

end Sys2Proof.Machine
end

section
/-!
PROOFS. Timecode labels (R84 to R87): a legal value is four numbers written in BCD, and the increment is the plain
successor of those numbers moved past the labels that drop mode skips.
-/

namespace Sys2Proof.Machine

/-! ### BCD bytes -/

/-- The BCD byte that shows a number below 100. -/
def bcdByte (n : Nat) : Byte := BitVec.ofNat 8 (16 * (n / 10) + n % 10)

section BcdByte

variable {n : Nat} {b : Byte}

theorem bcdByte_toNat (h : n < 100) : (bcdByte n).toNat = 16 * (n / 10) + n % 10 := by
  rw [bcdByte, BitVec.toNat_ofNat]
  omega

theorem bcdByte_zero : bcdByte 0 = 0 := by
  decide

theorem eq_bcdByte_iff (h : n < 100) : b = bcdByte n ↔ b.toNat = 16 * (n / 10) + n % 10 := by
  rw [← BitVec.toNat_inj, bcdByte_toNat h]

theorem tens_bcdByte (h : n < 100) : tens (bcdByte n) = n / 10 := by
  rw [tens, bcdByte_toNat h]
  omega

theorem units_bcdByte (h : n < 100) : units (bcdByte n) = n % 10 := by
  rw [units, bcdByte_toNat h]
  omega

theorem bcdValue_bcdByte (h : n < 100) : bcdValue (bcdByte n) = n := by
  rw [bcdValue, tens_bcdByte h, units_bcdByte h]
  omega

theorem bcdDigits_iff : bcdDigits b = true ↔ tens b ≤ 9 ∧ units b ≤ 9 := by
  simp [bcdDigits]

theorem bcdDigits_bcdByte (h : n < 100) : bcdDigits (bcdByte n) = true := by
  rw [bcdDigits_iff, tens_bcdByte h, units_bcdByte h]
  omega

theorem bcdByte_eq_zero_iff (h : n < 100) : bcdByte n = 0#8 ↔ n = 0 := by
  rw [eq_comm, eq_bcdByte_iff h, BitVec.toNat_zero]
  omega

/-- A byte of two decimal digits is the one that shows its value. -/
theorem bcdByte_bcdValue (h : bcdDigits b = true) : bcdByte (bcdValue b) = b := by
  simp only [bcdDigits_iff, tens, units] at h
  have hlt : bcdValue b < 100 := by
    simp only [bcdValue, tens, units]
    omega
  rw [eq_comm, eq_bcdByte_iff hlt]
  simp only [bcdValue, tens, units]
  omega

/-- The raise with its decimal carry adds one to the number shown (R86). -/
theorem bcdRaise_bcdByte (h : n + 1 < 100) : bcdRaise (bcdByte n) = bcdByte (n + 1) := by
  have hn : n < 100 := by omega
  rw [eq_bcdByte_iff h, bcdRaise, units_bcdByte hn, tens_bcdByte hn]
  split
  · rw [BitVec.toNat_add, bcdByte_toNat hn, show (1 : Byte).toNat = 1 from rfl]
    omega
  · rw [BitVec.toNat_ofNat]
    omega

end BcdByte

/-! ### Frame labels as numbers -/

/-- The four numbers of a frame label. -/
structure FrameLabel where
  hours : Nat
  minutes : Nat
  seconds : Nat
  frames : Nat

namespace FrameLabel

/-- The timecode value that shows a label. -/
def bcd (x : FrameLabel) : Timecode :=
  ⟨bcdByte x.hours, bcdByte x.minutes, bcdByte x.seconds, bcdByte x.frames⟩

theorem bcd_mk (h m c f : Nat) : bcd ⟨h, m, c, f⟩ = ⟨bcdByte h, bcdByte m, bcdByte c, bcdByte f⟩ := rfl

/-- The label's number, counted from 00:00:00:00 with no label skipped. -/
def count (x : FrameLabel) (base : Nat) : Nat :=
  ((x.hours * 60 + x.minutes) * 60 + x.seconds) * base + x.frames

/-- The label's numbers are within the limits of a day. -/
structure InDay (x : FrameLabel) (base : Nat) : Prop where
  hours : x.hours ≤ 23
  minutes : x.minutes ≤ 59
  seconds : x.seconds ≤ 59
  frames : x.frames < base

/-- Drop mode skips the label (condition 5 of R85). -/
abbrev Skipped (x : FrameLabel) (base : Nat) (drop : Bool) : Prop :=
  drop = true ∧ x.seconds = 0 ∧ x.minutes % 10 ≠ 0 ∧ x.frames < base / 15

/-- The conditions of R85 on a label's numbers. -/
structure Legal (x : FrameLabel) (base : Nat) (drop : Bool) : Prop where
  inDay : x.InDay base
  dropBase : drop = true → base = 30 ∨ base = 60
  kept : ¬ x.Skipped base drop

/-- The next label of the day with none skipped (R86). -/
def succ (x : FrameLabel) (base : Nat) : FrameLabel :=
  if x.frames + 1 ≠ base then ⟨x.hours, x.minutes, x.seconds, x.frames + 1⟩
  else if x.seconds + 1 ≠ 60 then ⟨x.hours, x.minutes, x.seconds + 1, 0⟩
  else if x.minutes + 1 ≠ 60 then ⟨x.hours, x.minutes + 1, 0, 0⟩
  else if x.hours + 1 ≠ 24 then ⟨x.hours + 1, 0, 0, 0⟩
  else ⟨0, 0, 0, 0⟩

/-- The label, or the first one after those skipped (R87). -/
def pastSkip (x : FrameLabel) (base : Nat) (drop : Bool) : FrameLabel :=
  if x.Skipped base drop then { x with frames := base / 15 } else x

end FrameLabel

/-! ### Legal values (R85) -/

theorem legalBase_iff {base : Nat} :
    legalBase base = true ↔ base = 24 ∨ base = 25 ∨ base = 30 ∨ base = 48 ∨ base = 50 ∨ base = 60 := by
  simp [legalBase]

theorem dropFrames_eq_bcdByte {base : Nat} (h : base = 30 ∨ base = 60) : dropFrames base = bcdByte (base / 15) := by
  obtain rfl | rfl := h <;> rfl

section Legality

variable {x : FrameLabel} {v : Timecode} {base : Nat} {drop : Bool}

theorem labelNumber_bcd (hx : x.InDay base) (hbase : base ≤ 60) : labelNumber x.bcd base = x.count base := by
  obtain ⟨hh, hm, hc, hf⟩ := hx
  simp (disch := omega) only [labelNumber, FrameLabel.bcd, bcdValue_bcdByte, FrameLabel.count]

/-- Over the numbers of a day the model's test is R85's drop conditions. -/
theorem legalTimecode_bcd (hx : x.InDay base) (hbase : base ≤ 60) :
    legalTimecode x.bcd base drop = true ↔ x.Legal base drop := by
  have hlegal : x.Legal base drop ↔ (drop = true → base = 30 ∨ base = 60) ∧ ¬ x.Skipped base drop :=
    ⟨fun h => ⟨h.dropBase, h.kept⟩, fun h => ⟨hx, h.1, h.2⟩⟩
  obtain ⟨hh, hm, hc, hf⟩ := hx
  rw [hlegal]
  cases drop with
  | false =>
    simp (disch := omega) [legalTimecode, FrameLabel.bcd, bcdDigits_bcdByte, bcdValue_bcdByte, hh, hm, hc, hf]
  | true =>
    by_cases hdrop : base = 30 ∨ base = 60
    · have hskip : bcdValue (dropFrames base) = base / 15 := by
        rw [dropFrames_eq_bcdByte hdrop, bcdValue_bcdByte (by omega)]
      simp (disch := omega) [legalTimecode, FrameLabel.bcd, bcdDigits_bcdByte, bcdValue_bcdByte, units_bcdByte,
        bcdByte_eq_zero_iff, hskip, hh, hm, hc, hf, hdrop]
      tauto
    · simp [legalTimecode, hdrop]

/-- A legal value shows four numbers of a day. -/
theorem exists_bcd_of_legalTimecode (h : legalTimecode v base drop = true) :
    ∃ x : FrameLabel, x.InDay base ∧ v = x.bcd := by
  simp only [legalTimecode, Bool.and_eq_true, decide_eq_true_iff] at h
  obtain ⟨⟨⟨⟨⟨⟨⟨⟨⟨dh, dm⟩, dc⟩, df⟩, hh⟩, hm⟩, hc⟩, hf⟩, -⟩, -⟩ := h
  refine ⟨⟨bcdValue v.hours, bcdValue v.minutes, bcdValue v.seconds, bcdValue v.frames⟩,
    ⟨hh, hm, hc, hf⟩, ?_⟩
  simp only [FrameLabel.bcd, bcdByte_bcdValue dh, bcdByte_bcdValue dm, bcdByte_bcdValue dc, bcdByte_bcdValue df]

/-- The legal values are those that show a legal label. -/
theorem legalTimecode_iff (hbase : base ≤ 60) :
    legalTimecode v base drop = true ↔ ∃ x : FrameLabel, x.Legal base drop ∧ v = x.bcd := by
  constructor
  · intro h
    obtain ⟨x, hx, rfl⟩ := exists_bcd_of_legalTimecode h
    exact ⟨x, (legalTimecode_bcd hx hbase).1 h, rfl⟩
  · rintro ⟨x, hx, rfl⟩
    exact (legalTimecode_bcd hx.inDay hbase).2 hx

theorem eq_bcd_iff (hx : x.InDay base) (hbase : base ≤ 60) :
    v = x.bcd ↔ v.hours.toNat = 16 * (x.hours / 10) + x.hours % 10 ∧
      v.minutes.toNat = 16 * (x.minutes / 10) + x.minutes % 10 ∧
      v.seconds.toNat = 16 * (x.seconds / 10) + x.seconds % 10 ∧
      v.frames.toNat = 16 * (x.frames / 10) + x.frames % 10 := by
  obtain ⟨hh, hm, hc, hf⟩ := hx
  rw [← eq_bcdByte_iff (by omega), ← eq_bcdByte_iff (by omega), ← eq_bcdByte_iff (by omega),
    ← eq_bcdByte_iff (by omega)]
  cases v
  simp only [FrameLabel.bcd, Timecode.mk.injEq]

end Legality

/-! ### The increment (R86, R87) -/

namespace FrameLabel

variable {x : FrameLabel} {base : Nat} {drop : Bool}

/-- The successor stays within the day. -/
theorem InDay.succ (hx : x.InDay base) : (x.succ base).InDay base := by
  obtain ⟨hh, hm, hc, hf⟩ := hx
  unfold FrameLabel.succ
  split_ifs <;> constructor <;> dsimp only <;> omega

/-- A label's number is its place in its minute and the number of that minute. -/
theorem count_eq (x : FrameLabel) (base : Nat) :
    x.count base = (x.seconds * base + x.frames) + 60 * base * (x.hours * 60 + x.minutes) := by
  rw [count]
  ring

theorem InDay.place_lt (hx : x.InDay base) : x.seconds * base + x.frames < 60 * base :=
  calc x.seconds * base + x.frames < x.seconds * base + base := Nat.add_lt_add_left hx.frames _
    _ = (x.seconds + 1) * base := (Nat.add_one_mul _ _).symm
    _ ≤ 60 * base := Nat.mul_le_mul_right base (Nat.succ_le_succ hx.seconds)

theorem InDay.count_mod_minute (hx : x.InDay base) : x.count base % (60 * base) = x.seconds * base + x.frames := by
  rw [count_eq, Nat.add_mul_mod_self_left, Nat.mod_eq_of_lt hx.place_lt]

theorem InDay.count_div_minute (hx : x.InDay base) : x.count base / (60 * base) = x.hours * 60 + x.minutes := by
  have hpos : 0 < 60 * base := Nat.zero_lt_of_lt hx.place_lt
  rw [count_eq, Nat.add_mul_div_left _ _ hpos, Nat.div_eq_of_lt hx.place_lt, Nat.zero_add]

theorem InDay.count_lt (hx : x.InDay base) : x.count base < 86400 * base :=
  calc x.count base < 60 * base + 60 * base * (x.hours * 60 + x.minutes) := by
        rw [count_eq]
        exact Nat.add_lt_add_right hx.place_lt _
    _ = 60 * base * (x.hours * 60 + x.minutes + 1) := by ring
    _ ≤ 60 * base * 1440 := Nat.mul_le_mul_left _ (by have := hx.hours; have := hx.minutes; omega)
    _ = 86400 * base := by ring

/-- The last frame of a second is the last before a multiple of the base. -/
theorem count_add_one_of_last_frame (h m c : Nat) {f base : Nat} (hf : f + 1 = base) :
    count ⟨h, m, c, f⟩ base + 1 = ((h * 60 + m) * 60 + (c + 1)) * base := by
  rw [count, ← Nat.add_assoc, Nat.add_one_mul, Nat.add_assoc _ f 1, hf]

/-- The successor's number is one more, but for the wrap at the end of the day. -/
theorem InDay.count_succ_or_wrap (hx : x.InDay base) :
    x.count base + 1 = (x.succ base).count base ∨ x.count base + 1 = (x.succ base).count base + 86400 * base := by
  obtain ⟨h, m, c, f⟩ := x
  obtain ⟨hh, hm, hc, hf⟩ := hx
  dsimp only [FrameLabel.succ] at hh hm hc hf ⊢
  split_ifs with hframe hsecond hminute hhour
  · exact .inl rfl
  all_goals rw [count_add_one_of_last_frame h m c (not_not.1 hframe)]
  · exact .inl rfl
  · obtain rfl : c = 59 := by omega
    exact .inl (congrArg (· * base) (by dsimp only; omega))
  · obtain ⟨rfl, rfl⟩ : m = 59 ∧ c = 59 := by omega
    exact .inl (congrArg (· * base) (by dsimp only; omega))
  · obtain ⟨rfl, rfl, rfl⟩ : h = 23 ∧ m = 59 ∧ c = 59 := by omega
    exact .inr (by simp [count])

/-- The successor's number is one more, modulo a day. -/
theorem InDay.count_succ (hx : x.InDay base) : (x.succ base).count base = (x.count base + 1) % (86400 * base) := by
  have hlt := hx.succ.count_lt
  obtain h | h := hx.count_succ_or_wrap
  · rw [h, Nat.mod_eq_of_lt hlt]
  · rw [h, Nat.add_mod_right, Nat.mod_eq_of_lt hlt]

theorem Legal.kept_of_later_frame (hx : x.Legal base drop) :
    ¬ Skipped ⟨x.hours, x.minutes, x.seconds, x.frames + 1⟩ base drop :=
  fun ⟨hdrop, hc, hm, hf⟩ => hx.kept ⟨hdrop, hc, hm, Nat.lt_of_succ_lt hf⟩

/-- Of a legal label's successors drop mode skips only one with frames 00. -/
theorem Legal.frames_of_skipped_succ (hx : x.Legal base drop) (hskip : (x.succ base).Skipped base drop) :
    (x.succ base).frames = 0 := by
  unfold succ at hskip ⊢
  split_ifs at hskip ⊢
  · exact absurd hskip hx.kept_of_later_frame
  all_goals rfl

/-- The number of a legal label's successor tells whether it is skipped. -/
theorem Legal.skipped_succ_iff (hx : x.Legal base drop) :
    (x.succ base).Skipped base drop ↔ drop = true ∧ (x.succ base).count base % (60 * base) = 0 ∧
      (x.succ base).count base / (60 * base) % 10 ≠ 0 := by
  have hday := hx.inDay.succ
  have hpos : base ≠ 0 := Nat.ne_zero_of_lt hday.frames
  have hminute : ((x.succ base).hours * 60 + (x.succ base).minutes) % 10 = (x.succ base).minutes % 10 := by omega
  rw [hday.count_mod_minute, hday.count_div_minute, hminute, Nat.add_eq_zero_iff, Nat.mul_eq_zero, or_iff_left hpos]
  constructor
  · intro hskip
    have hzero := hx.frames_of_skipped_succ hskip
    obtain ⟨hdrop, hc, hm, -⟩ := hskip
    exact ⟨hdrop, ⟨hc, hzero⟩, hm⟩
  · rintro ⟨hdrop, ⟨hc, hzero⟩, hm⟩
    have hbase := hx.dropBase hdrop
    exact ⟨hdrop, hc, hm, by omega⟩

theorem pastSkip_of_skipped (h : x.Skipped base drop) : x.pastSkip base drop = { x with frames := base / 15 } :=
  if_pos h

theorem pastSkip_of_kept (h : ¬ x.Skipped base drop) : x.pastSkip base drop = x :=
  if_neg h

/-- The drop step makes a label of the day legal. -/
theorem InDay.legal_pastSkip (hx : x.InDay base) (hdrop : drop = true → base = 30 ∨ base = 60) :
    (x.pastSkip base drop).Legal base drop := by
  by_cases hskip : x.Skipped base drop
  · rw [pastSkip_of_skipped hskip]
    have hpos : 0 < base := Nat.zero_lt_of_lt hx.frames
    exact ⟨⟨hx.hours, hx.minutes, hx.seconds, Nat.div_lt_self hpos (by decide)⟩, hdrop,
      fun ⟨_, _, _, hlt⟩ => Nat.lt_irrefl _ hlt⟩
  · rw [pastSkip_of_kept hskip]
    exact ⟨hx, hdrop, hskip⟩

/-- The label that follows a legal one is counted one further, or past the labels skipped there. -/
theorem Legal.count_next (hx : x.Legal base drop) {n : Nat} (hn : n = (x.count base + 1) % (86400 * base)) :
    ((x.succ base).pastSkip base drop).count base =
      if drop = true ∧ n % (60 * base) = 0 ∧ n / (60 * base) % 10 ≠ 0 then n + base / 15 else n := by
  obtain rfl : n = (x.succ base).count base := hn.trans hx.inDay.count_succ.symm
  simp only [← hx.skipped_succ_iff]
  by_cases hskip : (x.succ base).Skipped base drop
  · rw [if_pos hskip, pastSkip_of_skipped hskip]
    simp only [count, hx.frames_of_skipped_succ hskip, Nat.add_zero]
  · rw [if_neg hskip, pastSkip_of_kept hskip]

end FrameLabel

/-- After a carry into the minutes the model's frames are those of the drop step (R87). -/
theorem bcd_pastSkip_of_carry {h m base : Nat} {drop : Bool} (hm : m < 100)
    (hdrop : drop = true → base = 30 ∨ base = 60) :
    (FrameLabel.pastSkip ⟨h, m, 0, 0⟩ base drop).bcd =
      ⟨bcdByte h, bcdByte m, 0, droppedFrames (bcdByte m) base drop⟩ := by
  have hcond : (drop && units (bcdByte m) != 0) = true ↔ drop = true ∧ m % 10 ≠ 0 := by
    simp [units_bcdByte hm]
  by_cases hskips : drop = true ∧ m % 10 ≠ 0
  · have hbase := hdrop hskips.1
    have hskip : FrameLabel.Skipped ⟨h, m, 0, 0⟩ base drop := ⟨hskips.1, rfl, hskips.2, by dsimp only; omega⟩
    rw [FrameLabel.pastSkip_of_skipped hskip, droppedFrames, if_pos (hcond.2 hskips), dropFrames_eq_bcdByte hbase,
      FrameLabel.bcd_mk, bcdByte_zero]
  · have hkept : ¬ FrameLabel.Skipped ⟨h, m, 0, 0⟩ base drop := fun ⟨hd, _, hm', _⟩ => hskips ⟨hd, hm'⟩
    rw [FrameLabel.pastSkip_of_kept hkept, droppedFrames, if_neg (mt hcond.1 hskips), FrameLabel.bcd_mk, bcdByte_zero]

/-- The model's increment of a legal value is the drop step taken on the plain successor (R86, R87). -/
theorem nextTimecode_bcd {x : FrameLabel} {base : Nat} {drop : Bool} (hx : x.Legal base drop) (hbase : base ≤ 60) :
    nextTimecode x.bcd base drop = ((x.succ base).pastSkip base drop).bcd := by
  have hcarry (h m : Nat) (hm : m < 100) := bcd_pastSkip_of_carry (h := h) hm hx.dropBase
  obtain ⟨h, m, c, f⟩ := x
  obtain ⟨hh, hm, hc, hf⟩ := hx.inDay
  dsimp only [FrameLabel.succ] at hh hm hc hf ⊢
  simp (disch := omega) only [nextTimecode, FrameLabel.bcd_mk, bcdRaise_bcdByte, bcdValue_bcdByte]
  split_ifs with hframe hsecond hminute hhour
  · rw [FrameLabel.pastSkip_of_kept hx.kept_of_later_frame, FrameLabel.bcd_mk]
  · have hkept : ¬ FrameLabel.Skipped ⟨h, m, c + 1, 0⟩ base drop := fun hskip => Nat.succ_ne_zero c hskip.2.1
    rw [FrameLabel.pastSkip_of_kept hkept, FrameLabel.bcd_mk, bcdByte_zero]
  · exact (hcarry h (m + 1) (by omega)).symm
  · exact (hcarry (h + 1) 0 (by decide)).symm
  · exact (hcarry 0 0 (by decide)).symm

/-- Settles O37: a value is read as the label it shows, and the increment as that label's successor. -/
theorem timecodeLabelsAreLegalAndCounted : Obligations.TimecodeLabelsAreLegalAndCounted := by
  intro v base drop
  refine ⟨?_, fun hbase hlegal => ?_⟩
  · rw [legalBase_iff]
    refine and_congr_right fun hbase => ?_
    have hle : base ≤ 60 := by omega
    rw [legalTimecode_iff hle]
    constructor
    · rintro ⟨x, hx, hv⟩
      obtain ⟨hh, hm, hc, hf⟩ := (eq_bcd_iff hx.inDay hle).1 hv
      have hday := hx.inDay
      exact ⟨x.hours, x.minutes, x.seconds, x.frames, hday.hours, hday.minutes, hday.seconds, hday.frames, hh, hm, hc,
        hf, fun hdrop => ⟨hx.dropBase hdrop, fun hskip => hx.kept ⟨hdrop, hskip⟩⟩⟩
    · rintro ⟨h, m, c, f, hh, hm, hc, hf, hvh, hvm, hvc, hvf, hdrop⟩
      have hday : FrameLabel.InDay ⟨h, m, c, f⟩ base := ⟨hh, hm, hc, hf⟩
      exact ⟨_, ⟨hday, fun hd => (hdrop hd).1, fun hskip => (hdrop hskip.1).2 hskip.2⟩,
        (eq_bcd_iff hday hle).2 ⟨hvh, hvm, hvc, hvf⟩⟩
  · have hle : base ≤ 60 := by
      have := legalBase_iff.1 hbase
      omega
    obtain ⟨x, hx, rfl⟩ := (legalTimecode_iff hle).1 hlegal
    have hnext := hx.inDay.succ.legal_pastSkip hx.dropBase
    rw [nextTimecode_bcd hx hle, labelNumber_bcd hx.inDay hle, labelNumber_bcd hnext.inDay hle]
    exact ⟨(legalTimecode_iff hle).2 ⟨_, hnext, rfl⟩, fun n => hx.count_next⟩

end Sys2Proof.Machine
end

section
/-!
PROOFS. The Event Unit's own commands: EVENT_READ (R176), EVENT_MASK (R177) and IDENTIFY (R174).
-/

namespace Sys2Proof.Machine

/-! ### Replies formed after a change of the link's own registers -/

section OwnLink

variable (s : State) (l : Link) (f : LinkState → LinkState) (st : Status) (data : List Byte)

/-- However its EVT bit is chosen, the reply leaves the other links as they were when the command was taken. -/
theorem otherLinks_replyWith_onLink (evt : Bool) :
    OtherLinks l s (replyWith l st data evt ((s.taken l .unicast).onLink l f)) := by
  intro k hk
  rw [replyWith_get_ne _ st data evt hk, onLink_get_ne _ f hk, taken_get_ne .unicast hk]

@[simp] theorem replyWith_events (evt : Bool) :
    ((replyWith l st data evt s).links.get l).events = (s.links.get l).events := by
  rw [replyWith_get_self, answered_events]

@[simp] theorem replyWith_mask (evt : Bool) :
    ((replyWith l st data evt s).links.get l).mask = (s.links.get l).mask := by
  rw [replyWith_get_self, answered_mask]

end OwnLink

/-! ### EVENT_READ (R176) -/

/-- Masking a pending set with one kind keeps that kind if it was pending, and no other. -/
theorem holds_and_mask (events : EventSet) (k j : EventKind) :
    holds (events &&& k.mask) j = (holds events j && decide (j = k)) := by
  simp only [holds, BitVec.getLsbD_and, EventKind.getLsbD_mask]

/-- The link after EVENT_READ took its pending set. -/
def LinkState.eventsTaken (x : LinkState) : LinkState := { x with events := x.events &&& EventKind.logReady.mask }

/-- The reply is formed after the clearing, on the set as it stood before it. -/
theorem takeEventRead_taken (s : State) (l : Link) :
    takeEventRead l (s.taken l .unicast) =
      reply l .ok (bytesOf 2 (s.links.get l).events.toNat) ((s.taken l .unicast).onLink l LinkState.eventsTaken) := by
  rw [← taken_events l l .unicast]
  rfl

/-- Settles O16: the owner clears the set before it forms the reply, so EVT goes by what is left. -/
theorem eventReadTakesAllButLogReady : Obligations.EventReadTakesAllButLogReady := by
  intro l s hready
  refine ⟨takeEventRead l (s.taken l .unicast), handOver_ready hready .unicast _, ?_⟩
  rw [takeEventRead_taken]
  refine ⟨reply_answered .ok _ rfl ?_, fun k => ?_, ?_, otherLinks_replyWith_onLink s l _ _ _ _, rfl⟩
  · simp [LinkState.eventsTaken]
  · simp [reply, LinkState.eventsTaken, holds_and_mask]
  · simp [reply, LinkState.eventsTaken]

/-! ### EVENT_MASK (R177) -/

/-- The link after EVENT_MASK wrote its mask. -/
def LinkState.masked (mask : BitVec 16) (x : LinkState) : LinkState := { x with mask := mask.setWidth 13 }

theorem takeEventMask_of_no_kind {mask : BitVec 16} (h : 8192 ≤ mask.toNat) (s : State) (l : Link) :
    takeEventMask l mask s = reply l .val [] s :=
  if_pos h

theorem takeEventMask_of_kinds {mask : BitVec 16} (h : mask.toNat < 8192) (s : State) (l : Link) :
    takeEventMask l mask s = replyDuring s l .ok [] (s.onLink l (LinkState.masked mask)) :=
  if_neg (Nat.not_le.2 h)

/-- Settles O17: bits 13 to 15 decide VAL, and below them the mask is written whole. -/
theorem eventMaskTakesThirteenKinds : Obligations.EventMaskTakesThirteenKinds := by
  intro l mask s hready
  refine ⟨takeEventMask l mask (s.taken l .unicast), handOver_ready hready .unicast _, fun hout => ?_, fun hin => ?_⟩
  · rw [takeEventMask_of_no_kind hout]
    exact reply_taken l .val []
  · rw [takeEventMask_of_kinds hin]
    refine ⟨replyDuring_answered .ok [] rfl ?_ (taken_attention l l .unicast), ?_, ?_,
      otherLinks_replyWith_onLink s l _ _ _ _, rfl⟩
    · simp [LinkState.masked]
    · simp [replyDuring, LinkState.masked, Nat.mod_eq_of_lt hin]
    · simp [replyDuring, LinkState.masked]

/-! ### IDENTIFY (R174) -/

/-- Settles O18: the identity is read from the straps and the link alone, and the reply is all the command does. -/
theorem identifyNamesPartUnitAndLink : Obligations.IdentifyNamesPartUnitAndLink := by
  intro l s hready
  refine ⟨takeIdentify l (s.taken l .unicast), handOver_ready hready .unicast _, ?_⟩
  have hanswer : AnsweredOnly l .ok (identity l s) s (takeIdentify l (s.taken l .unicast)) := reply_taken l .ok _
  cases l <;> exact hanswer

end Sys2Proof.Machine
end

section
/-!
PROOFS. The dispatch of commands: what the row of a link command and the row of an event of the part's own run, which
blocks a command's owner can move, and the rule by which an invariant is kept by every step. With them the statements
about the step, the resets and the receiver of a link (R24, R153, R161 to R172, R182, R183).
-/

namespace Sys2Proof.Machine

/-! ### Rows of the command table -/

/-- The row of a link command is the hand-over of its whole message to its owner (R168, R172, log 10). -/
theorem exec_of_message {i : Instr} {m : Message} (h : i.message = some m) (s : State) :
    exec i s = live s (handOver m.l m.cast (takeCommand i)) := by
  cases i with
  | run l cast start => cases start <;> cases h <;> rfl
  | _ => cases h <;> rfl

/-- The OPEN slot with this number closes if its deadline is now (R73). -/
def closeAtDeadline (n : BitVec 32) (s : State) : State :=
  match s.matcher.slots.find? (Slot.isOpenNumber n) with
  | some x => if x.deadline = s.now then closeSlot n s else s
  | none => s

/-- What the row of an event of the part's own does with RESET# released; nothing for any other row. -/
def eventEffect : Instr → State → State
  | .planEditLapse => fun s => if editLapseDue s then lapseEdit s else s
  | .planApply => fun s => if s.plan.stage = .committing then settleWaiting s else s
  | .timecodePendingApply => fun s => if s.tc.waiting.isSome then settleWaiting s else s
  | .tableLapse eye axis => fun s => if tableLapseDue ⟨eye, axis⟩ s then lapseTable ⟨eye, axis⟩ s else s
  | .scheduleBoundary => fun s => if scheduleDue s then takeBoundary s .schedule s else s
  | .refPulse r => refPulse r
  | .refAbsenceExpiry r => fun s => if absenceDue r s then expireInput r s else s
  | .returnEdge e => routeReturn e
  | .leftReturnLapse => fun s => if leftLapseDue s then lapseLeft s else s
  | .triggerDecision e => decideTrigger e
  | .triggerPulseEnd e => fun s => if pulseEndDue e s then onEyeTrigger e (fun y => { y with active := false }) s else s
  | .synthReturn e => handSynth e
  | .slotDeadline n => closeAtDeadline n
  | .reachStopped => fun s => stopIfDrained s s
  | .arbiterGrant => fun s => if grantDue s then grant s else s
  | .burstEnd => finishBurst
  | .scanDue => fun s => if scanTimerDue s then scanTimer s else s
  | .conversionsDone codes => fun s => if conversionsDue s ∧ codes = scanConversions s then endConversions s else s
  | _ => id

/-- The rows that neither spell a message nor are an event of a block: the two reset rows and the four of a
receiver. -/
def isReceiverOrReset : Instr → Bool
  | .pinReset | .resetRelease _ _ | .receiveCharacter _ _ _ | .messageReceived _ _ | .interCharacterTimeout _
  | .replySent _ => true
  | _ => false

theorem exec_of_event {i : Instr} (hm : i.message = none) (ho : isReceiverOrReset i = false) (s : State) :
    exec i s = live s (eventEffect i) := by
  cases i with
  | run l cast start => cases start <;> cases hm
  | pinReset | resetRelease | receiveCharacter | messageReceived | interCharacterTimeout | replySent => cases ho
  | _ => cases hm <;> rfl

/-- Every row but the two reset rows acts with RESET# released alone (log 4). -/
theorem exec_eq_live {i : Instr} (hpin : i ≠ .pinReset) (hrelease : ∀ sel rate, i ≠ .resetRelease sel rate)
    (s : State) : ∃ f, exec i s = live s f := by
  cases hm : i.message with
  | some m => exact ⟨_, exec_of_message hm s⟩
  | none =>
    cases ho : isReceiverOrReset i with
    | false => exact ⟨_, exec_of_event hm ho s⟩
    | true =>
      cases i with
      | pinReset => exact absurd rfl hpin
      | resetRelease sel rate => exact absurd rfl (hrelease sel rate)
      | receiveCharacter l ch framingError => exact ⟨receiveCharacter l ch framingError, rfl⟩
      | messageReceived l check => exact ⟨_, rfl⟩
      | interCharacterTimeout l => exact ⟨_, rfl⟩
      | replySent l => exact ⟨_, rfl⟩
      | _ => cases ho

/-- Settles O1: `step` takes the queue apart, and its first case is the statement. -/
theorem stepTakesTheFrontCommand : Obligations.StepTakesTheFrontCommand := by
  intro c rest s
  rfl

/-- Settles O3: every other row is `live`, which RESET# stops. -/
theorem onlyResetCommandsActUnderReset : Obligations.OnlyResetCommandsActUnderReset := by
  intro c s hpins hpin hrelease
  obtain ⟨f, hf⟩ := exec_eq_live hpin hrelease s
  rw [hf, live, if_pos hpins]

/-- Settles O4: the state under RESET# is written out block by block in `assertReset`. -/
theorem pinResetSetsEveryBlock : Obligations.PinResetSetsEveryBlock := by
  intro s
  refine ⟨assertReset s, rfl, rfl, rfl, rfl, rfl, rfl, rfl, rfl, rfl, fun e => ?_, rfl, rfl, rfl, rfl, rfl, rfl,
    fun l => ?_, fun c => ?_, fun x => ?_, fun c => ?_, rfl, rfl, rfl, fun c => ?_, fun x => ?_, rfl, fun l => ?_⟩
  · cases e <;> exact ⟨rfl, rfl, rfl⟩
  · exact PerLink.get_build _ l
  · exact channelGet_build _ c
  · exact PerAxis.get_build _ x
  · exact channelGet_build _ c
  · exact channelGet_build _ c
  · exact PerAxis.get_build _ x
  · exact PerLink.get_build _ l

/-- Settles O5: the release of an asserted RESET# is `releaseReset`. -/
theorem resetReleaseSamplesStrapsAndStartsTheSweep : Obligations.ResetReleaseSamplesStrapsAndStartsTheSweep := by
  intro sel rate s hpins
  refine ⟨releaseReset sel rate s, ?_, rfl, ?_, ?_⟩
  · simp only [exec, execResetRelease, hpins, if_true]
  · have hsel := sel.isLt
    simp only [releaseReset, State.unitCode, BitVec.toNat_add, BitVec.toNat_setWidth]
    simp
    omega
  · have hrate : ∀ r : BitVec 2, bitRate r = [57600, 115200, 460800, 921600].getD r.toNat 0 := by decide
    exact hrate rate

/-! ### The part left to itself -/

theorem not_eventDue_iff_dueEvents_eq_nil {s : State} : (∀ i, ¬ EventDue s i) ↔ dueEvents s = [] := by
  simp only [List.eq_nil_iff_forall_not_mem, mem_dueEvents]

/-- With an event due, one of those due is put into the queue (log 7). -/
theorem idle_of_due {s : State} (hpins : s.pins.resetAsserted = false) (hdue : dueEvents s ≠ []) :
    ∃ i ties, i ∈ dueEvents s ∧ idle s = .next { s with pending := [i], tieChoices := ties } := by
  rw [idle, if_neg (by simp [hpins])]
  obtain ⟨i, rest, hrest⟩ := List.exists_cons_of_ne_nil hdue
  rw [hrest]
  cases rest with
  | nil => exact ⟨i, s.tieChoices, List.mem_singleton_self i, rfl⟩
  | cons j rest =>
    have hlt : tieNumber s (i :: j :: rest).length < (i :: j :: rest).length := Nat.mod_lt _ (Nat.succ_pos _)
    refine ⟨_, s.tieChoices.tail, ?_, rfl⟩
    rw [List.getD_eq_getElem _ _ hlt]
    exact List.getElem_mem hlt

theorem idle_of_grant {s : State} (hpins : s.pins.resetAsserted = false) (hdue : dueEvents s = [])
    (hgrant : grantDue s = true) : idle s = .next { s with pending := [.arbiterGrant] } := by
  rw [idle, if_neg (by simp [hpins]), hdue]
  exact if_pos hgrant

theorem idle_of_nothing {s : State} (hpins : s.pins.resetAsserted = false) (hdue : dueEvents s = [])
    (hgrant : grantDue s = false) : idle s = tick s := by
  rw [idle, if_neg (by simp [hpins]), hdue]
  exact if_neg (by simp [hgrant])

theorem step_of_no_command {s : State} (h : s.pending = []) : step s = idle s := by
  rw [step, h]

/-- Settles O2: `idle` tries the events due, then the Arbiter's decision, then the tick, in this order. -/
theorem idlePartTakesDueEventsThenGrantsThenTicks : Obligations.IdlePartTakesDueEventsThenGrantsThenTicks := by
  intro s hpending hpins
  rw [step_of_no_command hpending]
  refine ⟨fun hdue => ?_, fun hdue hgrant => ?_, fun hdue hgrant hport => ?_⟩
  · have hne : dueEvents s ≠ [] := fun h => by
      obtain ⟨i, hi⟩ := hdue
      exact not_eventDue_iff_dueEvents_eq_nil.2 h i hi
    obtain ⟨i, ties, hi, hidle⟩ := idle_of_due hpins hne
    exact ⟨i, ties, mem_dueEvents.1 hi, hidle⟩
  · exact idle_of_grant hpins (not_eventDue_iff_dueEvents_eq_nil.1 hdue) (grantDue_iff.2 hgrant)
  · have hfree : grantDue s = false := by simpa using mt grantDue_iff.1 hgrant
    rw [idle_of_nothing hpins (not_eventDue_iff_dueEvents_eq_nil.1 hdue) hfree]
    refine ⟨s.lens.convert (s.timing.timebase + 1), ?_, conversionMade_convert _ _⟩
    simp only [tick, accessMissing, nextAccess, passTick, accessWord, hport]
    rfl

end Sys2Proof.Machine
end

section
/-!
PROOFS. The station links: the parity of a word (R151, R152), the receiver (R162 to R166, R169, R171), and the judging of
a complete message with its dispatch to a command's row (R167, R168, R172, R182, R183).
-/

namespace Sys2Proof.Machine

/-! ### Parity (R151, R152) -/

/-- The parity over any list of bit places of an exclusive or is the exclusive or of the parities. -/
theorem foldl_parity_xor (v w : MemWord) (places : List Nat) (a b : Bool) :
    places.foldl (fun odd i => odd ^^ (v ^^^ w).getLsbD i) (a ^^ b) =
      (places.foldl (fun odd i => odd ^^ v.getLsbD i) a ^^ places.foldl (fun odd i => odd ^^ w.getLsbD i) b) := by
  induction places generalizing a b with
  | nil => rfl
  | cons i places ih =>
    rw [List.foldl_cons, List.foldl_cons, List.foldl_cons, ← ih, BitVec.getLsbD_xor]
    congr 1
    simp only [Bool.xor_assoc, Bool.xor_left_comm]

theorem oddOnes_xor (v w : MemWord) : oddOnes (v ^^^ w) = (oddOnes v ^^ oddOnes w) :=
  foldl_parity_xor v w (List.range 17) false false

theorem oddOnes_one_shiftLeft : ∀ i : Fin 17, oddOnes (1#17 <<< i.val) = true := by decide

/-- Settles O7: a word with one bit has odd parity, and parity is additive. -/
theorem parityCatchesEveryChangeOfOneBit : Obligations.ParityCatchesEveryChangeOfOneBit := by
  refine ⟨fun d => ⟨passes_withParity d, wordData_withParity d⟩, fun w i hi => ?_⟩
  simp only [passes, oddOnes_xor, oddOnes_one_shiftLeft ⟨i, hi⟩, Bool.xor_true]

/-! ### Characters -/

theorem bodyCharacter_eq (b : Byte) : bodyCharacter b = b.setWidth 9 := by
  apply BitVec.eq_of_toNat_eq
  have hb := b.isLt
  simp only [bodyCharacter, BitVec.toNat_append, BitVec.toNat_setWidth, BitVec.toNat_ofNat]
  simp
  omega

theorem bodyCharacter_lead (b : Byte) : (bodyCharacter b).getLsbD 8 = false := by
  simp [bodyCharacter_eq]

theorem bodyCharacter_byte (b : Byte) : (bodyCharacter b).setWidth 8 = b := by
  simp [bodyCharacter_eq]

section Receiver

variable {s : State} {l : Link} {ch : BitVec 9}

theorem busy_iff {x : LinkState} : x.busy = true ↔ x.state = .executing ∨ x.state = .replying := by
  simp [LinkState.busy]

theorem not_busy_of_assembling {x : LinkState} (h : x.state = .addressed ∨ x.state = .body) : x.busy = false := by
  rcases h with h | h <;> simp [LinkState.busy, h]

/-- A link that executes or replies discards the character and marks OVR (R169). -/
theorem receiveCharacter_of_busy (framingError : Bool)
    (h : (s.links.get l).state = .executing ∨ (s.links.get l).state = .replying) :
    receiveCharacter l ch framingError s = s.onLink l fun x => { x with ovr := true } := by
  rcases h with h | h <;> simp only [receiveCharacter, h]

/-- In IDLE a lead with the unit code or FFH is taken (R163). -/
theorem receiveCharacter_of_idle_lead (h : (s.links.get l).state = .idle) (hlead : ch.getLsbD 8 = true)
    (hbyte : ch.setWidth 8 = s.unitCode ∨ ch.setWidth 8 = 0xFF#8) :
    receiveCharacter l ch false s = receiveLead l (ch.setWidth 8) s := by
  rcases hbyte with hbyte | hbyte <;> simp [receiveCharacter, h, hlead, hbyte]

/-- Every other character is ignored in IDLE (R163). -/
theorem receiveCharacter_of_idle_ignored (framingError : Bool) (h : (s.links.get l).state = .idle)
    (hignored : framingError = true ∨ ch.getLsbD 8 = false ∨
      (ch.setWidth 8 ≠ s.unitCode ∧ ch.setWidth 8 ≠ 0xFF#8)) : receiveCharacter l ch framingError s = s := by
  have htest : (framingError || !ch.getLsbD 8 || (ch.setWidth 8 != s.unitCode && ch.setWidth 8 != 0xFF#8)) = true := by
    rcases hignored with hfe | hlead | ⟨hunit, hall⟩
    · simp [hfe]
    · rw [hlead]; simp
    · simp [hunit, hall]
  simp only [receiveCharacter, h]
  exact if_pos htest

/-- While a message is assembled a framing error is a fault, a lead begins anew, and any other character is the
message's (R164 to R166). -/
theorem receiveCharacter_of_assembling (framingError : Bool)
    (h : (s.links.get l).state = .addressed ∨ (s.links.get l).state = .body) :
    receiveCharacter l ch framingError s =
      if framingError then linkFault l s
      else if ch.getLsbD 8 then receiveLead l (ch.setWidth 8) s else receiveBody l (ch.setWidth 8) s := by
  rcases h with h | h <;> simp only [receiveCharacter, h]

theorem receiveCharacter_of_body_character {b : Byte}
    (h : (s.links.get l).state = .addressed ∨ (s.links.get l).state = .body) :
    receiveCharacter l (bodyCharacter b) false s = receiveBody l b s := by
  rw [receiveCharacter_of_assembling false h, bodyCharacter_lead, bodyCharacter_byte]
  rfl

theorem exec_receiveCharacter (framingError : Bool) (hpins : s.pins.resetAsserted = false) :
    exec (.receiveCharacter l ch framingError) s = .next (receiveCharacter l ch framingError s) :=
  live_of_released hpins _

/-- The link after a lead with this addressing (R163). -/
def LinkState.leadTaken (cast : Addressing) (timer : Option Time) (x : LinkState) : LinkState :=
  { x with state := .addressed, addressing := cast, buffer := [], timer := timer }

theorem receiveLead_of_unit {b : Byte} (h : b = s.unitCode) :
    receiveLead l b s = s.onLink l (LinkState.leadTaken .unicast (some (s.timing.timebase + 50000))) :=
  if_pos h

theorem unitCode_ne_all (s : State) : s.unitCode ≠ 0xFF#8 := by
  have h : ∀ sel : BitVec 4, (0x50 : Byte) + sel.setWidth 8 ≠ 0xFF#8 := by decide
  exact h s.pins.sel

theorem receiveLead_of_all {b : Byte} (h : b = 0xFF#8) :
    receiveLead l b s = s.onLink l (LinkState.leadTaken .broadcast (some (s.timing.timebase + 50000))) := by
  rw [receiveLead, if_neg (by rw [h]; exact (unitCode_ne_all s).symm), if_pos (show b = 0xFF from h)]
  rfl

theorem receiveLead_of_other {b : Byte} (hunit : b ≠ s.unitCode) (hall : b ≠ 0xFF#8) :
    receiveLead l b s = s.onLink l LinkState.rested := by
  rw [receiveLead, if_neg hunit, if_neg (show ¬ b = 0xFF from hall)]

/-- The link after a fault of the message being assembled (R166). -/
theorem linkFault_eq (l : Link) (s : State) :
    linkFault l s =
      s.onLink l fun x =>
        { x with state := .idle, buffer := [], timer := none, events := x.events ||| EventKind.linkFault.mask } := by
  simp only [linkFault, post, onLink_onLink]
  rfl

end Receiver

/-- Settles O8: in IDLE the two leads are `receiveLead`, and the rest is ignored. -/
theorem idleReceiverTakesOnlyItsLeads : Obligations.IdleReceiverTakesOnlyItsLeads := by
  intro l ch framingError s hpins hidle
  rw [exec_receiveCharacter framingError hpins]
  refine ⟨?_, ?_, fun hignored => by rw [receiveCharacter_of_idle_ignored framingError hidle hignored]⟩
  · rintro rfl hlead hbyte
    rw [receiveCharacter_of_idle_lead hidle hlead (.inl hbyte), receiveLead_of_unit hbyte]
    rfl
  · rintro rfl hlead hbyte
    rw [receiveCharacter_of_idle_lead hidle hlead (.inr hbyte), receiveLead_of_all hbyte]
    rfl

/-- Settles O9: a lead that comes early is `receiveLead`, which overwrites the message being assembled. -/
theorem newLeadDropsTheMessage : Obligations.NewLeadDropsTheMessage := by
  intro l ch s hpins hstate hlead
  refine ⟨receiveLead l (ch.setWidth 8) s, ?_, ?_⟩
  · rw [exec_receiveCharacter false hpins, receiveCharacter_of_assembling false hstate, hlead]
    rfl
  · have hframe (f : LinkState → LinkState) (hf : ∀ x, (f x).events = x.events ∧ (f x).mask = x.mask) :
        SameEvents l s (s.onLink l f) ∧ OtherLinks l s (s.onLink l f) := by
      refine ⟨?_, fun k hk => onLink_get_ne s f hk⟩
      simpa only [SameEvents, onLink_get_self] using hf (s.links.get l)
    by_cases hunit : ch.setWidth 8 = s.unitCode
    · have hall : ch.setWidth 8 ≠ 0xFF#8 := hunit ▸ unitCode_ne_all s
      obtain ⟨hsame, hother⟩ := hframe (LinkState.leadTaken .unicast (some (s.timing.timebase + 50000))) fun _ => ⟨rfl, rfl⟩
      rw [receiveLead_of_unit hunit]
      exact ⟨by simp [LinkState.leadTaken], by simp [LinkState.leadTaken, hunit], by simp [LinkState.leadTaken],
        fun h => absurd h hall, by simp [LinkState.leadTaken, hunit], by simp [LinkState.leadTaken],
        by simp [LinkState.leadTaken], hsame, hother, rfl⟩
    · by_cases hall : ch.setWidth 8 = 0xFF#8
      · obtain ⟨hsame, hother⟩ := hframe (LinkState.leadTaken .broadcast (some (s.timing.timebase + 50000))) fun _ => ⟨rfl, rfl⟩
        rw [receiveLead_of_all hall]
        exact ⟨by simp [LinkState.leadTaken], by simp [LinkState.leadTaken, hall], fun h => absurd h hunit,
          by simp [LinkState.leadTaken], by simp [LinkState.leadTaken, hall], by simp [LinkState.leadTaken],
          by simp [LinkState.leadTaken], hsame, hother, rfl⟩
      · obtain ⟨hsame, hother⟩ := hframe LinkState.rested fun _ => ⟨rfl, rfl⟩
        rw [receiveLead_of_other hunit hall]
        exact ⟨by simp [LinkState.rested], by simp [LinkState.rested, hunit, hall], fun h => absurd h hunit,
          fun h => absurd h hall, by simp [LinkState.rested, hunit, hall], by simp [LinkState.rested],
          by simp [LinkState.rested], hsame, hother, rfl⟩

theorem awaitsCheck_iff {x : LinkState} :
    x.awaitsCheck = true ↔ ∃ code n args, x.buffer = code :: n :: args ∧ args.length = n.toNat := by
  rcases h : x.buffer with _ | ⟨code, _ | ⟨n, args⟩⟩ <;> simp [LinkState.awaitsCheck, h]

/-- Settles O10: the character is neither the check byte nor an overlong length, so it joins the buffer. -/
theorem bodyCharacterJoinsTheMessage : Obligations.BodyCharacterJoinsTheMessage := by
  intro l b s hpins hstate hlength hcheck
  have hawaits : ¬ (s.links.get l).awaitsCheck = true := fun h => by
    obtain ⟨code, n, args, hbuffer, hargs⟩ := awaitsCheck_iff.1 h
    exact hcheck code n args hbuffer hargs
  have hshort : ¬ ((s.links.get l).buffer.length = 1 ∧ 64 < b.toNat) := fun h => by have := hlength h.1; omega
  rw [exec_receiveCharacter false hpins, receiveCharacter_of_body_character hstate, receiveBody, if_neg hawaits,
    if_neg hshort]
  rfl

/-- Settles O11: each of the three events is `linkFault`. -/
theorem linkFaultsAbandonTheMessage : Obligations.LinkFaultsAbandonTheMessage := by
  intro l c s hpins hstate hfault
  have heffect : exec c s = .next (linkFault l s) := by
    rcases hfault with ⟨ch, rfl⟩ | ⟨b, rfl, hlength, hb⟩ | ⟨rfl, htimer⟩
    · rw [exec_receiveCharacter true hpins, receiveCharacter_of_assembling true hstate]
      rfl
    · have hawaits : ¬ (s.links.get l).awaitsCheck = true := fun h => by
        obtain ⟨code, n, args, hbuffer, -⟩ := awaitsCheck_iff.1 h
        simp [hbuffer] at hlength
      rw [exec_receiveCharacter false hpins, receiveCharacter_of_body_character hstate, receiveBody, if_neg hawaits,
        if_pos ⟨hlength, hb⟩]
    · have hassembling : (s.links.get l).assembling = true := by rcases hstate with h | h <;> simp [LinkState.assembling, h]
      refine (live_of_released hpins _).trans ?_
      simp only [hassembling, htimer, and_self, if_true]
  rw [heffect, linkFault_eq]
  rfl

/-- Settles O12: whatever comes on a busy link, as a character, a check byte or a whole message, sets OVR. -/
theorem busyLinkDiscardsUntilItsReplyIsSent : Obligations.BusyLinkDiscardsUntilItsReplyIsSent := by
  intro l c s hpins hstate
  have hbusy : (s.links.get l).busy = true := busy_iff.2 hstate
  refine ⟨?_, fun hreplying => ?_⟩
  · rintro (⟨ch, framingError, rfl⟩ | ⟨check, rfl⟩ | ⟨m, hm, rfl⟩)
    · rw [exec_receiveCharacter framingError hpins, receiveCharacter_of_busy framingError hstate]
      rfl
    · refine (live_of_released hpins _).trans ?_
      simp only [hbusy, or_true, if_true, receiveCharacter_of_busy false hstate]
      rfl
    · rw [exec_of_message hm, live_of_released hpins]
      exact congrArg _ (if_pos hbusy)
  · refine (live_of_released hpins _).trans ?_
    simp only [hreplying, if_true]
    rfl

/-! ### The command table (R182) -/

theorem word16_split16 (w : BitVec 16) : word16 (w.extractLsb' 8 8) (w.extractLsb' 0 8) = w := by
  apply BitVec.eq_of_toNat_eq
  have hw := w.isLt
  simp only [word16, BitVec.toNat_append, BitVec.extractLsb'_toNat, Nat.shiftRight_eq_div_pow]
  rw [← Nat.shiftLeft_add_eq_or_of_lt (Nat.mod_lt _ (by decide)), Nat.shiftLeft_eq]
  omega

theorem word32_split32 (w : BitVec 32) :
    word32 (w.extractLsb' 24 8) (w.extractLsb' 16 8) (w.extractLsb' 8 8) (w.extractLsb' 0 8) = w := by
  apply BitVec.eq_of_toNat_eq
  have hw := w.isLt
  simp only [word32, BitVec.toNat_append, BitVec.extractLsb'_toNat, Nat.shiftRight_eq_div_pow]
  rw [← Nat.shiftLeft_add_eq_or_of_lt (Nat.mod_lt _ (by decide)), ← Nat.shiftLeft_add_eq_or_of_lt (Nat.mod_lt _ (by decide)),
    ← Nat.shiftLeft_add_eq_or_of_lt (Nat.mod_lt _ (by decide)), Nat.shiftLeft_eq, Nat.shiftLeft_eq, Nat.shiftLeft_eq]
  omega

theorem parsePoints_flatten (points : List (BitVec 16 × BitVec 16)) :
    parsePoints (points.map fun p => split16 p.1 ++ split16 p.2).flatten = some points := by
  induction points with
  | nil => rfl
  | cons p points ih =>
    simp only [List.map_cons, List.flatten_cons, split16, List.cons_append, List.nil_append, parsePoints] at ih ⊢
    rw [ih]
    simp only [Option.map_some, word16_split16]

/-- Settles O15: each command's message is read by its own row, and the fields put together again. -/
theorem everyCommandIsReadBackFromItsMessage : Obligations.EveryCommandIsReadBackFromItsMessage := by
  intro i m hwf hm
  cases i with
  | run l cast start =>
    cases start with
    | none => cases hm; rfl
    | some n => cases hm; exact congrArg (fun w => Parsed.command (.run l cast (some w))) (word32_split32 n)
  | planSet l field value =>
    cases hm; exact congrArg (fun w => Parsed.command (.planSet l field w)) (word32_split32 value)
  | eventMask l mask => cases hm; exact congrArg (fun w => Parsed.command (.eventMask l w)) (word16_split16 mask)
  | lensDemand l axis value =>
    cases hm; exact congrArg (fun w => Parsed.command (.lensDemand l axis w)) (word16_split16 value)
  | lensTrim l eye axis trim =>
    cases hm; exact congrArg (fun w => Parsed.command (.lensTrim l eye axis w)) (word16_split16 trim)
  | lensTol l axis tolerance settle =>
    cases hm; exact congrArg (fun w => Parsed.command (.lensTol l axis w settle)) (word16_split16 tolerance)
  | tableEntry l eye axis first points =>
    cases hm
    have hpoints : 1 ≤ points.length ∧ points.length ≤ 4 := of_decide_eq_true hwf
    change parseTableEntry l (eye :: axis :: first :: _) = _
    simp only [parseTableEntry, parsePoints_flatten, hpoints, and_self, if_true]
  | _ => cases hm <;> rfl

/-! ### Lengths and codes (R168) -/

section Lengths

variable {args : List Byte}

theorem parseNone_of_length {i : Instr} (h : args.length ∉ [0]) : parseNone i args = .badLength := by
  cases args with
  | nil => simp at h
  | cons x xs => rfl

theorem parseOne_of_length {f : Byte → Instr} (h : args.length ∉ [1]) : parseOne f args = .badLength := by
  unfold parseOne
  split
  · simp at h
  · rfl

theorem parseTwo_of_length {f : Byte → Byte → Instr} (h : args.length ∉ [2]) : parseTwo f args = .badLength := by
  unfold parseTwo
  split
  · simp at h
  · rfl

theorem parseThree_of_length {f : Byte → Byte → Byte → Instr} (h : args.length ∉ [3]) :
    parseThree f args = .badLength := by
  unfold parseThree
  split
  · simp at h
  · rfl

theorem parseRun_of_length {l : Link} {cast : Addressing} (h : args.length ∉ [0, 4]) :
    parseRun l cast args = .badLength := by
  unfold parseRun
  split
  · simp at h
  · simp at h
  · rfl

theorem parsePlanSet_of_length {l : Link} (h : args.length ∉ [5]) : parsePlanSet l args = .badLength := by
  unfold parsePlanSet
  split
  · simp at h
  · rfl

theorem parseTcSet_of_length {l : Link} {cast : Addressing} (h : args.length ∉ [6]) :
    parseTcSet l cast args = .badLength := by
  unfold parseTcSet
  split
  · simp at h
  · rfl

/-- Breakpoints are read from four bytes each (R182). -/
theorem length_of_parsePoints {bytes : List Byte} {points : List (BitVec 16 × BitVec 16)}
    (h : parsePoints bytes = some points) : bytes.length = 4 * points.length := by
  induction bytes using parsePoints.induct generalizing points with
  | case1 => cases h; rfl
  | case2 d1 d0 c1 c0 rest ih =>
    simp only [parsePoints, Option.map_eq_some_iff] at h
    obtain ⟨ps, hps, rfl⟩ := h
    simp only [List.length_cons, ih hps]
    omega
  | case3 bytes hne hnil => simp [parsePoints] at h

theorem parseTableEntry_of_length {l : Link} (h : args.length ∉ [7, 11, 15, 19]) :
    parseTableEntry l args = .badLength := by
  unfold parseTableEntry
  split
  · next eye axis first rest =>
    split
    · next points hpoints =>
      have hlength := length_of_parsePoints hpoints
      simp only [List.length_cons, hlength, List.mem_cons, List.not_mem_nil, or_false] at h
      exact if_neg (by omega)
    · rfl
  · rfl

end Lengths

/-- A code that names no command is refused whatever follows it. -/
theorem parseMessage_of_no_command (l : Link) (cast : Addressing) {code : Byte} (args : List Byte)
    (h : acceptedLengths code = none) : parseMessage l cast code args = .badCode := by
  unfold acceptedLengths at h
  split at h <;> cases h
  unfold parseMessage
  split <;> trivial

/-- A length that the command does not accept is refused whatever the bytes are. -/
theorem parseMessage_of_length (l : Link) (cast : Addressing) {code : Byte} {args : List Byte} {lengths : List Nat}
    (h : acceptedLengths code = some lengths) (hargs : args.length ∉ lengths) :
    parseMessage l cast code args = .badLength := by
  unfold acceptedLengths at h
  split at h <;> cases h
  all_goals
    rename_i hcode
    simp only [parseMessage, hcode, parseNone_of_length, parseOne_of_length, parseTwo_of_length, parseThree_of_length,
      parseRun_of_length, parsePlanSet_of_length, parseTcSet_of_length, parseTableEntry_of_length, hargs,
      not_false_eq_true]
  · split
    · simp at hargs
    · rfl
  · split
    · simp at hargs
    · rfl

/-- The command that a message spells has that message's link and, where it may be broadcast, its addressing. -/
theorem message_of_parseMessage {l : Link} {cast : Addressing} {code : Byte} {args : List Byte} {i : Instr}
    (h : parseMessage l cast code args = .command i) :
    ∃ m, i.message = some m ∧ m.l = l ∧ m.cast = if i.broadcasts then cast else .unicast := by
  unfold parseMessage at h
  split at h
  all_goals
    try simp only [parseNone.eq_def, parseOne.eq_def, parseTwo.eq_def, parseThree.eq_def, parseRun.eq_def,
      parsePlanSet.eq_def, parseTcSet.eq_def, parseTableEntry.eq_def] at h
    (repeat' split at h) <;> cases h <;> exact ⟨_, rfl, rfl, rfl⟩

/-- The codes of the four commands taken by broadcast (R172). -/
theorem code_of_broadcasts {l : Link} {cast : Addressing} {code : Byte} {args : List Byte} {i : Instr}
    (h : parseMessage l cast code args = .command i) (hi : i.broadcasts = true) :
    code ∈ [0x10#8, 0x11#8, 0x12#8, 0x24#8] := by
  unfold parseMessage at h
  split at h
  all_goals
    try simp only [parseNone.eq_def, parseOne.eq_def, parseTwo.eq_def, parseThree.eq_def, parseRun.eq_def,
      parsePlanSet.eq_def, parseTcSet.eq_def, parseTableEntry.eq_def] at h
    (repeat' split at h) <;> cases h <;> cases hi
  all_goals simp_all [BitVec.toNat_eq]

theorem broadcasts_of_message {i : Instr} {m : Message} (h : i.message = some m) (hcast : m.cast = .broadcast) :
    i.broadcasts = true := by
  cases i with
  | run | stop | restart | tcSet => rfl
  | _ => cases h <;> cases hcast

/-! ### Judging a complete message (R167, R168, R172) -/

section Judging

variable {s : State} {l : Link} {code n check : Byte} {args : List Byte}

/-- The check byte of a complete message is judged, whether it comes as a character or as MESSAGE_RECEIVED (log 12). -/
theorem exec_check_byte (hpins : s.pins.resetAsserted = false) (hbody : (s.links.get l).state = .body)
    (hawaits : (s.links.get l).awaitsCheck = true) :
    exec (.messageReceived l check) s = .next (judgeMessage l check s) ∧
      exec (.receiveCharacter l (bodyCharacter check) false) s = .next (judgeMessage l check s) := by
  have hjudged : receiveCharacter l (bodyCharacter check) false s = judgeMessage l check s := by
    rw [receiveCharacter_of_body_character (.inr hbody), receiveBody, if_pos hawaits]
  constructor
  · refine (live_of_released hpins _).trans ?_
    simp only [hbody, hawaits, and_self, true_or, if_true, hjudged]
  · rw [exec_receiveCharacter false hpins, hjudged]

theorem judgeMessage_of_unsound_unicast (hbuffer : (s.links.get l).buffer = code :: n :: args)
    (hcast : (s.links.get l).addressing = .unicast) (hsum : byteSum (code :: n :: args) + check ≠ 0) :
    judgeMessage l check s = reply l .chk [] (s.onLink l LinkState.rested) := by
  simp only [judgeMessage, hbuffer, hcast]
  exact if_neg (by simpa using hsum)

theorem judgeMessage_of_sound_unicast (hbuffer : (s.links.get l).buffer = code :: n :: args)
    (hcast : (s.links.get l).addressing = .unicast) (hsum : byteSum (code :: n :: args) + check = 0) :
    judgeMessage l check s = dispatchUnicast l code args (s.onLink l LinkState.rested) := by
  simp only [judgeMessage, hbuffer, hcast]
  exact if_pos (by simpa using hsum)

theorem judgeMessage_of_unsound_broadcast (hbuffer : (s.links.get l).buffer = code :: n :: args)
    (hcast : (s.links.get l).addressing = .broadcast) (hsum : byteSum (code :: n :: args) + check ≠ 0) :
    judgeMessage l check s = s.onLink l LinkState.rested := by
  simp only [judgeMessage, hbuffer, hcast]
  exact if_neg (by simpa using hsum)

theorem judgeMessage_of_sound_broadcast (hbuffer : (s.links.get l).buffer = code :: n :: args)
    (hcast : (s.links.get l).addressing = .broadcast) (hsum : byteSum (code :: n :: args) + check = 0) :
    judgeMessage l check s = dispatchBroadcast l code args (s.onLink l LinkState.rested) := by
  simp only [judgeMessage, hbuffer, hcast]
  exact if_pos (by simpa using hsum)

/-- A refusal formed on the rested receiver is all that a bad message does. -/
theorem reply_rested (l : Link) (st : Status) (data : List Byte) (s : State) :
    AnsweredOnly l st data s (reply l st data (s.onLink l LinkState.rested)) := by
  refine ⟨reply_answered st data rfl (by simp [LinkState.rested]), ?_, fun k hk => ?_, rfl⟩
  · constructor <;> rw [reply_get_self] <;> simp [LinkState.rested]
  · rw [reply_get_ne _ st data hk, onLink_get_ne s _ hk]

theorem refused_rested (l : Link) (s : State) : Refused l .broadcast .ok s (s.onLink l LinkState.rested) := by
  refine ⟨?_, ?_, fun k hk => onLink_get_ne s _ hk, rfl⟩
  · simp [Acknowledged, LinkState.rested]
  · simp [SameEvents, LinkState.rested]

/-- A broadcast that is not one of the four commands with an accepted length is discarded (R172). -/
theorem dispatchBroadcast_of_bad (s : State)
    (h : code ∉ [0x10#8, 0x11#8, 0x12#8, 0x24#8] ∨
      ∀ lengths, acceptedLengths code = some lengths → args.length ∉ lengths) :
    dispatchBroadcast l code args s = s := by
  unfold dispatchBroadcast
  split
  · next i hi =>
    split
    · next hbroadcasts =>
      exfalso
      obtain ⟨lengths, hlengths, hargs⟩ : ∃ lengths, acceptedLengths code = some lengths ∧ args.length ∈ lengths := by
        cases hcode : acceptedLengths code with
        | none => rw [parseMessage_of_no_command l _ args hcode] at hi; cases hi
        | some lengths =>
          refine ⟨lengths, rfl, by_contra fun hargs => ?_⟩
          rw [parseMessage_of_length l _ hcode hargs] at hi
          cases hi
      rcases h with h | h
      · exact h (code_of_broadcasts hi hbroadcasts)
      · exact h lengths hlengths hargs
    · rfl
  · rfl

end Judging

/-- Settles O13: the check is tested before the code, and the code before the length. -/
theorem badMessagesAreRefusedOrDiscarded : Obligations.BadMessagesAreRefusedOrDiscarded := by
  intro l check code n args s hpins hbody hbuffer hargs
  have hawaits : (s.links.get l).awaitsCheck = true := awaitsCheck_iff.2 ⟨code, n, args, hbuffer, hargs⟩
  refine ⟨judgeMessage l check s, (exec_check_byte hpins hbody hawaits).1, fun hcast => ⟨fun hsum => ?_, fun hsum => ?_⟩,
    fun hcast hbad => ?_⟩
  · rw [judgeMessage_of_unsound_unicast hbuffer hcast hsum]
    exact reply_rested l .chk [] s
  · rw [judgeMessage_of_sound_unicast hbuffer hcast hsum]
    refine ⟨fun hcode => ?_, fun lengths hcode hlength => ?_⟩
    · rw [dispatchUnicast, parseMessage_of_no_command l _ args hcode]
      exact reply_rested l .code [] s
    · rw [dispatchUnicast, parseMessage_of_length l _ hcode hlength]
      exact reply_rested l .len [] s
  · have hdiscarded : judgeMessage l check s = s.onLink l LinkState.rested := by
      by_cases hsum : byteSum (code :: n :: args) + check = 0
      · rw [judgeMessage_of_sound_broadcast hbuffer hcast hsum]
        exact dispatchBroadcast_of_bad _ (hbad.resolve_left (not_not_intro hsum))
      · exact judgeMessage_of_unsound_broadcast hbuffer hcast hsum
    rw [hdiscarded]
    exact refused_rested l s

/-- A message carries at most 19 argument bytes (R182). -/
theorem length_args_le {i : Instr} {m : Message} (hwf : i.wellFormed = true) (h : i.message = some m) :
    m.args.length ≤ 19 := by
  cases i with
  | run l cast start => cases start <;> cases h <;> simp [split32]
  | tableEntry l eye axis first points =>
    have hpoints : 1 ≤ points.length ∧ points.length ≤ 4 := of_decide_eq_true hwf
    cases h
    simp only [List.length_cons, Laws.flatten_points_length]
    omega
  | _ => cases h <;> simp [split32, split16]

/-- Settles O14: the message is read back as its command, and the receiver handed over from BODY or from rest is the
same. -/
theorem messageDoesWhatItsCommandRowDoes : Obligations.MessageDoesWhatItsCommandRowDoes := by
  intro i m check s hwf hm hpins hbody hcast hbuffer hsum
  have hlength := length_args_le hwf hm
  have hawaits : (s.links.get m.l).awaitsCheck = true :=
    awaitsCheck_iff.2 ⟨_, _, _, hbuffer, by rw [BitVec.toNat_ofNat, Nat.mod_eq_of_lt (by omega)]⟩
  have hparse : parseMessage m.l m.cast m.code m.args = .command i := everyCommandIsReadBackFromItsMessage i m hwf hm
  have hrow : exec i s = .next (takeCommand i (s.taken m.l m.cast)) := by
    rw [exec_of_message hm]
    exact handOver_ready ⟨hpins, not_busy_of_assembling (.inr hbody)⟩ m.cast _
  have hhand : handOver m.l m.cast (takeCommand i) (s.onLink m.l LinkState.rested) = takeCommand i (s.taken m.l m.cast) := by
    rw [handOver.eq_def, if_neg (by simp [LinkState.rested, LinkState.busy]), onLink_onLink]
    rfl
  have hjudged : judgeMessage m.l check s = takeCommand i (s.taken m.l m.cast) := by
    rw [← hhand]
    cases hc : m.cast with
    | unicast =>
      rw [judgeMessage_of_sound_unicast hbuffer (hcast.trans hc) hsum, dispatchUnicast, ← hc, hparse]
    | broadcast =>
      rw [judgeMessage_of_sound_broadcast hbuffer (hcast.trans hc) hsum, dispatchBroadcast, ← hc, hparse]
      exact if_pos (broadcasts_of_message hm hc)
  obtain ⟨hreceived, hcharacter⟩ := exec_check_byte (check := check) hpins hbody hawaits
  exact ⟨_, hrow, hreceived.trans (congrArg _ hjudged), hcharacter.trans (congrArg _ hjudged)⟩

end Sys2Proof.Machine
end

section
/-!
PROOFS. The six status commands, which report the values in force and change nothing (R23, R33, R82, R94, R106, R148).
-/

namespace Sys2Proof.Machine

/-- A status command reads its report from the state as it was before its link was taken. -/
theorem answeredOnly_report {l : Link} {s : State} {report data : List Byte} (st : Status) (h : report = data) :
    AnsweredOnly l st data s (reply l st report (s.taken l .unicast)) :=
  h ▸ reply_taken l st report

theorem reportedPeriod_eq (s : State) :
    reportedPeriod s =
      if s.timing.run = .stopped then s.plan.active.basePeriod
      else (s.timing.frame.map (·.period)).getD s.plan.active.basePeriod := by
  unfold reportedPeriod plannedPeriod
  cases s.timing.frame <;> rfl

theorem reportedRampIndex_eq (s : State) : reportedRampIndex s = (s.timing.ramp.map (·.index)).getD 0 := by
  unfold reportedRampIndex
  cases s.timing.ramp <;> rfl

theorem timingReport_eq (s : State) :
    timingReport s =
      [s.timing.run.code, s.timing.refState.code, s.timing.inputs.a.state.code,
          BitVec.ofNat 8 s.timing.inputs.a.count, s.timing.inputs.b.state.code,
          BitVec.ofNat 8 s.timing.inputs.b.count, s.plan.generation] ++
        bytesOf 3 (if s.timing.run = .stopped then s.plan.active.basePeriod
          else (s.timing.frame.map (·.period)).getD s.plan.active.basePeriod) ++
        [BitVec.ofNat 8 ((s.timing.ramp.map (·.index)).getD 0)] ++ bytesOf 4 s.timing.pairNumber.toNat := by
  rw [← reportedPeriod_eq, ← reportedRampIndex_eq]
  rfl

theorem planReport_eq (p : Plan) (u : PlanUnit) :
    planReport p u = p.values.flatMap (signedBytes 4) ++ [u.generation, u.stage.code, editorCode u.editor] := by
  rw [planReport, List.flatMap_def]

/-- PLAN_GET names the active plan by 0, the staged one by 1, and no other (R33). -/
theorem takePlanGet_of_active {which : Byte} (h : which.toNat = 0) (l : Link) (s : State) :
    takePlanGet l which s = reply l .ok (planReport s.plan.active s.plan) s := by
  simp only [takePlanGet, h]

theorem takePlanGet_of_staged {which : Byte} (h : which.toNat = 1) (l : Link) (s : State) :
    takePlanGet l which s = reply l .ok (planReport s.plan.staged s.plan) s := by
  simp only [takePlanGet, h]

theorem takePlanGet_of_other {which : Byte} (h : 2 ≤ which.toNat) (l : Link) (s : State) :
    takePlanGet l which s = reply l .val [] s := by
  unfold takePlanGet
  split
  · omega
  · omega
  · rfl

theorem pairReport_eq (m : Matcher) :
    pairReport m =
      [m.eyes.left.presence.code, BitVec.ofNat 8 m.eyes.left.miss, BitVec.ofNat 8 m.eyes.left.hit,
          m.eyes.right.presence.code, BitVec.ofNat 8 m.eyes.right.miss, BitVec.ofNat 8 m.eyes.right.hit] ++
        bytesOf 2 m.eyes.left.stray ++ bytesOf 2 m.eyes.right.stray ++
        [BitVec.ofNat 8 m.slots.length,
          BitVec.ofNat 8 (m.slots.filter fun x => x.status == .closedWaiting).length] ++
        bytesOf 4 ((m.slots.head?.map (·.number.toNat)).getD 0) ++ [BitVec.ofNat 8 m.queue.length] := by
  have hclosed : m.slots.countP Slot.closed = (m.slots.filter fun x => x.status == .closedWaiting).length :=
    List.countP_eq_length_filter
  rw [pairReport, hclosed]
  cases m.slots <;> rfl

theorem takeLogStatus_of_attached {l : Link} {s : State} (h : (s.log.readers.get l).attached = true) :
    takeLogStatus l s = reply l .ok (logReport s.log l) s :=
  if_pos h

theorem takeLogStatus_of_detached {l : Link} {s : State} (h : (s.log.readers.get l).attached = false) :
    takeLogStatus l s = reply l .state [] s :=
  if_neg (by simp [h])

theorem logReport_eq {g : PairLog} {l : Link} (h : (g.readers.get l).attached = true) :
    logReport g l =
      [BitVec.ofNat 8 g.count] ++ bytesOf 4 (g.next - BitVec.ofNat 32 g.count).toNat ++
        bytesOf 4 (g.next - 1).toNat ++ bytesOf 4 (g.readers.get l).cursor.toNat ++
        [BitVec.ofNat 8 (g.readers.get l).gap, 1] := by
  simp only [logReport, h]
  rfl

@[simp] theorem length_axisReport (a : AxisState) : (axisReport a).length = 9 := by simp [axisReport]

@[simp] theorem length_channelReport (ch : Channel) (t : Table) : (channelReport ch t).length = 13 := by
  simp [channelReport]

/-- LENS_STATUS answers 125 bytes (R182). -/
theorem length_lensReport (u : LensUnit) : (lensReport u).length = 125 := by
  simp [lensReport, channelOrder]

/-- The layout of R183, channel by channel: left eye before right, and FOCUS, IRIS, ZOOM in each. -/
theorem lensReport_eq (u : LensUnit) :
    lensReport u =
      [u.mode.code, flagByte u.scan.isSome] ++
        ([Axis.focus, .iris, .zoom].flatMap fun x => axisReport (u.axes.get x)) ++
        ([Eye.left, .right].flatMap fun e => [Axis.focus, .iris, .zoom].flatMap fun x =>
          channelReport (channelGet u.channels ⟨e, x⟩) (channelGet u.tables ⟨e, x⟩)) ++
        ([Eye.left, .right].flatMap fun e => [Axis.focus, .iris, .zoom].flatMap fun x =>
          bytesOf 2 (channelGet u.conversions.encoders ⟨e, x⟩).toNat) ++
        [Axis.focus, .iris, .zoom].flatMap fun x => bytesOf 2 (u.conversions.wheels.get x).toNat := by
  simp [lensReport, channelOrder]

/-- Settles O19: each of the six is the reply of its report, which is the layout of R183. -/
theorem statusCommandsReportAndChangeNothing : Obligations.StatusCommandsReportAndChangeNothing := by
  intro l s hready
  refine ⟨⟨_, handOver_ready hready .unicast _, answeredOnly_report .ok (timingReport_eq _)⟩, fun which => ?_,
    ⟨_, handOver_ready hready .unicast _, answeredOnly_report .ok (pairReport_eq _)⟩,
    ⟨_, handOver_ready hready .unicast _, answeredOnly_report .ok rfl⟩, ?_,
    ⟨_, _, handOver_ready hready .unicast _, answeredOnly_report .ok rfl, length_lensReport _, lensReport_eq _⟩⟩
  · refine ⟨takePlanGet l which (s.taken l .unicast), handOver_ready hready .unicast _, fun hwhich => ?_, fun hwhich => ?_⟩
    · rw [takePlanGet_of_other hwhich]
      exact reply_taken l .val []
    · rcases (by omega : which.toNat = 0 ∨ which.toNat = 1) with h | h
      · rw [takePlanGet_of_active h, h]
        exact answeredOnly_report .ok (planReport_eq _ _)
      · rw [takePlanGet_of_staged h, h]
        exact answeredOnly_report .ok (planReport_eq _ _)
  · refine ⟨takeLogStatus l (s.taken l .unicast), handOver_ready hready .unicast _, fun hdetached => ?_, fun hattached => ?_⟩
    · rw [takeLogStatus_of_detached (s := s.taken l .unicast) hdetached]
      exact reply_taken l .state []
    · rw [takeLogStatus_of_attached (s := s.taken l .unicast) hattached]
      exact answeredOnly_report .ok (logReport_eq hattached)

end Sys2Proof.Machine
end

section
/-!
PROOFS. How an invariant is shown to be kept by every step: the moves of a receiver, the commands by the block that owns
them, the events of the part's own, the two resets and the tick.
-/

namespace Sys2Proof.Machine

/-! ### Moves of one receiver -/

/-- Between `s` and `t` one link moved, without beginning or ending to execute a command, and without a move of its
LOG_READY. -/
def ReceiverMove (l : Link) (s t : State) : Prop :=
  ∃ x : LinkState, t = { s with links := s.links.set l x } ∧
    (x.state = .executing ↔ (s.links.get l).state = .executing) ∧
    holds x.events .logReady = holds (s.links.get l).events .logReady

theorem receiverMove_onLink {l : Link} {s : State} {f : LinkState → LinkState}
    (hstate : (f (s.links.get l)).state = .executing ↔ (s.links.get l).state = .executing)
    (hevents : holds (f (s.links.get l)).events .logReady = holds (s.links.get l).events .logReady) :
    ReceiverMove l s (s.onLink l f) :=
  ⟨f (s.links.get l), rfl, hstate, hevents⟩

theorem receiverMove_linkFault {l : Link} {s : State} (h : (s.links.get l).state ≠ .executing) :
    ReceiverMove l s (linkFault l s) := by
  rw [linkFault_eq]
  refine receiverMove_onLink (by simp [h]) ?_
  rw [Bool.eq_iff_iff, holds_or_mask]
  simp

theorem receiverMove_rested {l : Link} {s : State} (h : (s.links.get l).state ≠ .executing) :
    ReceiverMove l s (s.onLink l LinkState.rested) :=
  receiverMove_onLink (by simp [LinkState.rested, h]) rfl

theorem receiverMove_reply {l : Link} {s : State} (h : (s.links.get l).state ≠ .executing) (st : Status)
    (data : List Byte) : ReceiverMove l s (reply l st data s) := by
  refine ⟨_, rfl, ?_, rfl⟩
  simp [h]

theorem receiverMove_receiveLead {l : Link} {b : Byte} {s : State} (h : (s.links.get l).state ≠ .executing) :
    ReceiverMove l s (receiveLead l b s) := by
  by_cases hunit : b = s.unitCode
  · rw [receiveLead_of_unit hunit]
    exact receiverMove_onLink (by simp [LinkState.leadTaken, h]) rfl
  · by_cases hall : b = 0xFF#8
    · rw [receiveLead_of_all hall]
      exact receiverMove_onLink (by simp [LinkState.leadTaken, h]) rfl
    · rw [receiveLead_of_other hunit hall]
      exact receiverMove_rested h

/-! ### The blocks a command can move -/

/-- The owner of a command: the block whose state it works on. -/
inductive Owner
  | run | plan | timecode | log | table | lens | status

/-- The owner of a link command; a status command moves no block but its link, and neither does an event's row as a
command. -/
def commandOwner : Instr → Owner
  | .run _ _ _ | .stop _ _ | .restart _ _ => .run
  | .planSet _ _ _ | .planCommit _ | .planDiscard _ => .plan
  | .tcSet _ _ _ _ _ => .timecode
  | .logAttach _ | .logDetach _ | .logRead _ _ => .log
  | .tableBegin _ _ _ | .tableEntry _ _ _ _ _ | .tableEnd _ _ _ | .tableAbort _ _ _ | .tableRead _ _ _ _ => .table
  | .lensSource _ _ _ | .lensDemand _ _ _ | .lensTrim _ _ _ _ | .lensTol _ _ _ _ | .lensDrive _ _ _ _
  | .lensRun _ _ => .lens
  | _ => .status

/-- The blocks that the owner may have moved between `s` and `t`, the links apart; the run commands may have moved
any. -/
def MovedBy (owner : Owner) (s t : State) : Prop :=
  match owner with
  | .run => True
  | .plan => t = { s with timing := t.timing, plan := t.plan, links := t.links }
  | .timecode => t = { s with tc := t.tc, links := t.links }
  | .log =>
    t = { s with
          log := t.log, links := t.links
          memory := { s.memory with linkRequests := t.memory.linkRequests } }
  | .table =>
    t = { s with
          lens := t.lens, links := t.links
          memory := { s.memory with linkRequests := t.memory.linkRequests } }
  | .lens => t = { s with lens := t.lens, links := t.links }
  | .status => t = { s with links := t.links }

/-- A block that a frame leaves as it was. -/
theorem block_of_frame {α : Type} (block : State → α) {s t u : State} (h : t = u) (hu : block u = block s) :
    block t = block s :=
  (congrArg block h).trans hu

section Frames

variable (s : State) (l : Link)

theorem applyWhileStopped_frame (b : State) (o : Option Link) :
    MovedBy .plan s (applyWhileStopped b o s) := by
  apply State.eq_of_fields <;> simp

theorem takePlanSet_frame (field : Byte) (value : BitVec 32) : MovedBy .plan s (takePlanSet l field value s) := by
  unfold takePlanSet
  dsimp only
  (repeat' split) <;> rfl

theorem takePlanCommit_frame : MovedBy .plan s (takePlanCommit l s) := by
  unfold takePlanCommit
  dsimp only
  repeat' split
  any_goals rfl
  exact applyWhileStopped_frame s s _

theorem takePlanDiscard_frame : MovedBy .plan s (takePlanDiscard l s) := by
  unfold takePlanDiscard
  dsimp only
  (repeat' split) <;> rfl

theorem answer_frame (cast : Addressing) (st : Status) (data : List Byte) :
    answer l cast st data s = { s with links := (answer l cast st data s).links } := by
  cases cast <;> rfl

theorem takeTcSet_frame (cast : Addressing) (value : Timecode) (base drop : Byte) :
    MovedBy .timecode s (takeTcSet l cast value base drop s) := by
  cases cast <;> (unfold takeTcSet; repeat' split) <;> rfl

theorem takeLogRead_frame (maximum : Byte) : MovedBy .log s (takeLogRead l maximum s) := by
  unfold takeLogRead
  (repeat' split) <;> rfl

theorem takeLogDetach_frame : MovedBy .log s (takeLogDetach l s) := by
  unfold takeLogDetach
  split <;> rfl

theorem takeTable_frame {i : Instr} (h : commandOwner i = .table) : MovedBy .table s (takeCommand i s) := by
  cases i with
  | tableBegin l eye axis =>
    simp only [takeCommand, takeTableBegin, withTable]
    (repeat' split) <;> rfl
  | tableEntry l eye axis first points =>
    simp only [takeCommand, takeTableEntry, withTable, withLoad]
    (repeat' split) <;> rfl
  | tableEnd l eye axis =>
    simp only [takeCommand, takeTableEnd, withTable, withLoad]
    (repeat' split) <;> rfl
  | tableAbort l eye axis =>
    simp only [takeCommand, takeTableAbort, withTable, withLoad]
    (repeat' split) <;> rfl
  | tableRead l eye axis index =>
    simp only [takeCommand, takeTableRead, withTable]
    (repeat' split) <;> rfl
  | _ => cases h

theorem setScanMode_frame (m : ScanMode) : MovedBy .lens s (setScanMode m s) := by
  unfold setScanMode
  split
  · rfl
  · dsimp only
    split <;> rfl
  · rfl
  · rfl

theorem setDrive_frame (c : ChannelId) (on : Bool) : MovedBy .lens s (setDrive c on s) := by
  unfold setDrive
  dsimp only
  split <;> rfl

/-- A reply on a state that moved in the lenses alone keeps to them. -/
theorem movedBy_lens_reply {s u : State} (h : MovedBy .lens s u) (l : Link) (st : Status) (data : List Byte) :
    MovedBy .lens s (reply l st data u) := by
  rw [MovedBy] at h
  rw [h]
  rfl

theorem takeLens_frame {i : Instr} (h : commandOwner i = .lens) : MovedBy .lens s (takeCommand i s) := by
  cases i with
  | lensSource l axis source =>
    simp only [takeCommand, takeLensSource]
    split <;> rfl
  | lensDemand l axis value =>
    simp only [takeCommand, takeLensDemand]
    (repeat' split) <;> rfl
  | lensTrim l eye axis trim =>
    simp only [takeCommand, takeLensTrim]
    (repeat' split) <;> rfl
  | lensTol l axis tolerance settle =>
    simp only [takeCommand, takeLensTol]
    (repeat' split) <;> rfl
  | lensDrive l eye axis drive =>
    simp only [takeCommand, takeLensDrive]
    split
    · exact movedBy_lens_reply (setDrive_frame s _ _) l _ _
    · rfl
  | lensRun l mode =>
    simp only [takeCommand, takeLensRun]
    split
    · exact movedBy_lens_reply (setScanMode_frame s _) l _ _
    · rfl
  | _ => cases h

theorem takeStatus_frame {i : Instr} (h : commandOwner i = .status) : MovedBy .status s (takeCommand i s) := by
  cases i with
  | planGet l which =>
    simp only [takeCommand, takePlanGet]
    split <;> rfl
  | logStatus l =>
    simp only [takeCommand, takeLogStatus]
    split <;> rfl
  | eventMask l mask =>
    simp only [takeCommand, takeEventMask]
    split <;> rfl
  | _ => cases h <;> rfl

end Frames

/-- A command moves the blocks of its owner and the links, and nothing else. -/
theorem takeCommand_frame (i : Instr) (s : State) : MovedBy (commandOwner i) s (takeCommand i s) := by
  cases howner : commandOwner i with
  | run => trivial
  | plan =>
    cases i with
    | planSet l field value => exact takePlanSet_frame s l field value
    | planCommit l => exact takePlanCommit_frame s l
    | planDiscard l => exact takePlanDiscard_frame s l
    | _ => cases howner
  | timecode =>
    cases i with
    | tcSet l cast value base drop => exact takeTcSet_frame s l cast value base drop
    | _ => cases howner
  | log =>
    cases i with
    | logAttach l => rfl
    | logDetach l => exact takeLogDetach_frame s l
    | logRead l maximum => exact takeLogRead_frame s l maximum
    | _ => cases howner
  | table => exact takeTable_frame s howner
  | lens => exact takeLens_frame s howner
  | status => exact takeStatus_frame s howner

/-! ### What every step keeps -/

/-- The ways the part can move, each of which keeps `I`: the queue, the two resets, a receiver, a command of a ready link
at its owner, an event of the part's own, and a tick. -/
structure KeptByParts (I : State → Prop) : Prop where
  queue : ∀ s pending ties, I s → I { s with pending := pending, tieChoices := ties }
  reset : ∀ s, I s → I (assertReset s)
  release : ∀ sel rate s, s.pins.resetAsserted = true → I s → I (releaseReset sel rate s)
  receiver : ∀ l s t, ReceiverMove l s t → I s → I t
  command : ∀ i m s, i.message = some m → Ready m.l s → I s → I (takeCommand i (s.taken m.l m.cast))
  event : ∀ i s, s.pins.resetAsserted = false → I s → I (eventEffect i s)
  tick : ∀ s, s.pins.resetAsserted = false → dueEvents s = [] → accessMissing s = false → I s → I (passTick s)

namespace KeptByParts

variable {I : State → Prop} (h : KeptByParts I) {s t : State}

include h

theorem handOver {i : Instr} {m : Message} (hm : i.message = some m) (hpins : s.pins.resetAsserted = false) (hs : I s) :
    I (handOver m.l m.cast (takeCommand i) s) := by
  rw [handOver.eq_def]
  split
  · exact h.receiver m.l s _ (receiverMove_onLink Iff.rfl rfl) hs
  · next hbusy => exact h.command i m s hm ⟨hpins, by simpa using hbusy⟩ hs

theorem dispatchUnicast {l : Link} {code : Byte} {args : List Byte} (hpins : s.pins.resetAsserted = false)
    (hl : (s.links.get l).state ≠ .executing) (hs : I s) : I (dispatchUnicast l code args s) := by
  unfold Machine.dispatchUnicast
  split
  · exact h.receiver l s _ (receiverMove_reply hl _ _) hs
  · exact h.receiver l s _ (receiverMove_reply hl _ _) hs
  · next i hi =>
    obtain ⟨m, hm, rfl, hcast⟩ := message_of_parseMessage hi
    have hu : m.cast = .unicast := by rw [hcast, ite_self]
    rw [← hu]
    exact h.handOver hm hpins hs

theorem dispatchBroadcast {l : Link} {code : Byte} {args : List Byte} (hpins : s.pins.resetAsserted = false)
    (hs : I s) : I (dispatchBroadcast l code args s) := by
  unfold Machine.dispatchBroadcast
  split
  · next i hi =>
    split
    · next hbroadcasts =>
      obtain ⟨m, hm, rfl, hcast⟩ := message_of_parseMessage hi
      rw [if_pos hbroadcasts] at hcast
      rw [← hcast]
      exact h.handOver hm hpins hs
    · exact hs
  · exact hs

theorem judgeMessage {l : Link} {check : Byte} (hpins : s.pins.resetAsserted = false)
    (hl : (s.links.get l).state ≠ .executing) (hs : I s) : I (judgeMessage l check s) := by
  have hrested : I (s.onLink l LinkState.rested) := h.receiver l s _ (receiverMove_rested hl) hs
  have hstate : ((s.onLink l LinkState.rested).links.get l).state ≠ .executing := by simp [LinkState.rested]
  unfold Machine.judgeMessage
  dsimp only
  repeat' split
  · exact h.dispatchUnicast hpins hstate hrested
  · exact h.receiver l _ _ (receiverMove_reply hstate _ _) hrested
  · exact h.dispatchBroadcast hpins hrested
  · exact hrested
  · exact hrested

theorem receiveBody {l : Link} {b : Byte} (hpins : s.pins.resetAsserted = false)
    (hl : (s.links.get l).state ≠ .executing) (hs : I s) : I (receiveBody l b s) := by
  unfold Machine.receiveBody
  dsimp only
  repeat' split
  · exact h.judgeMessage hpins hl hs
  · exact h.receiver l s _ (receiverMove_linkFault hl) hs
  · exact h.receiver l s _ (receiverMove_onLink (by simp [hl]) rfl) hs

theorem receiveCharacter {l : Link} {ch : BitVec 9} {framingError : Bool} (hpins : s.pins.resetAsserted = false)
    (hs : I s) : I (receiveCharacter l ch framingError s) := by
  have hovr : I (s.onLink l fun x => { x with ovr := true }) := h.receiver l s _ (receiverMove_onLink Iff.rfl rfl) hs
  have hassembling (hl : (s.links.get l).state = .addressed ∨ (s.links.get l).state = .body) :
      I (Machine.receiveCharacter l ch framingError s) := by
    have hne : (s.links.get l).state ≠ .executing := by rcases hl with hl | hl <;> simp [hl]
    rw [receiveCharacter_of_assembling framingError hl]
    repeat' split
    · exact h.receiver l s _ (receiverMove_linkFault hne) hs
    · exact h.receiver l s _ (receiverMove_receiveLead hne) hs
    · exact h.receiveBody hpins hne hs
  cases hl : (s.links.get l).state with
  | idle =>
    simp only [Machine.receiveCharacter, hl]
    split
    · exact hs
    · exact h.receiver l s _ (receiverMove_receiveLead (by simp [hl])) hs
  | addressed => exact hassembling (.inl hl)
  | body => exact hassembling (.inr hl)
  | executing => rw [receiveCharacter_of_busy framingError (.inl hl)]; exact hovr
  | replying => rw [receiveCharacter_of_busy framingError (.inr hl)]; exact hovr

/-- The rows of the receivers and of the two resets. -/
theorem exec_receiverOrReset {i : Instr} (hi : isReceiverOrReset i = true) (hstep : exec i s = .next t) (hs : I s) :
    I t := by
  have hlive {f : State → State} (hf : s.pins.resetAsserted = false → I (f s)) (hstep : live s f = .next t) : I t := by
    unfold live at hstep
    cases hstep
    split
    · exact hs
    · next hpins => exact hf (by simpa using hpins)
  cases i with
  | pinReset => cases hstep; exact h.reset s hs
  | resetRelease sel rate =>
    cases hstep
    split
    · next hpins => exact h.release sel rate s hpins hs
    · exact hs
  | receiveCharacter l ch framingError => exact hlive (fun hpins => h.receiveCharacter hpins hs) hstep
  | messageReceived l check =>
    refine hlive (fun hpins => ?_) hstep
    split
    · exact h.receiveCharacter hpins hs
    · exact hs
  | interCharacterTimeout l =>
    refine hlive (fun _ => ?_) hstep
    split
    · next hx =>
      have hne : (s.links.get l).state ≠ .executing := fun he => by simp [LinkState.assembling, he] at hx
      exact h.receiver l s _ (receiverMove_linkFault hne) hs
    · exact hs
  | replySent l =>
    refine hlive (fun _ => ?_) hstep
    split
    · next hx => exact h.receiver l s _ (receiverMove_onLink (by simp [hx]) rfl) hs
    · exact hs
  | _ => cases hi

theorem exec {i : Instr} (hstep : exec i s = .next t) (hs : I s) : I t := by
  cases ho : isReceiverOrReset i with
  | true => exact h.exec_receiverOrReset ho hstep hs
  | false =>
    obtain ⟨f, hf, hkeeps⟩ : ∃ f, Machine.exec i s = live s f ∧ (s.pins.resetAsserted = false → I (f s)) := by
      cases hm : i.message with
      | some m => exact ⟨_, exec_of_message hm s, fun hpins => h.handOver hm hpins hs⟩
      | none => exact ⟨_, exec_of_event hm ho s, fun hpins => h.event i s hpins hs⟩
    rw [hf, live] at hstep
    cases hstep
    split
    · exact hs
    · next hpins => exact hkeeps (by simpa using hpins)

theorem idle (hstep : idle s = .next t) (hs : I s) : I t := by
  cases hpins : s.pins.resetAsserted with
  | true =>
    rw [Machine.idle, if_pos hpins] at hstep
    cases hstep
    exact hs
  | false =>
    by_cases hdue : dueEvents s = []
    · cases hgrant : grantDue s with
      | true =>
        rw [idle_of_grant hpins hdue hgrant] at hstep
        cases hstep
        exact h.queue s _ _ hs
      | false =>
        rw [idle_of_nothing hpins hdue hgrant, Machine.tick] at hstep
        split at hstep
        · cases hstep
        · next hmissing =>
          cases hstep
          exact h.tick s hpins hdue (by simpa using hmissing) hs
    · obtain ⟨i, ties, -, hidle⟩ := idle_of_due hpins hdue
      rw [hidle] at hstep
      cases hstep
      exact h.queue s _ _ hs

/-- What each of the part's ways to move keeps, every step keeps. -/
theorem step (hstep : step s = .next t) (hs : I s) : I t := by
  cases hpending : s.pending with
  | nil => exact h.idle (by rwa [step_of_no_command hpending] at hstep) hs
  | cons i rest =>
    rw [Machine.step, hpending] at hstep
    exact h.exec hstep (h.queue s rest s.tieChoices hs)

end KeptByParts

/-! ### What every event of the part's own keeps -/

/-- The ways the part's own events can move it, each of which keeps `I`. An event that may bring a boundary first moves
an input or the reference state; a boundary is taken in RUNNING alone. -/
structure KeptByEvents (I : State → Prop) : Prop where
  input : ∀ r f s, I s → I (onInput r f s)
  lockLeft : ∀ s, s.timing.run = .running → s.plan.active.refMode = .followLeft → I s → I (setRef .lockedL s)
  holdOver : ∀ s, leftLapseDue s = true → I s → I (setRef .holdover s)
  boundary : ∀ begun cause s, s.timing.run = .running → I s → I (boundary begun cause s)
  reachStopped : ∀ begun s, drained s = true → I s → I (reachStopped begun s)
  applyCommit : ∀ begun s, s.timing.run = .stopped → s.plan.stage = .committing → I s →
    I (applyWhileStopped begun s.plan.committer s)
  applyTimecode : ∀ begun s, s.timing.run = .stopped → I s → I (applyPendingTimecode begun s)
  stray : ∀ e s, I s → I (strayReturn e s)
  assign : ∀ e s, s.timing.run ≠ .stopped → I s → I (assignReturn e s)
  synth : ∀ e s, I s → I (handSynth e s)
  decide : ∀ e s, I s → I (decideTrigger e s)
  pulseEnd : ∀ e s, I s → I (onEyeTrigger e (fun y => { y with active := false }) s)
  close : ∀ n s, I s → I (closeSlot n s)
  lapseEdit : ∀ s, editLapseDue s = true → I s → I (lapseEdit s)
  lapseTable : ∀ c s, tableLapseDue c s = true → I s → I (lapseTable c s)
  grant : ∀ s, grantDue s = true → I s → I (grant s)
  burstEnd : ∀ b s, s.memory.port = some b → b.left = 0 → I s → I (endBurst b s)
  scanDue : ∀ s, scanTimerDue s = true → I s → I (scanTimer s)
  conversions : ∀ s, conversionsDue s = true → I s → I (endConversions s)

theorem applyWhileStopped_run (begun : State) (o : Option Link) (s : State) :
    (applyWhileStopped begun o s).timing.run = s.timing.run := by
  have hset (v : RefState) (u : State) : (setRef v u).timing.run = u.timing.run := by
    unfold setRef
    split <;> rfl
  have hsettle (u : PlanUnit) (v : State) : (settleReference u v).timing.run = v.timing.run := by
    unfold settleReference recomputeRef
    repeat' split
    · exact hset _ _
    · exact hset _ _
    · rfl
  have happly : (applyStaged false s).timing.run = s.timing.run := by
    simp only [applyStaged, Timing.restartGenerator, Bool.false_and]
    (repeat' split) <;> rfl
  unfold applyWhileStopped
  dsimp only
  split
  · rw [answerCommitter_timing, hsettle, happly]
  · rw [hsettle, happly]

namespace KeptByEvents

variable {I : State → Prop} (h : KeptByEvents I) {s : State}

include h

theorem takeBoundary (begun : State) (cause : Cause) (hs : I s) : I (takeBoundary begun cause s) := by
  unfold Machine.takeBoundary
  split
  · next hrun => exact h.boundary begun cause s hrun hs
  · exact hs

theorem boundaryAfterChange (before : State) (hs : I s) : I (boundaryAfterChange before s) := by
  unfold Machine.boundaryAfterChange
  split
  · exact h.takeBoundary _ _ hs
  · exact hs

theorem stopIfDrained (begun : State) (hs : I s) : I (stopIfDrained begun s) := by
  unfold Machine.stopIfDrained
  split
  · next hdrained => exact h.reachStopped begun s hdrained hs
  · exact hs

theorem settleWaiting (hs : I s) : I (settleWaiting s) := by
  unfold Machine.settleWaiting
  split
  · next hrun =>
    split
    · next hstage =>
      exact h.applyTimecode s _ (by rw [applyWhileStopped_run, hrun]) (h.applyCommit s s hrun hstage hs)
    · exact h.applyTimecode s s hrun hs
  · exact h.stopIfDrained s hs
  · split
    · exact h.takeBoundary _ _ hs
    · exact hs

theorem refPulse (r : RefId) (hs : I s) : I (refPulse r s) := by
  have hinput := h.input r (RefInput.pulse s.plan.active.basePeriod s.now) s hs
  unfold Machine.refPulse
  dsimp only
  split
  · unfold pulseBoundary
    split
    · exact hinput
    · exact h.takeBoundary _ _ hinput
  · exact h.boundaryAfterChange _ hinput

theorem routeReturn (e : Eye) (hs : I s) : I (routeReturn e s) := by
  unfold Machine.routeReturn
  split
  · exact hs
  · next hmode =>
    unfold leftReturn
    split
    · next hrun => exact h.takeBoundary _ _ (h.lockLeft s hrun.1 hmode hs)
    · exact h.stray _ s hs
  · split
    · exact h.stray _ s hs
    · next hrun => exact h.assign _ s hrun hs

theorem finishBurst (hs : I s) : I (finishBurst s) := by
  unfold Machine.finishBurst
  split
  · next b hport =>
    split
    · next hleft => exact h.burstEnd b s hport hleft hs
    · exact hs
  · exact hs

theorem closeAtDeadline (n : BitVec 32) (hs : I s) : I (closeAtDeadline n s) := by
  unfold Machine.closeAtDeadline
  split
  · split
    · exact h.close n s hs
    · exact hs
  · exact hs

/-- What each of the moves of the part's own keeps, each of its events keeps. -/
theorem event (i : Instr) (hs : I s) : I (eventEffect i s) := by
  have hwhen {p : Prop} [Decidable p] {f : State → State} (hf : p → I (f s)) : I (if p then f s else s) := by
    split
    · next hp => exact hf hp
    · exact hs
  cases i with
  | planEditLapse => exact hwhen fun hdue => h.lapseEdit s hdue hs
  | planApply => exact hwhen fun _ => h.settleWaiting hs
  | timecodePendingApply => exact hwhen fun _ => h.settleWaiting hs
  | tableLapse eye axis => exact hwhen fun hdue => h.lapseTable _ s hdue hs
  | scheduleBoundary => exact hwhen (f := Machine.takeBoundary s .schedule) fun _ => h.takeBoundary s .schedule hs
  | refPulse r => exact h.refPulse r hs
  | refAbsenceExpiry r =>
    exact hwhen (f := expireInput r) fun _ => h.boundaryAfterChange s (h.input r (fun _ => RefInput.expired) s hs)
  | returnEdge e => exact h.routeReturn e hs
  | leftReturnLapse => exact hwhen (f := lapseLeft) fun hdue => h.takeBoundary s .schedule (h.holdOver s hdue hs)
  | triggerDecision e => exact h.decide e s hs
  | triggerPulseEnd e => exact hwhen fun _ => h.pulseEnd e s hs
  | synthReturn e => exact h.synth e s hs
  | slotDeadline n => exact h.closeAtDeadline n hs
  | reachStopped => exact h.stopIfDrained s hs
  | arbiterGrant => exact hwhen fun hdue => h.grant s hdue hs
  | burstEnd => exact h.finishBurst hs
  | scanDue => exact hwhen fun hdue => h.scanDue s hdue hs
  | conversionsDone codes => exact hwhen fun hdue => h.conversions s hdue.1 hs
  | _ => exact hs

end KeptByEvents

/-! ### Invariants that do not speak of the links -/

/-- The ways the part's own events, its commands and its replies can move it, for a predicate that the links do not
enter. -/
structure KeptByRuns (I : State → Prop) : Prop extends KeptByEvents I where
  links : ∀ s v, I s → I { s with links := v }
  startRun : ∀ start s, s.timing.run = .stopped → I s → I (startRun start s)
  drain : ∀ s, s.timing.run = .running → I s → I { s with timing := { s.timing with run := .draining, rephase := none } }
  restart : ∀ s, I s → I (restartBlocks s)
  command : ∀ i s, commandOwner i ≠ .run → I s → I (takeCommand i s)

/-- The ways the part can move, for a predicate that the links do not enter: every reply and every post keeps it. -/
structure KeptApartFromLinks (I : State → Prop) : Prop extends KeptByRuns I where
  queue : ∀ s pending ties, I s → I { s with pending := pending, tieChoices := ties }
  reset : ∀ s, I s → I (assertReset s)
  release : ∀ sel rate s, s.pins.resetAsserted = true → I s → I (releaseReset sel rate s)
  tick : ∀ s, s.pins.resetAsserted = false → dueEvents s = [] → accessMissing s = false → I s → I (passTick s)

theorem answerDuring_frame (before s : State) (l : Link) (cast : Addressing) (st : Status) (data : List Byte) :
    answerDuring before l cast st data s = { s with links := (answerDuring before l cast st data s).links } := by
  cases cast <;> rfl

theorem answerOwed_frame (before s : State) (owed : Option Link) (st : Status) :
    answerOwed before owed st s = { s with links := (answerOwed before owed st s).links } := by
  cases owed <;> rfl

theorem abortCommit_frame (before s : State) :
    abortCommit before s = { s with links := (abortCommit before s).links } := by
  unfold abortCommit
  split <;> rfl

theorem answerCutRead_frame (before s : State) :
    answerCutRead before s = { s with links := (answerCutRead before s).links } := by
  unfold answerCutRead
  split <;> rfl

namespace KeptByRuns

variable {I : State → Prop} (h : KeptByRuns I) {s : State}

include h

theorem of_links {t : State} (ht : t = { s with links := t.links }) (hs : I s) : I t := by
  rw [ht]
  exact h.links s _ hs

theorem takeRun (l : Link) (cast : Addressing) (start : Option (BitVec 32)) (hs : I s) : I (takeRun l cast start s) := by
  unfold Machine.takeRun
  split
  · next hrun =>
    have hstarted := h.of_links (answerDuring_frame s _ l cast .ok []) (h.startRun start s hrun hs)
    dsimp only
    split
    · exact h.takeBoundary s .schedule hstarted
    · exact hstarted
  · exact h.of_links (answer_frame s l cast .state []) hs

theorem takeStop (l : Link) (cast : Addressing) (hs : I s) : I (takeStop l cast s) := by
  unfold Machine.takeStop
  split
  · next hrun => exact h.of_links (answerDuring_frame s _ l cast .ok []) (h.stopIfDrained s (h.drain s hrun hs))
  · exact h.of_links (answer_frame s l cast .state []) hs

theorem takeRestart (l : Link) (cast : Addressing) (hs : I s) : I (takeRestart l cast s) := by
  have habort := h.of_links (abortCommit_frame s (restartBlocks s)) (h.restart s hs)
  have howed := h.of_links (answerOwed_frame s _ s.tc.owed .abrt) habort
  exact h.of_links (answerDuring_frame s _ l cast .ok []) (h.of_links (answerCutRead_frame s _) howed)

theorem takeCommand (i : Instr) (hs : I s) : I (takeCommand i s) := by
  by_cases howner : commandOwner i = .run
  · cases i with
    | run l cast start => exact h.takeRun l cast start hs
    | stop l cast => exact h.takeStop l cast hs
    | restart l cast => exact h.takeRestart l cast hs
    | _ => cases howner
  · exact h.command i s howner hs

end KeptByRuns

theorem KeptApartFromLinks.keptByParts {I : State → Prop} (h : KeptApartFromLinks I) : KeptByParts I where
  queue := h.queue
  reset := h.reset
  release := h.release
  receiver := by
    rintro l s t ⟨x, rfl, -, -⟩ hs
    exact h.links s _ hs
  command i m s _ _ hs := h.takeCommand i (h.links s _ hs)
  event i _ _ hs := h.toKeptByEvents.event i hs
  tick := h.tick

/-! ### Frames of the events -/

section EventFrames

variable (s : State)

theorem onInput_frame (r : RefId) (f : RefInput → RefInput) :
    onInput r f s = { s with timing := (onInput r f s).timing, links := (onInput r f s).links } := by
  unfold onInput
  dsimp only
  split
  · rfl
  · apply State.eq_of_fields <;> simp

theorem setRef_frame (v : RefState) :
    setRef v s = { s with timing := (setRef v s).timing, links := (setRef v s).links } := by
  unfold setRef
  split <;> rfl

theorem reachStopped_frame (begun : State) :
    reachStopped begun s =
      { s with
        timing := (reachStopped begun s).timing, plan := (reachStopped begun s).plan, tc := (reachStopped begun s).tc
        links := (reachStopped begun s).links } := by
  apply State.eq_of_fields <;> simp

theorem boundary_frame (begun : State) (cause : Cause) :
    boundary begun cause s =
      { boundary begun cause s with
        pending := s.pending, pins := s.pins, log := s.log, tieChoices := s.tieChoices } := by
  apply State.eq_of_fields <;> simp

theorem lapseEdit_frame : MovedBy .plan s (lapseEdit s) := by
  unfold lapseEdit
  dsimp only
  split <;> rfl

theorem lapseTable_frame (c : ChannelId) : MovedBy .lens s (lapseTable c s) := by
  unfold lapseTable
  dsimp only
  split <;> rfl

/-- A return, a close and a decision work on the Pair Matcher, the Trigger Unit and the links alone. -/
def MovedInMatcher (s t : State) : Prop := t = { s with matcher := t.matcher, trig := t.trig, links := t.links }

theorem closeSlot_movedInMatcher (n : BitVec 32) : MovedInMatcher s (closeSlot n s) := by
  apply State.eq_of_fields <;> simp

theorem assignReturn_movedInMatcher (e : Eye) : MovedInMatcher s (assignReturn e s) := by
  apply State.eq_of_fields <;> simp

theorem strayReturn_movedInMatcher (e : Eye) : MovedInMatcher s (strayReturn e s) := rfl

theorem decideTrigger_movedInMatcher (e : Eye) : MovedInMatcher s (decideTrigger e s) := by
  apply State.eq_of_fields <;> simp

theorem handSynth_movedInMatcher (e : Eye) : MovedInMatcher s (handSynth e s) := by
  apply State.eq_of_fields <;> simp

theorem onEyeTrigger_movedInMatcher (e : Eye) (f : EyeTrigger → EyeTrigger) :
    MovedInMatcher s (onEyeTrigger e f s) := rfl

/-- The target stage works on the Lens Control Unit, its request and the links alone. -/
def MovedInScan (s t : State) : Prop :=
  t = { s with
        lens := t.lens, links := t.links
        memory := { s.memory with lensRequest := t.memory.lensRequest } }

theorem movedInScan_of_frame {s t : State}
    (h : ∃ u q v, t = { s with lens := u, memory := { s.memory with lensRequest := q }, links := v }) :
    MovedInScan s t := by
  obtain ⟨u, q, v, rfl⟩ := h
  rfl

theorem endConversions_movedInScan : MovedInScan s (endConversions s) := by
  apply movedInScan_of_frame
  obtain ⟨u, q, v, h⟩ := nextSegment_frame
    (onScan
      (fun sc =>
        { sc with
          stage := .target
          demands := PerAxis.build fun x => formedDemand (s.lens.axes.get x) (sc.conversions.wheels.get x) })
      s) channelOrder
  exact ⟨u, q, v, h⟩

theorem scanTimer_movedInScan : MovedInScan s (scanTimer s) := by
  unfold scanTimer
  dsimp only
  split <;> rfl

theorem startRun_frame (start : Option (BitVec 32)) :
    startRun start s =
      { s with
        timing := (startRun start s).timing, matcher := s.matcher.forgetEyes, tc := { s.tc with firstMark := true }
        links := (startRun start s).links } := by
  apply State.eq_of_fields <;> simp [startRun]

theorem restartBlocks_frame :
    restartBlocks s =
      { s with
        timing := (restartBlocks s).timing
        trig := TriggerUnit.cut
        matcher := s.matcher.restarted
        log := s.log.emptied
        plan := s.plan.freed
        tc := { s.tc with waiting := none }
        memory := s.memory.restarted
        links := (restartBlocks s).links } := by
  unfold restartBlocks
  dsimp only
  split <;> apply State.eq_of_fields <;> simp

theorem passTick_frame :
    passTick s =
      { s with
        timing := { s.timing with timebase := later s.now 1 }
        lens := s.lens.convert (later s.now 1)
        memory := { s.memory with words := (passTick s).memory.words, port := (passTick s).memory.port } } := by
  unfold passTick accessWord
  dsimp only
  (repeat' split) <;> rfl

theorem endSegment_movedInScan (c : ChannelId) (trim : Int) (isLive : Bool) (words : List MemWord) :
    MovedInScan s (endSegment c trim isLive words s) := by
  unfold endSegment
  split
  · split <;> exact movedInScan_of_frame (continueTargets_frame _)
  · rfl

theorem endTableRead_frame (l : Link) (state : TableState) (count : Nat) (words : List MemWord) :
    MovedBy .status s (endTableRead l state count words s) := by
  unfold endTableRead
  split <;> rfl

theorem appendRecord_frame : appendRecord s = { s with log := (appendRecord s).log, links := (appendRecord s).links } := by
  apply State.eq_of_fields <;> simp

end EventFrames

/-- The end of a burst by its holder: the memory is FREE, and the holder acts (R157). -/
theorem endBurst_cases (b : Burst) (s : State) :
    (b.holder = .sweep ∧ endBurst b s = { s with memory := { s.memory with port := none } }) ∨
      (b.holder = .record ∧ endBurst b s = endRecord { s with memory := { s.memory with port := none } }) ∨
      (∃ c lower trim isLive, b.holder = .segment c lower trim isLive ∧
        endBurst b s = endSegment c trim isLive b.got { s with memory := { s.memory with port := none } }) ∨
      (∃ l gap start k, b.holder = .logRead l gap start k ∧
        endBurst b s = finishLogRead l gap k start b.got { s with memory := { s.memory with port := none } }) ∨
      (∃ l c first points, b.holder = .tableEntry l c first points ∧
        endBurst b s = endTableEntry l c first points { s with memory := { s.memory with port := none } }) ∨
      ∃ l c index state count, b.holder = .tableRead l c index state count ∧
        endBurst b s = endTableRead l state count b.got { s with memory := { s.memory with port := none } } := by
  unfold endBurst
  cases b.holder with
  | sweep => exact .inl ⟨rfl, rfl⟩
  | record => exact .inr (.inl ⟨rfl, rfl⟩)
  | segment c lower trim isLive => exact .inr (.inr (.inl ⟨_, _, _, _, rfl, rfl⟩))
  | logRead l gap start k => exact .inr (.inr (.inr (.inl ⟨_, _, _, _, rfl, rfl⟩)))
  | tableEntry l c first points => exact .inr (.inr (.inr (.inr (.inl ⟨_, _, _, _, rfl, rfl⟩))))
  | tableRead l c index state count => exact .inr (.inr (.inr (.inr (.inr ⟨_, _, _, _, _, rfl, rfl⟩))))

/-- The Arbiter's decision by the request it falls to (R155, R156). -/
theorem grant_cases (s : State) :
    (s.matcher.queue ≠ [] ∧ grant s = grantBurst .record 19 s) ∨
      (∃ q, s.memory.lensRequest = some q ∧ grant s = grantSegment q s) ∨
      (∃ l q, s.memory.lensRequest = none ∧ s.memory.nextLink = some l ∧ s.memory.linkRequests.get l = some q ∧
        grant s = grantLink l q s) ∨
      grant s = s := by
  unfold grant
  split
  · next hqueue => exact .inl ⟨by simpa using hqueue, rfl⟩
  · split
    · next q hq => exact .inr (.inl ⟨q, hq, rfl⟩)
    · next hlens =>
      split
      · exact .inr (.inr (.inr rfl))
      · next l hl =>
        split
        · next q hq => exact .inr (.inr (.inl ⟨l, q, hlens, hl, hq, rfl⟩))
        · exact .inr (.inr (.inr rfl))

end Sys2Proof.Machine
end

section
/-!
PROOFS. The Timecode Counter: TC_SET (R85, R90, R91), and that the timecode stays legal through every step (R86 to R88,
R92).
-/

namespace Sys2Proof.Machine

/-! ### TC_SET -/

section TcSet

variable {l : Link} {cast : Addressing} {v : Timecode} {base drop : Byte} {s : State}

theorem boolOfCode_of_lt {b : Byte} (h : b.toNat < 2) : boolOfCode b = some (decide (b.toNat = 1)) := by
  rcases (by omega : b.toNat = 0 ∨ b.toNat = 1) with h | h <;> simp [boolOfCode, h]

theorem boolOfCode_of_ge {b : Byte} (h : 2 ≤ b.toNat) : boolOfCode b = none := by
  unfold boolOfCode
  split
  · omega
  · omega
  · rfl

/-- The operands of TC_SET that are legal (R85). -/
def TcSetLegal (v : Timecode) (base drop : Byte) : Prop :=
  drop.toNat < 2 ∧ legalBase base.toNat = true ∧ legalTimecode v base.toNat (decide (drop.toNat = 1)) = true

theorem takeTcSet_of_illegal (h : ¬ TcSetLegal v base drop) :
    takeTcSet l cast v base drop s = answer l cast .val [] s := by
  unfold takeTcSet
  by_cases hdrop : drop.toNat < 2
  · rw [boolOfCode_of_lt hdrop]
    refine if_neg fun hlegal => h ?_
    simp only [Bool.and_eq_true] at hlegal
    exact ⟨hdrop, hlegal⟩
  · rw [boolOfCode_of_ge (Nat.not_lt.1 hdrop)]

theorem takeTcSet_of_pending (h : TcSetLegal v base drop) (hwaiting : s.tc.waiting ≠ none) :
    takeTcSet l cast v base drop s = answer l cast .pend [] s := by
  obtain ⟨hdrop, hbase, hvalue⟩ := h
  simp only [takeTcSet, boolOfCode_of_lt hdrop, hbase, hvalue, Bool.and_self, if_true,
    Option.isSome_iff_ne_none.2 hwaiting]

/-- The counter after a legal set that is current at once (R91). -/
def TimecodeCounter.setNow (v : Timecode) (base drop : Byte) (c : TimecodeCounter) : TimecodeCounter :=
  { c with current := v, base := base.toNat, drop := decide (drop.toNat = 1) }

theorem takeTcSet_of_stopped (h : TcSetLegal v base drop) (hwaiting : s.tc.waiting = none)
    (hrun : s.timing.run = .stopped) :
    takeTcSet l cast v base drop s = answer l cast .ok [] { s with tc := s.tc.setNow v base drop } := by
  obtain ⟨hdrop, hbase, hvalue⟩ := h
  simp only [takeTcSet, boolOfCode_of_lt hdrop, hbase, hvalue, Bool.and_self, if_true]
  rw [if_neg (by simp [hwaiting]), if_pos hrun]
  rfl

/-- The counter after a legal set that is left pending (R91). -/
def TimecodeCounter.setPending (l : Link) (cast : Addressing) (v : Timecode) (base drop : Byte) (c : TimecodeCounter) :
    TimecodeCounter :=
  { c with
    waiting := some ⟨v, base.toNat, decide (drop.toNat = 1), if cast = .unicast then some l else none⟩ }

theorem takeTcSet_of_running (h : TcSetLegal v base drop) (hwaiting : s.tc.waiting = none)
    (hrun : s.timing.run ≠ .stopped) :
    takeTcSet l cast v base drop s = { s with tc := s.tc.setPending l cast v base drop } := by
  obtain ⟨hdrop, hbase, hvalue⟩ := h
  simp only [takeTcSet, boolOfCode_of_lt hdrop, hbase, hvalue, Bool.and_self, if_true]
  rw [if_neg (by simp [hwaiting]), if_neg hrun]
  cases cast <;> rfl

/-- A command that may be broadcast and does nothing but refuse (R172). -/
theorem refused_answer (l : Link) (cast : Addressing) (st : Status) (s : State) :
    Refused l cast st s (answer l cast st [] (s.taken l cast)) := by
  cases cast with
  | unicast =>
    obtain ⟨hanswered, hsame, hother, hframe⟩ := reply_taken (s := s) l st []
    exact ⟨hanswered.answered, hsame, hother, hframe⟩
  | broadcast =>
    refine ⟨?_, ⟨taken_events l l _, taken_mask l l _⟩, fun k hk => taken_get_ne _ hk, rfl⟩
    simp [Acknowledged, answer, State.taken]

end TcSet

/-- An answer after a change outside the links and the pins. -/
theorem acknowledged_answer {l : Link} {cast : Addressing} {s u : State} (st : Status) (data : List Byte)
    (hpins : u.pins = s.pins) (hlinks : u.links = (s.taken l cast).links) :
    Acknowledged l cast st data s (answer l cast st data u) ∧ SameEvents l s (answer l cast st data u) ∧
      OtherLinks l s (answer l cast st data u) := by
  cases cast with
  | unicast =>
    obtain ⟨hanswered, hsame, hother⟩ := reply_answeredAlone st data hpins hlinks
    exact ⟨hanswered.answered, hsame, hother⟩
  | broadcast =>
    refine ⟨?_, ?_, fun k hk => ?_⟩
    · simp [Acknowledged, answer, hlinks, State.taken]
    · simp [SameEvents, answer, hlinks]
    · rw [answer, hlinks, taken_get_ne _ hk]

/-- A command that was taken and left its link to be answered later. -/
theorem leftExecuting_of_links {l : Link} {s t : State} (hlinks : t.links = (s.taken l .unicast).links) :
    LeftExecuting l s t := by
  refine ⟨?_, ?_, ?_, ?_, ?_, fun k hk => ?_⟩
  · simp [hlinks, State.taken]
  · simp [hlinks, State.taken]
  · simp [hlinks, State.taken]
  · simp [hlinks]
  · simp [SameEvents, hlinks]
  · rw [hlinks, taken_get_ne _ hk]

/-- Settles O36: legality decides VAL, then the pending set PEND, then the run state when the set is current. -/
theorem timecodeSetIsCurrentOrPending : Obligations.TimecodeSetIsCurrentOrPending := by
  intro l cast v base drop s hready
  refine ⟨takeTcSet l cast v base drop (s.taken l cast), handOver_ready hready cast _, fun hbad => ?_,
    fun hdrop hbase hvalue => ?_⟩
  · have hillegal : ¬ TcSetLegal v base drop := by
      rintro ⟨hdrop, hbase, hvalue⟩
      rcases hbad with h | h | h
      · omega
      · simp [hbase] at h
      · simp [hvalue] at h
    rw [takeTcSet_of_illegal hillegal]
    exact refused_answer l cast .val s
  · have hlegal : TcSetLegal v base drop := ⟨hdrop, hbase, hvalue⟩
    refine ⟨fun hwaiting => ?_, fun hwaiting hrun => ?_, fun hwaiting hrun => ?_⟩
    · rw [takeTcSet_of_pending (s := s.taken l cast) hlegal hwaiting]
      exact refused_answer l cast .pend s
    · rw [takeTcSet_of_stopped (s := s.taken l cast) hlegal hwaiting hrun]
      obtain ⟨hack, hsame, hother⟩ := acknowledged_answer (l := l) (cast := cast) (s := s)
        (u := { s.taken l cast with tc := s.tc.setNow v base drop }) .ok [] rfl rfl
      exact ⟨hack, hsame, hother, answer_frame _ l cast .ok []⟩
    · rw [takeTcSet_of_running (s := s.taken l cast) hlegal hwaiting hrun]
      refine ⟨?_, ?_, rfl⟩
      · rintro rfl
        exact leftExecuting_of_links rfl
      · rintro rfl
        refine ⟨?_, fun k hk => taken_get_ne .broadcast hk, ?_, ?_, ?_⟩ <;> simp [SameEvents, State.taken]

/-! ### Legal timecodes -/

/-- The current and the pending value of a counter are legal (R85). -/
def TimecodeCounter.Legal (c : TimecodeCounter) : Prop :=
  (legalBase c.base = true ∧ legalTimecode c.current c.base c.drop = true) ∧
    ∀ w, c.waiting = some w → legalBase w.base = true ∧ legalTimecode w.value w.base w.drop = true

theorem timecodeInv_iff {s : State} : TimecodeInv s ↔ s.tc.Legal := Iff.rfl

theorem legalTimecode_pinReset : legalTimecode ⟨0, 0, 0, 0⟩ 24 false = true := by decide

section Counter

variable {c : TimecodeCounter}

theorem TimecodeCounter.Legal.applyWaiting (h : c.Legal) : c.applyWaiting.Legal := by
  unfold TimecodeCounter.applyWaiting
  split
  · next w hw => exact ⟨h.2 w hw, fun _ hnone => by cases hnone⟩
  · exact h

/-- The increment of a legal timecode is legal (R86, R87). -/
theorem legalTimecode_nextTimecode {v : Timecode} {base : Nat} {drop : Bool} (hbase : legalBase base = true)
    (h : legalTimecode v base drop = true) : legalTimecode (nextTimecode v base drop) base drop = true :=
  ((timecodeLabelsAreLegalAndCounted v base drop).2 hbase h).1

theorem TimecodeCounter.Legal.atBoundary (h : c.Legal) : c.atBoundary.Legal := by
  have hnext : ({ c with current := nextTimecode c.current c.base c.drop } : TimecodeCounter).Legal :=
    ⟨⟨h.1.1, legalTimecode_nextTimecode h.1.1 h.1.2⟩, h.2⟩
  unfold TimecodeCounter.atBoundary
  split
  · exact h.applyWaiting
  · split
    · exact h
    · exact hnext

end Counter

section Boundary

variable (s : State)

/-- A boundary stamps the timecode, and no other part of it touches the counter (R88). -/
@[simp] theorem boundary_tc (begun : State) (cause : Cause) : (boundary begun cause s).tc = s.tc.atBoundary := by
  simp [boundary, stampTimecode]

@[simp] theorem applyPendingTimecode_tc (begun : State) : (applyPendingTimecode begun s).tc = s.tc.applyWaiting := by
  simp [applyPendingTimecode]

@[simp] theorem reachStopped_tc (begun : State) : (reachStopped begun s).tc = s.tc.applyWaiting := by
  unfold reachStopped
  dsimp only
  split <;> simp

@[simp] theorem continueTargets_tc : (continueTargets s).tc = s.tc :=
  block_of_frame State.tc (movedInScan_of_frame (continueTargets_frame s)) rfl

theorem stopIfDrained_tc (begun : State) :
    (stopIfDrained begun s).tc = s.tc ∨ (stopIfDrained begun s).tc = s.tc.applyWaiting := by
  unfold stopIfDrained
  split
  · exact .inr (reachStopped_tc s begun)
  · exact .inl rfl

theorem endRecord_tc : (endRecord s).tc = s.tc ∨ (endRecord s).tc = s.tc.applyWaiting := by
  have h := stopIfDrained_tc (appendRecord { s with matcher := { s.matcher with queue := s.matcher.queue.tail } }) s
  rwa [appendRecord_tc] at h

/-- The Arbiter's decision does not touch the counter. -/
theorem grant_tc : (grant s).tc = s.tc := by
  rcases grant_cases s with ⟨-, h⟩ | ⟨q, -, h⟩ | ⟨l, q, -, -, -, h⟩ | h <;> rw [h]
  · rfl
  · unfold grantSegment
    dsimp only
    split
    · rfl
    · exact continueTargets_tc _
  · unfold grantLink
    dsimp only
    (repeat' split) <;> rfl

/-- The end of a burst leaves the counter, unless it drains the run. -/
theorem endBurst_tc (b : Burst) : (endBurst b s).tc = s.tc ∨ (endBurst b s).tc = s.tc.applyWaiting := by
  rcases endBurst_cases b s with ⟨-, h⟩ | ⟨-, h⟩ | ⟨c, lower, trim, isLive, -, h⟩ | ⟨l, gap, start, k, -, h⟩ |
    ⟨l, c, first, points, -, h⟩ | ⟨l, c, index, state, count, -, h⟩ <;> rw [h]
  · exact .inl rfl
  · exact endRecord_tc _
  · exact .inl (block_of_frame State.tc (endSegment_movedInScan _ _ _ _ _) rfl)
  · exact .inl rfl
  · exact .inl rfl
  · exact .inl (block_of_frame State.tc (endTableRead_frame _ _ _ _ _) rfl)

end Boundary

/-- TC_SET takes a legal value alone (R85, R90). -/
theorem timecodeInv_takeTcSet {l : Link} {cast : Addressing} {v : Timecode} {base drop : Byte} {s : State}
    (h : TimecodeInv s) : TimecodeInv (takeTcSet l cast v base drop s) := by
  rw [timecodeInv_iff] at h ⊢
  by_cases hlegal : TcSetLegal v base drop
  · by_cases hwaiting : s.tc.waiting = none
    · by_cases hrun : s.timing.run = .stopped
      · rw [takeTcSet_of_stopped hlegal hwaiting hrun, answer_tc]
        exact ⟨hlegal.2, h.2⟩
      · rw [takeTcSet_of_running hlegal hwaiting hrun]
        refine ⟨h.1, fun w hw => ?_⟩
        cases hw
        exact hlegal.2
    · rwa [takeTcSet_of_pending hlegal hwaiting, answer_tc]
  · rwa [takeTcSet_of_illegal hlegal, answer_tc]

/-- The counter moves at a boundary, by a pending set that becomes current, and by TC_SET alone. -/
theorem keptApartFromLinks_timecodeInv : KeptApartFromLinks TimecodeInv := by
  have of_tc {s t : State} (ht : t.tc = s.tc) (h : TimecodeInv s) : TimecodeInv t := by
    rwa [timecodeInv_iff, ht]
  have of_applied {s t : State} (ht : t.tc = s.tc ∨ t.tc = s.tc.applyWaiting) (h : TimecodeInv s) : TimecodeInv t := by
    rw [timecodeInv_iff] at h ⊢
    rcases ht with ht | ht <;> rw [ht]
    · exact h
    · exact h.applyWaiting
  exact
    { input := fun r f s => of_tc (block_of_frame State.tc (onInput_frame s r f) rfl)
      lockLeft := fun s _ _ => of_tc (setRef_tc s _)
      holdOver := fun s _ => of_tc (setRef_tc s _)
      boundary := fun begun cause s _ h => by
        rw [timecodeInv_iff, boundary_tc]
        exact TimecodeCounter.Legal.atBoundary h
      reachStopped := fun begun s _ => of_applied (.inr (reachStopped_tc s begun))
      applyCommit := fun begun s _ _ => of_tc (applyWhileStopped_tc s begun _)
      applyTimecode := fun begun s _ => of_applied (.inr (applyPendingTimecode_tc s begun))
      stray := fun e s => of_tc rfl
      assign := fun e s _ => of_tc (assignReturn_tc s e)
      synth := fun e s => of_tc (handSynth_tc s e)
      decide := fun e s => of_tc (decideTrigger_tc s e)
      pulseEnd := fun e s => of_tc rfl
      close := fun n s => of_tc (closeSlot_tc s n)
      lapseEdit := fun s _ => of_tc (block_of_frame State.tc (lapseEdit_frame s) rfl)
      lapseTable := fun c s _ => of_tc (block_of_frame State.tc (lapseTable_frame s c) rfl)
      grant := fun s _ => of_tc (grant_tc s)
      burstEnd := fun b s _ _ => of_applied (endBurst_tc s b)
      scanDue := fun s _ => of_tc (block_of_frame State.tc (scanTimer_movedInScan s) rfl)
      conversions := fun s _ => of_tc (block_of_frame State.tc (endConversions_movedInScan s) rfl)
      links := fun s v => of_tc rfl
      queue := fun s pending ties => of_tc rfl
      reset := fun s _ => ⟨⟨rfl, legalTimecode_pinReset⟩, fun w hw => by cases hw⟩
      release := fun sel rate s _ => of_tc rfl
      tick := fun s _ _ _ => of_tc (block_of_frame State.tc (passTick_frame s) rfl)
      startRun := fun start s _ h => by
        rw [startRun_frame]
        exact h
      drain := fun s _ => of_tc rfl
      restart := fun s h => by
        rw [restartBlocks_frame]
        exact ⟨h.1, fun w hw => by cases hw⟩
      command := fun i s howner h => by
        have hframe := takeCommand_frame i s
        cases ho : commandOwner i <;> rw [ho] at hframe
        case run => exact absurd ho howner
        case timecode =>
          cases i with
          | tcSet l cast v base drop => exact timecodeInv_takeTcSet h
          | _ => cases ho
        all_goals exact of_tc (block_of_frame State.tc hframe rfl) h }

/-- Settles O55. -/
theorem everyStepKeepsTimecodeLegal : Obligations.EveryStepKeepsTimecodeLegal :=
  fun _ _ hstep h => keptApartFromLinks_timecodeInv.keptByParts.step hstep h

end Sys2Proof.Machine
end

section
/-!
PROOFS. The facts about the scan that later proofs use: what a boundary does to it (R141, R142), how the target stage goes
on (R121), and what its completion leaves (R144).
-/

namespace Sys2Proof.Machine

/-! ### A boundary and the scan -/

/-- Record Memory after the scan under way is abandoned (R142). -/
def RecordMemory.scanAbandoned (m : RecordMemory) : RecordMemory :=
  { m with lensRequest := none, port := m.port.map Burst.orphan }

/-- The Lens Control Unit after a boundary in FRAME mode (R141). -/
def LensUnit.frameStarted (now : Time) (u : LensUnit) : LensUnit :=
  { u with scan := some (Scan.begun now), nextDue := scanDueAfter now }

section Boundary

variable (s : State)

theorem frameScan_of_frame (h : s.lens.mode = .frame) :
    frameScan s =
      { s with
        lens := s.lens.frameStarted s.now
        memory := if s.lens.scan.isSome then s.memory.scanAbandoned else s.memory } := by
  unfold frameScan abandonScan
  rw [if_pos h]
  split <;> rfl

theorem frameScan_of_not_frame (h : s.lens.mode ≠ .frame) : frameScan s = s := if_neg h

@[simp] theorem setRef_timebase (v : RefState) : (setRef v s).timing.timebase = s.timing.timebase := by
  unfold setRef
  split <;> rfl

@[simp] theorem settleReference_timebase (u : PlanUnit) :
    (settleReference u s).timing.timebase = s.timing.timebase := by
  unfold settleReference recomputeRef
  (repeat' split) <;> simp

@[simp] theorem applyStaged_timebase (b : Bool) : (applyStaged b s).timing.timebase = s.timing.timebase := by
  unfold applyStaged Timing.restartGenerator
  dsimp only
  (repeat' split) <;> rfl

@[simp] theorem boundaryTiming_timebase (cause : Cause) :
    (boundaryTiming cause s).timing.timebase = s.timing.timebase := by
  have hcommit : (applyWaitingCommit (enterBoundary cause s)).timing.timebase = s.timing.timebase := by
    unfold applyWaitingCommit
    split <;> simp
  unfold boundaryTiming
  dsimp only
  split <;> simp [hcommit]

/-- The Lens Control Unit's part of a boundary works on what the boundary found (R141). -/
theorem boundary_lens (begun : State) (cause : Cause) : (boundary begun cause s).lens = (frameScan s).lens := by
  by_cases h : s.lens.mode = .frame
  · rw [boundary, answerAtBoundary_lens, frameScan_of_frame _ (by simpa using h), frameScan_of_frame s h]
    simp [State.now]
  · rw [boundary, answerAtBoundary_lens, frameScan_of_not_frame _ (by simpa using h), frameScan_of_not_frame s h]
    simp

theorem boundary_memory (begun : State) (cause : Cause) : (boundary begun cause s).memory = (frameScan s).memory := by
  by_cases h : s.lens.mode = .frame
  · rw [boundary, answerAtBoundary_memory, frameScan_of_frame _ (by simpa using h), frameScan_of_frame s h]
    simp
  · rw [boundary, answerAtBoundary_memory, frameScan_of_not_frame _ (by simpa using h), frameScan_of_not_frame s h]
    simp

@[simp] theorem frameScan_tables : (frameScan s).lens.tables = s.lens.tables := by
  by_cases h : s.lens.mode = .frame
  · rw [frameScan_of_frame s h]
    rfl
  · rw [frameScan_of_not_frame s h]

end Boundary

/-! ### The target stage -/

/-- The target stage waits for the segment of channel `c`, with the channels `rest` still to reach (R121, R122). -/
def requestSegment (c : ChannelId) (rest : List ChannelId) (s : State) : State :=
  { s with
    lens := { s.lens with scan := s.lens.scan.map fun sc => { sc with remaining := rest } }
    memory := { s.memory with lensRequest := some ⟨c, (channelGet s.lens.tables c).segment (scanDemand s c)⟩ } }

/-- The target stage requests the segment of the first channel with a VALID table, or completes the scan. -/
theorem nextSegment_cases (cs : List ChannelId) (s : State) :
    (∃ before c rest, cs = before ++ c :: rest ∧ (∀ d ∈ before, (channelGet s.lens.tables d).state ≠ .valid) ∧
      (channelGet s.lens.tables c).state = .valid ∧ nextSegment cs s = requestSegment c rest s) ∨
      (∀ d ∈ cs, (channelGet s.lens.tables d).state ≠ .valid) ∧ nextSegment cs s = completeScan s := by
  induction cs with
  | nil => exact .inr ⟨fun d hd => absurd hd List.not_mem_nil, rfl⟩
  | cons c cs ih =>
    unfold nextSegment
    split
    · next hvalid => exact .inl ⟨[], c, cs, rfl, fun d hd => absurd hd List.not_mem_nil, hvalid, rfl⟩
    · next hvalid =>
      rcases ih with ⟨before, d, rest, rfl, hbefore, hd, h⟩ | ⟨hall, h⟩
      · exact .inl ⟨c :: before, d, rest, rfl, List.forall_mem_cons.2 ⟨hvalid, hbefore⟩, hd, h⟩
      · exact .inr ⟨List.forall_mem_cons.2 ⟨hvalid, hall⟩, h⟩

theorem continueTargets_of_scan {s : State} {sc : Scan} (h : s.lens.scan = some sc) :
    continueTargets s = nextSegment sc.remaining s := by
  rw [continueTargets, h]

theorem continueTargets_of_none {s : State} (h : s.lens.scan = none) : continueTargets s = s := by
  rw [continueTargets, h]

/-- What holds of a state after the request of a segment and after a completion holds after the target stage goes on. -/
theorem nextSegment_rule {P : State → Prop} {cs : List ChannelId} {s : State}
    (hrequest : ∀ c rest, (channelGet s.lens.tables c).state = .valid → P (requestSegment c rest s))
    (hcomplete : P (completeScan s)) : P (nextSegment cs s) := by
  rcases nextSegment_cases cs s with ⟨-, c, rest, -, -, hc, h⟩ | ⟨-, h⟩ <;> rw [h]
  · exact hrequest c rest hc
  · exact hcomplete

theorem continueTargets_rule {P : State → Prop} {s : State}
    (hrequest : ∀ c rest, (channelGet s.lens.tables c).state = .valid → P (requestSegment c rest s))
    (hcomplete : P (completeScan s)) (hnone : P s) : P (continueTargets s) := by
  cases h : s.lens.scan with
  | none => rwa [continueTargets_of_none h]
  | some sc =>
    rw [continueTargets_of_scan h]
    exact nextSegment_rule hrequest hcomplete

/-! ### The completion of a scan -/

/-- The unit after the faults are settled, the output and the check stage done and the match states formed (R144 to
R147). -/
def LensUnit.judged (u : LensUnit) (sc : Scan) : LensUnit :=
  (((u.settleFaults sc).output sc).check (u.settleFaults sc).channels).formMatches

/-- The unit after a completion: with the mode OFF the stop follows (R139). -/
def LensUnit.completed (u : LensUnit) (sc : Scan) : LensUnit :=
  if u.mode = .off then ({ u.judged sc with scan := none }).stopped else { u.judged sc with scan := none }

theorem completeScan_of_none {s : State} (h : s.lens.scan = none) : completeScan s = s := by
  unfold completeScan
  rw [h]

/-- TABLE_FAULT and LENS_MISMATCH after the completion of scan `sc` of the unit `u` (R125, R147). -/
def postFindings (u : LensUnit) (sc : Scan) (s : State) : State :=
  let s1 := if channelOrder.any (u.faults sc) then postAll .tableFault s else s
  if [Axis.focus, .iris, .zoom].any (becameMismatched u (u.judged sc)) then postAll .lensMismatch s1 else s1

theorem completeScan_of_scan {s : State} {sc : Scan} (h : s.lens.scan = some sc) :
    completeScan s = postFindings s.lens sc { s with lens := s.lens.completed sc } := by
  unfold completeScan
  rw [h]
  rfl

theorem postFindings_frame (u : LensUnit) (sc : Scan) (s : State) :
    postFindings u sc s = { s with links := (postFindings u sc s).links } := by
  unfold postFindings
  dsimp only
  (repeat' split) <;> rfl

theorem completeScan_lens {s : State} {sc : Scan} (h : s.lens.scan = some sc) :
    (completeScan s).lens = s.lens.completed sc := by
  rw [completeScan_of_scan h, postFindings_frame]

@[simp] theorem completed_tables (u : LensUnit) (sc : Scan) : (u.completed sc).tables = (u.settleFaults sc).tables := by
  unfold LensUnit.completed
  split <;> rfl

@[simp] theorem completed_scan (u : LensUnit) (sc : Scan) : (u.completed sc).scan = none := by
  unfold LensUnit.completed
  split <;> rfl

@[simp] theorem completed_mode (u : LensUnit) (sc : Scan) : (u.completed sc).mode = u.mode := by
  unfold LensUnit.completed
  split <;> rfl

theorem settleFaults_table (u : LensUnit) (sc : Scan) (c : ChannelId) :
    channelGet (u.settleFaults sc).tables c =
      if u.faults sc c then { channelGet u.tables c with state := .faulted } else channelGet u.tables c := by
  simp [LensUnit.settleFaults]

/-- A completion keeps the count of every table, and its breakpoints. -/
theorem completed_table_count (u : LensUnit) (sc : Scan) (c : ChannelId) :
    (channelGet (u.completed sc).tables c).count = (channelGet u.tables c).count := by
  rw [completed_tables, settleFaults_table]
  split <;> rfl

/-- The lower index of a segment is at most two below the count (R122). -/
theorem Table.segment_le {t : Table} (h : t.count ≤ 32) (x : Nat) : t.segment x ≤ 30 := by
  unfold Table.segment
  split
  · omega
  · split
    · omega
    · cases hfind : (List.range (t.count - 1)).find? fun i => decide (t.demandAt i ≤ x) && decide (x < t.demandAt (i + 1)) with
      | none => simp
      | some i =>
        have := List.mem_range.1 (List.mem_of_find?_eq_some hfind)
        simp only [Option.getD_some]
        omega

/-! ### What a table command can do -/

/-- The ways a table command of link `l` that is answered at once can move the part, its reply apart: not at all, or by
a load begun, ended or aborted (R114, R117, R118). -/
inductive TableMove (l : Link) (s : State) : State → Prop
  | none : TableMove l s s
  | begun (c : ChannelId) :
      (channelGet s.lens.tables c).state ≠ .loading ∨ (channelGet s.lens.tables c).loader = some l →
      TableMove l s (onTable c (Table.begun l (tableLapse s)) s)
  | aborted (c : ChannelId) :
      (channelGet s.lens.tables c).state = .loading → (channelGet s.lens.tables c).loader = some l →
      TableMove l s (onTable c (Table.ended .invalid) s)
  | passed (c : ChannelId) :
      (channelGet s.lens.tables c).state = .loading → (channelGet s.lens.tables c).loader = some l →
      (channelGet s.lens.tables c).fault = none → TableMove l s (onTable c (Table.ended .valid) s)

/-- The state with a request of link `l` waiting for Record Memory (R154). -/
def withRequest (l : Link) (q : LinkRequest) (s : State) : State :=
  { s with memory := { s.memory with linkRequests := s.memory.linkRequests.set l (some q) } }

/-- The ways a table command of link `l` can leave a request with its reply owed (R116, R120). -/
inductive TableRequest (l : Link) (s : State) : State → Prop
  | entry (c : ChannelId) (first : Nat) (points : List (BitVec 16 × BitVec 16)) :
      (channelGet s.lens.tables c).state = .loading → (channelGet s.lens.tables c).loader = some l →
      first ≤ (channelGet s.lens.tables c).count → first + points.length ≤ 32 →
      TableRequest l s
        (withRequest l (.tableEntry c first points) (editTable c (fun x => { x with lapse := none }) s))
  | read (c : ChannelId) (index : Nat) : TableRequest l s (withRequest l (.tableRead c index) s)

/-- A table command makes one of its moves and answers, or leaves a request. -/
theorem takeTable_moves {i : Instr} {m : Message} (ho : commandOwner i = .table) (hm : i.message = some m) (s : State) :
    (∃ u st data, TableMove m.l s u ∧ takeCommand i s = reply m.l st data u) ∨
      TableRequest m.l s (takeCommand i s) := by
  have answered {l : Link} {u : State} (st : Status) (data : List Byte) (h : TableMove l s u) :
      (∃ u' st' data', TableMove l s u' ∧ reply l st data u = reply l st' data' u') ∨
        TableRequest l s (reply l st data u) :=
    .inl ⟨u, st, data, h, rfl⟩
  cases i with
  | tableBegin l eye axis =>
    cases hm
    simp only [takeCommand, takeTableBegin, withTable]
    split
    · next c _ =>
      split
      · exact answered _ _ .none
      · next hload =>
        exact answered _ _ (.begun c (by rw [not_and_or] at hload; exact hload.imp_right not_not.1))
    · exact answered _ _ .none
  | tableEntry l eye axis first points =>
    cases hm
    simp only [takeCommand, takeTableEntry, withTable, withLoad]
    split
    · exact answered _ _ .none
    split
    · next c _ =>
      split
      · exact answered _ _ .none
      split
      · exact answered _ _ .none
      split
      · exact answered _ _ .none
      · next hstate hloader hrange =>
        simp only [not_or, Nat.not_lt] at hrange
        exact .inr (.entry c first.toNat points (not_not.1 hstate) (not_not.1 hloader) hrange.1 hrange.2.1)
    · exact answered _ _ .none
  | tableEnd l eye axis =>
    cases hm
    simp only [takeCommand, takeTableEnd, withTable, withLoad]
    split
    · next c _ =>
      split
      · exact answered _ _ .none
      split
      · exact answered _ _ .none
      · next hstate hloader =>
        split
        · exact answered _ _ (.aborted c (not_not.1 hstate) (not_not.1 hloader))
        · next hfault => exact answered _ _ (.passed c (not_not.1 hstate) (not_not.1 hloader) hfault)
    · exact answered _ _ .none
  | tableAbort l eye axis =>
    cases hm
    simp only [takeCommand, takeTableAbort, withTable, withLoad]
    split
    · next c _ =>
      split
      · exact answered _ _ .none
      split
      · exact answered _ _ .none
      · next hstate hloader => exact answered _ _ (.aborted c (not_not.1 hstate) (not_not.1 hloader))
    · exact answered _ _ .none
  | tableRead l eye axis index =>
    cases hm
    simp only [takeCommand, takeTableRead, withTable]
    split
    · next c _ =>
      split
      · exact answered _ _ .none
      · exact .inr (.read c index.toNat)
    · exact answered _ _ .none
  | _ => cases ho

/-- The rows of a block's own commands are link commands. -/
theorem message_of_owner {i : Instr} (h : commandOwner i ≠ .status) : ∃ m, i.message = some m := by
  cases hm : i.message with
  | some m => exact ⟨m, rfl⟩
  | none =>
    refine absurd ?_ h
    cases i with
    | run l cast start => cases start <;> cases hm
    | _ => cases hm <;> rfl

end Sys2Proof.Machine
end

section
/-!
PROOFS. Record Memory through every step: its canonical form and the words a sweep has passed (R150, R153), and that no
burst leaves it (R157, log 28).
-/

namespace Sys2Proof.Machine

/-! ### The tick -/

section Tick

variable {s : State}

theorem nextAccess_of_burst {b : Burst} (hport : s.memory.port = some b) (hleft : b.left ≠ 0) :
    nextAccess s = some (wordAddress s.log b.holder (b.length - b.left)) := by
  rw [nextAccess, hport]
  exact if_neg hleft

theorem accessWord_of_no_access (h : nextAccess s = none) : accessWord s = s := by
  cases hport : s.memory.port with
  | none => rw [accessWord, hport]
  | some b =>
    have hleft : b.left = 0 := by
      by_contra hleft
      rw [nextAccess_of_burst hport hleft] at h
      cases h
    rw [accessWord, hport]
    exact if_pos hleft

/-- Record Memory after a tick whose burst writes `d` at address `a` (R151, R157). -/
def RecordMemory.wrote (a : Nat) (d : BitVec 16) (b : Burst) (m : RecordMemory) : RecordMemory :=
  { m with words := m.words.write a (withParity d), port := some { b with left := b.left - 1 } }

/-- Record Memory after a tick whose burst reads address `a` (R157). -/
def RecordMemory.readOne (a : Nat) (b : Burst) (m : RecordMemory) : RecordMemory :=
  { m with port := some { b with left := b.left - 1, got := b.got ++ [m.words.read a] } }

theorem accessWord_of_write {b : Burst} {d : BitVec 16} (hport : s.memory.port = some b) (hleft : b.left ≠ 0)
    (hd : wordWritten s.matcher b.holder (b.length - b.left) = some d) :
    accessWord s =
      { s with memory := s.memory.wrote (wordAddress s.log b.holder (b.length - b.left)) d b } := by
  rw [accessWord, hport]
  simp only [hleft, if_false, hd]
  rfl

theorem accessWord_of_read {b : Burst} (hport : s.memory.port = some b) (hleft : b.left ≠ 0)
    (hd : wordWritten s.matcher b.holder (b.length - b.left) = none) :
    accessWord s =
      { s with memory := s.memory.readOne (wordAddress s.log b.holder (b.length - b.left)) b } := by
  rw [accessWord, hport]
  simp only [hleft, if_false, hd]
  rfl

/-- What one tick does to Record Memory: nothing, a write or a read of the next word of the burst under way. -/
theorem accessWord_memory_cases (s : State) :
    (accessWord s).memory = s.memory ∨
      ∃ b a, s.memory.port = some b ∧ b.left ≠ 0 ∧ nextAccess s = some a ∧
        a = wordAddress s.log b.holder (b.length - b.left) ∧
        ((∃ d, wordWritten s.matcher b.holder (b.length - b.left) = some d ∧
            (accessWord s).memory = s.memory.wrote a d b) ∨
          (wordWritten s.matcher b.holder (b.length - b.left) = none ∧
            (accessWord s).memory = s.memory.readOne a b)) := by
  cases hport : s.memory.port with
  | none => exact .inl (by rw [accessWord, hport])
  | some b =>
    by_cases hleft : b.left = 0
    · refine .inl ?_
      rw [accessWord_of_no_access]
      rw [nextAccess, hport]
      exact if_pos hleft
    · refine .inr ⟨b, _, rfl, hleft, nextAccess_of_burst hport hleft, rfl, ?_⟩
      cases hd : wordWritten s.matcher b.holder (b.length - b.left) with
      | some d => exact .inl ⟨d, rfl, by rw [accessWord_of_write hport hleft hd]⟩
      | none => exact .inr ⟨rfl, by rw [accessWord_of_read hport hleft hd]⟩

theorem lt_of_not_accessMissing {a : Nat} (h : accessMissing s = false) (ha : nextAccess s = some a) : a < 2048 := by
  rw [accessMissing, ha] at h
  exact Nat.not_le.1 (of_decide_eq_false h)

end Tick

/-! ### The canonical form and the sweep (R150, R153) -/

/-- No word of the memory moved, and a sweep under way afterwards was under way before, or has passed no word. -/
def WordsKept (m m' : RecordMemory) : Prop :=
  m'.words = m.words ∧ ∀ n left got, m'.port = some ⟨.sweep, n, left, got⟩ →
    m.port = some ⟨.sweep, n, left, got⟩ ∨ n ≤ left

theorem WordsKept.of_port {m m' : RecordMemory} (hwords : m'.words = m.words) (hport : m'.port = m.port) :
    WordsKept m m' :=
  ⟨hwords, fun _ _ _ h => .inl (hport ▸ h)⟩

theorem WordsKept.of_holder {m m' : RecordMemory} (hwords : m'.words = m.words)
    (hport : ∀ b, m'.port = some b → b.holder ≠ .sweep) : WordsKept m m' :=
  ⟨hwords, fun _ _ _ h => absurd rfl (hport _ h)⟩

/-- Record Memory is canonical, and a sweep has left behind it what R153 says. -/
def WordsInv (s : State) : Prop := MemoryInv s ∧ SweepInv s

theorem WordsInv.of_kept {s t : State} (h : WordsKept s.memory t.memory) (hs : WordsInv s) : WordsInv t := by
  obtain ⟨⟨hwf, hout⟩, -, hsweep⟩ := hs
  obtain ⟨hwords, hport⟩ := h
  refine ⟨⟨by rwa [hwords], fun a ha => by rw [hwords]; exact hout a ha⟩, by rwa [hwords], fun n left got hp a ha => ?_⟩
  rw [hwords]
  rcases hport n left got hp with h | h
  · exact hsweep n left got h a ha
  · omega

theorem WordsInv.of_memory {s t : State} (h : t.memory = s.memory) (hs : WordsInv s) : WordsInv t :=
  hs.of_kept (.of_port (by rw [h]) (by rw [h]))

theorem Burst.orphan_holder_sweep {b : Burst} (h : b.orphan.holder = .sweep) : b.orphan = b := by
  unfold Burst.orphan at h ⊢
  split
  · next heq => rw [heq] at h; cases h
  · rfl

theorem wordsKept_scanAbandoned (m : RecordMemory) : WordsKept m m.scanAbandoned := by
  refine ⟨rfl, fun n left got h => .inl ?_⟩
  obtain ⟨b, hb, horphan⟩ := Option.map_eq_some_iff.1 h
  have hsame : b.orphan = b := Burst.orphan_holder_sweep (by rw [horphan])
  rw [hb, ← hsame, horphan]

theorem wordsKept_frameScan (s : State) : WordsKept s.memory (frameScan s).memory := by
  by_cases h : s.lens.mode = .frame
  · rw [frameScan_of_frame s h]
    dsimp only
    split
    · exact wordsKept_scanAbandoned s.memory
    · exact .of_port rfl rfl
  · rw [frameScan_of_not_frame s h]
    exact .of_port rfl rfl

theorem MovedInScan.wordsKept {s t : State} (h : MovedInScan s t) : WordsKept s.memory t.memory := by
  rw [MovedInScan] at h
  rw [h]
  exact .of_port rfl rfl

theorem movedInScan_continueTargets (s : State) : MovedInScan s (continueTargets s) :=
  movedInScan_of_frame (continueTargets_frame s)

theorem wordsKept_grant (s : State) : WordsKept s.memory (grant s).memory := by
  have hburst (h : Holder) (n : Nat) (u : State) (hh : h ≠ .sweep) (hu : u.memory.words = s.memory.words) :
      WordsKept s.memory (grantBurst h n u).memory := by
    refine .of_holder hu fun b hb => ?_
    rw [grantBurst_port] at hb
    cases hb
    exact hh
  rcases grant_cases s with ⟨-, h⟩ | ⟨q, -, h⟩ | ⟨l, q, -, -, -, h⟩ | h <;> rw [h]
  · exact hburst _ _ s (by simp) rfl
  · unfold grantSegment
    dsimp only
    split
    · exact hburst _ _ _ (by simp) rfl
    · exact (movedInScan_continueTargets { s with memory := { s.memory with lensRequest := none } }).wordsKept
  · cases q with
    | logRead maximum =>
      simp only [grantLink]
      split
      · exact .of_port rfl rfl
      · exact hburst _ _ _ (by simp) rfl
    | tableEntry c first points => exact hburst _ _ _ (by simp) rfl
    | tableRead c index =>
      simp only [grantLink]
      split
      · exact .of_port rfl rfl
      · exact hburst _ _ _ (by simp) rfl
  · exact .of_port rfl rfl

/-- After the end of a burst no sweep is under way. -/
theorem endBurst_memory (b : Burst) (s : State) :
    (endBurst b s).memory =
      { s.memory with port := none, lensRequest := (endBurst b s).memory.lensRequest } := by
  rcases endBurst_cases b s with ⟨-, h⟩ | ⟨-, h⟩ | ⟨c, lower, trim, isLive, -, h⟩ | ⟨l, gap, start, k, -, h⟩ |
    ⟨l, c, first, points, -, h⟩ | ⟨l, c, index, state, count, -, h⟩ <;> rw [h]
  · simp only [endRecord, stopIfDrained_memory, appendRecord_memory]
  · exact congrArg State.memory
      (endSegment_movedInScan { s with memory := { s.memory with port := none } } c trim isLive b.got)
  · rfl
  · rfl
  · rw [endTableRead_frame]

theorem wordsKept_endBurst (b : Burst) (s : State) : WordsKept s.memory (endBurst b s).memory := by
  rw [endBurst_memory]
  exact .of_holder rfl fun b hb => by cases hb

/-- A word that a sweep has just passed reads 0000H, and no other address moves (R153). -/
theorem WordsInv.passTick {s : State} (hmissing : accessMissing s = false) (hs : WordsInv s) : WordsInv (passTick s) := by
  obtain ⟨⟨hwf, hout⟩, -, hsweep⟩ := hs
  have htick : (Machine.passTick s).memory = (accessWord s).memory := rfl
  rcases accessWord_memory_cases s with h | ⟨b, a, hport, hleft, haccess, ha, ⟨d, hd, h⟩ | ⟨hd, h⟩⟩
  · exact WordsInv.of_memory (htick.trans h) ⟨⟨hwf, hout⟩, hwf, hsweep⟩
  · have hlt : a < 2048 := lt_of_not_accessMissing hmissing haccess
    have hwf' : (s.memory.words.write a (withParity d)).wf = true := Memory.wf_write a _ hwf
    rw [WordsInv, MemoryInv, SweepInv, htick, h]
    refine ⟨⟨hwf', fun k hk => ?_⟩, hwf', fun n left got hp k hk => ?_⟩
    · rw [RecordMemory.wrote, Memory.read_write_ne (by simp only [Config.memoryWords] at hk; omega)]
      exact hout k hk
    · obtain ⟨holder, length, left, got'⟩ := b
      cases hp
      cases hd
      dsimp only at hleft ha hk ⊢
      rw [RecordMemory.wrote]
      by_cases hka : k = a
      · rw [hka]
        exact Memory.read_write_self a _ hwf
      · rw [Memory.read_write_ne hka]
        exact hsweep _ _ _ hport k (by simp only [wordAddress] at ha; omega)
  · refine WordsInv.of_kept ?_ ⟨⟨hwf, hout⟩, hwf, hsweep⟩
    rw [htick, h]
    refine .of_holder rfl fun c hc hholder => ?_
    cases hc
    dsimp only at hholder
    rw [hholder] at hd
    cases hd

theorem keptApartFromLinks_wordsInv : KeptApartFromLinks WordsInv where
  input r f s := .of_memory (block_of_frame State.memory (onInput_frame s r f) rfl)
  lockLeft s _ _ := .of_memory (setRef_memory s _)
  holdOver s _ := .of_memory (setRef_memory s _)
  boundary begun cause s _ := .of_kept (by rw [boundary_memory]; exact wordsKept_frameScan s)
  reachStopped begun s _ := .of_memory (reachStopped_memory s begun)
  applyCommit begun s _ _ := .of_memory (applyWhileStopped_memory s begun _)
  applyTimecode begun s _ := .of_memory (applyPendingTimecode_memory s begun)
  stray e s := .of_memory rfl
  assign e s _ := .of_memory (assignReturn_memory s e)
  synth e s := .of_memory (handSynth_memory s e)
  decide e s := .of_memory (decideTrigger_memory s e)
  pulseEnd e s := .of_memory rfl
  close n s := .of_memory (closeSlot_memory s n)
  lapseEdit s _ := .of_memory (block_of_frame State.memory (lapseEdit_frame s) rfl)
  lapseTable c s _ := .of_memory (block_of_frame State.memory (lapseTable_frame s c) rfl)
  grant s _ := .of_kept (wordsKept_grant s)
  burstEnd b s _ _ := .of_kept (wordsKept_endBurst b s)
  scanDue s _ := .of_kept (scanTimer_movedInScan s).wordsKept
  conversions s _ := .of_kept (endConversions_movedInScan s).wordsKept
  links s v := .of_memory rfl
  queue s pending ties := .of_memory rfl
  reset s := .of_kept (.of_holder rfl fun b hb => by cases hb)
  release sel rate s _ := .of_kept ⟨rfl, fun n left got h => by cases h; exact .inr (Nat.le_refl _)⟩
  tick s _ _ hmissing := .passTick hmissing
  startRun start s _ := .of_memory (block_of_frame State.memory (startRun_frame s start) rfl)
  drain s _ := .of_memory rfl
  restart s := .of_kept (by
    rw [restartBlocks_frame]
    refine ⟨rfl, fun n left got h => .inl ?_⟩
    exact (Option.filter_eq_some_iff.1 h).1)
  command i s howner hs := by
    have hframe := takeCommand_frame i s
    cases ho : commandOwner i <;> rw [ho] at hframe
    case run => exact absurd ho howner
    case log => exact hs.of_kept (.of_port (block_of_frame (·.memory.words) hframe rfl) (block_of_frame (·.memory.port) hframe rfl))
    case table => exact hs.of_kept (.of_port (block_of_frame (·.memory.words) hframe rfl) (block_of_frame (·.memory.port) hframe rfl))
    all_goals exact hs.of_memory (block_of_frame State.memory hframe rfl)

/-- Settles O51. -/
theorem everyStepKeepsTheMemory : Obligations.EveryStepKeepsTheMemory :=
  fun _ _ hstep hmemory hsweep => keptApartFromLinks_wordsInv.keptByParts.step hstep ⟨hmemory, hsweep⟩

/-! ### Every burst stays within the memory (R150, R157) -/

theorem tableNumber_le (c : ChannelId) : tableNumber c ≤ 5 := by
  obtain ⟨e, x⟩ := c
  cases e <;> cases x <;> decide

/-- A burst that fits forms no address above 7FFH while words are to come. -/
theorem wordAddress_lt {b : Burst} (h : burstFits b) (hleft : b.left ≠ 0) (g : PairLog) :
    wordAddress g b.holder (b.length - b.left) < 2048 := by
  obtain ⟨holder, length, left, got⟩ := b
  obtain ⟨hle, hholder⟩ := h
  dsimp only at hle hleft hholder ⊢
  cases holder with
  | sweep =>
    simp only [Config.memoryWords, wordAddress] at hholder ⊢
    omega
  | record =>
    simp only [wordAddress, recordPlace]
    omega
  | segment c lower trim isLive =>
    have := tableNumber_le c
    simp only [wordAddress, tablePlace]
    omega
  | logRead l gap start k =>
    simp only [wordAddress, recordPlace]
    omega
  | tableEntry l c first points =>
    have := tableNumber_le c
    simp only [wordAddress, tablePlace]
    omega
  | tableRead l c index state count =>
    have := tableNumber_le c
    simp only [wordAddress, tablePlace]
    omega

theorem BurstInv.not_accessMissing {s : State} (h : BurstInv s) : accessMissing s = false := by
  cases haccess : nextAccess s with
  | none => rw [accessMissing, haccess]
  | some a =>
    rw [accessMissing, haccess]
    refine decide_eq_false (Nat.not_le.2 ?_)
    rcases accessWord_memory_cases s with hsame | ⟨b, a', hport, hleft, ha', rfl, -⟩
    · cases hport : s.memory.port with
      | none => rw [nextAccess, hport] at haccess; cases haccess
      | some b =>
        by_cases hleft : b.left = 0
        · rw [nextAccess, hport] at haccess
          simp [hleft] at haccess
        · rw [nextAccess_of_burst hport hleft] at haccess
          cases haccess
          exact wordAddress_lt (h.2.1 b hport) hleft s.log
    · rw [ha'] at haccess
      cases haccess
      exact wordAddress_lt (h.2.1 b hport) hleft s.log

/-- A move that keeps every table's count within 32, and brings no burst and no request that leaves the memory. -/
theorem BurstInv.of_memory {s t : State} (hcount : ∀ c, (channelGet t.lens.tables c).count ≤ 32)
    (hmemory : t.memory = s.memory) (hs : BurstInv s) : BurstInv t := by
  obtain ⟨-, hport, hlens, hlinks⟩ := hs
  exact ⟨hcount, by rwa [hmemory], by rwa [hmemory], by rwa [hmemory]⟩

theorem BurstInv.of_frame {s t : State} (htables : t.lens.tables = s.lens.tables) (hmemory : t.memory = s.memory)
    (hs : BurstInv s) : BurstInv t :=
  hs.of_memory (by rw [htables]; exact hs.1) hmemory

theorem burstFits_orphan {b : Burst} (h : burstFits b) : burstFits b.orphan := by
  obtain ⟨holder, length, left, got⟩ := b
  cases holder <;> exact h

theorem BurstInv.frameScan {s : State} (hs : BurstInv s) : BurstInv (frameScan s) := by
  by_cases h : s.lens.mode = .frame
  · obtain ⟨hcount, hport, hlens, hlinks⟩ := hs
    rw [frameScan_of_frame s h]
    by_cases hscan : s.lens.scan.isSome
    · simp only [hscan, if_true]
      refine ⟨hcount, fun b hb => ?_, fun q hq => (by cases hq), hlinks⟩
      obtain ⟨b', hb', rfl⟩ := Option.map_eq_some_iff.1 hb
      exact burstFits_orphan (hport b' hb')
    · simp only [hscan]
      exact ⟨hcount, hport, hlens, hlinks⟩
  · rwa [frameScan_of_not_frame s h]

theorem BurstInv.completeScan {s : State} (hs : BurstInv s) : BurstInv (completeScan s) := by
  cases h : s.lens.scan with
  | none => rwa [completeScan_of_none h]
  | some sc =>
    refine hs.of_memory (fun c => ?_) (completeScan_memory s)
    rw [completeScan_lens h, completed_table_count]
    exact hs.1 c

theorem BurstInv.requestSegment {s : State} (hs : BurstInv s) (c : ChannelId) (rest : List ChannelId) :
    BurstInv (requestSegment c rest s) := by
  obtain ⟨hcount, hport, hlens, hlinks⟩ := hs
  refine ⟨hcount, hport, fun q hq => ?_, hlinks⟩
  cases hq
  exact Table.segment_le (hcount c) _

theorem BurstInv.nextSegment {s : State} (hs : BurstInv s) (cs : List ChannelId) : BurstInv (nextSegment cs s) :=
  nextSegment_rule (fun c rest _ => hs.requestSegment c rest) hs.completeScan

theorem BurstInv.continueTargets {s : State} (hs : BurstInv s) : BurstInv (continueTargets s) :=
  continueTargets_rule (fun c rest _ => hs.requestSegment c rest) hs.completeScan hs

/-- A change of one table that keeps its count within 32. -/
theorem BurstInv.onTable {s : State} (hs : BurstInv s) (c : ChannelId) {f : Table → Table}
    (hf : (f (channelGet s.lens.tables c)).count ≤ 32) : BurstInv (onTable c f s) := by
  refine BurstInv.of_memory (s := s) (t := Machine.onTable c f s) (fun d => ?_) rfl hs
  by_cases hd : d = c
  · rw [hd, onTable_get_self]
    exact hf
  · exact (congrArg Table.count (channelGet_set_ne s.lens.tables _ hd)).trans_le (hs.1 d)

theorem BurstInv.editTable {s : State} (hs : BurstInv s) (c : ChannelId) {f : Table → Table}
    (hf : (f (channelGet s.lens.tables c)).count ≤ 32) : BurstInv (editTable c f s) := by
  obtain ⟨hcount, hrest⟩ := hs.onTable c hf
  exact ⟨hcount, hrest⟩

theorem BurstInv.freePort {s : State} (hs : BurstInv s) : BurstInv { s with memory := { s.memory with port := none } } :=
  ⟨hs.1, fun b hb => (by cases hb), hs.2.2⟩

theorem BurstInv.grantBurst {s : State} (hs : BurstInv s) {holder : Holder} {n : Nat} (h : burstFits ⟨holder, n, n, []⟩) :
    BurstInv (grantBurst holder n s) := by
  refine ⟨hs.1, fun b hb => ?_, hs.2.2⟩
  rw [grantBurst_port] at hb
  cases hb
  exact h

theorem BurstInv.grantSegment {s : State} (hs : BurstInv s) {q : SegmentRequest} (hq : s.memory.lensRequest = some q) :
    BurstInv (grantSegment q s) := by
  obtain ⟨hcount, hport, hlens, hlinks⟩ := hs
  have hwithdrawn : BurstInv { s with memory := { s.memory with lensRequest := none } } :=
    ⟨hcount, hport, fun q' hq' => (by cases hq'), hlinks⟩
  unfold Machine.grantSegment
  dsimp only
  split
  · exact hwithdrawn.grantBurst ⟨Nat.le_refl _, hlens q hq, Nat.le_refl _⟩
  · exact hwithdrawn.continueTargets

theorem BurstInv.clearGap {s : State} (hs : BurstInv s) {l : Link} : BurstInv (clearGap l s) :=
  ⟨hs.1, hs.2.1, hs.2.2⟩

theorem BurstInv.grantLink {s : State} (hs : BurstInv s) {l : Link} {q : LinkRequest}
    (hq : s.memory.linkRequests.get l = some q) : BurstInv (grantLink l q s) := by
  obtain ⟨hcount, hport, hlens, hlinks⟩ := hs
  have hserved : BurstInv
      { s with memory := { s.memory with linkRequests := s.memory.linkRequests.set l none, lastServed := l } } := by
    refine ⟨hcount, hport, hlens, fun k c first points hk => ?_⟩
    by_cases hkl : k = l
    · rw [hkl] at hk
      simp at hk
    · exact hlinks k c first points (by simpa [PerLink.get_set_ne _ _ hkl] using hk)
  cases q with
  | logRead maximum =>
    simp only [Machine.grantLink]
    split
    · exact hserved
    · exact hserved.clearGap.grantBurst ⟨Nat.le_refl _, trivial⟩
  | tableEntry c first points => exact hserved.grantBurst ⟨Nat.le_refl _, hlinks l c first points hq, Nat.le_refl _⟩
  | tableRead c index =>
    simp only [Machine.grantLink]
    split
    · exact hserved
    · next hindex =>
      exact hserved.grantBurst ⟨Nat.le_refl _, by have := hcount c; omega, Nat.le_refl _⟩

theorem BurstInv.grant {s : State} (hs : BurstInv s) : BurstInv (grant s) := by
  rcases grant_cases s with ⟨-, h⟩ | ⟨q, hq, h⟩ | ⟨l, q, -, -, hq, h⟩ | h <;> rw [h]
  · exact hs.grantBurst ⟨Nat.le_refl _, Nat.le_refl _⟩
  · exact hs.grantSegment hq
  · exact hs.grantLink hq
  · exact hs

theorem BurstInv.endSegment {s : State} (hs : BurstInv s) (c : ChannelId) (trim : Int) (isLive : Bool)
    (words : List MemWord) : BurstInv (endSegment c trim isLive words s) := by
  unfold Machine.endSegment
  split
  · split
    · exact BurstInv.continueTargets (s := onScan _ s) hs
    · exact BurstInv.continueTargets (s := onScan _ s) hs
  · exact hs

theorem BurstInv.endBurst {s : State} (hs : BurstInv s) {b : Burst} (hport : s.memory.port = some b) :
    BurstInv (endBurst b s) := by
  rcases endBurst_cases b s with ⟨-, h⟩ | ⟨-, h⟩ | ⟨c, lower, trim, isLive, -, h⟩ | ⟨l, gap, start, k, -, h⟩ |
    ⟨l, c, first, points, hholder, h⟩ | ⟨l, c, index, state, count, -, h⟩ <;> rw [h]
  · exact hs.freePort
  · refine hs.freePort.of_frame ?_ ?_
    · rw [endRecord, stopIfDrained_lens, appendRecord_lens]
    · rw [endRecord, stopIfDrained_memory, appendRecord_memory]
  · exact hs.freePort.endSegment c trim isLive b.got
  · exact hs.freePort
  · have hfits := hs.2.1 b hport
    rw [burstFits, hholder] at hfits
    have hcount := hs.1 c
    exact BurstInv.editTable (f := Table.entered first points _) hs.freePort c
      (Nat.max_le.2 ⟨hcount, hfits.2.1⟩)
  · unfold endTableRead
    split
    · exact hs.freePort
    · exact hs.freePort

theorem BurstInv.passTick {s : State} (hs : BurstInv s) : BurstInv (passTick s) := by
  have hmoved : BurstInv { s with memory := (accessWord s).memory } := by
    obtain ⟨hcount, hport, hlens, hlinks⟩ := hs
    rcases accessWord_memory_cases s with h | ⟨b, a, hb, -, -, -, ⟨d, -, h⟩ | ⟨-, h⟩⟩ <;> rw [h]
    · exact ⟨hcount, hport, hlens, hlinks⟩
    all_goals
      refine ⟨hcount, fun b' hb' => ?_, hlens, hlinks⟩
      cases hb'
      obtain ⟨hle, hfits⟩ := hport b hb
      exact ⟨by dsimp only; omega, hfits⟩
  refine hmoved.of_frame ?_ ?_
  · rw [passTick_frame]
    rfl
  · rfl

theorem BurstInv.withRequest {s : State} (hs : BurstInv s) (l : Link) {q : LinkRequest}
    (hq : ∀ c first points, q = .tableEntry c first points → first + points.length ≤ 32) :
    BurstInv (withRequest l q s) := by
  refine ⟨hs.1, hs.2.1, hs.2.2.1, fun k c first points hk => ?_⟩
  by_cases hkl : k = l
  · rw [hkl] at hk
    simp only [Machine.withRequest, PerLink.get_set_self, Option.some.injEq] at hk
    exact hq c first points hk
  · exact hs.2.2.2 k c first points (by simpa [Machine.withRequest, PerLink.get_set_ne _ _ hkl] using hk)

theorem BurstInv.takeTable {s : State} (hs : BurstInv s) {i : Instr} (h : commandOwner i = .table) :
    BurstInv (takeCommand i s) := by
  obtain ⟨m, hm⟩ := message_of_owner (i := i) (by simp [h])
  rcases takeTable_moves h hm s with ⟨u, st, data, hmove, ht⟩ | hrequest
  · rw [ht]
    cases hmove with
    | none => exact hs
    | begun c _ => exact hs.onTable c (f := Table.begun m.l (tableLapse s)) (Nat.zero_le _)
    | aborted c _ _ => exact hs.onTable c (f := Table.ended .invalid) (hs.1 c)
    | passed c _ _ _ => exact hs.onTable c (f := Table.ended .valid) (hs.1 c)
  · generalize takeCommand i s = t at hrequest
    cases hrequest with
    | entry c first points _ _ _ hfits =>
      exact (hs.editTable c (f := fun x => { x with lapse := none }) (hs.1 c)).withRequest m.l
        (fun c' first' points' hq => by cases hq; exact hfits)
    | read c index => exact hs.withRequest m.l (fun c' first' points' hq => by cases hq)

/-- The lens commands leave the tables. -/
theorem takeLens_tables {i : Instr} (h : commandOwner i = .lens) (s : State) :
    (takeCommand i s).lens.tables = s.lens.tables := by
  have hscan (m : ScanMode) : (setScanMode m s).lens.tables = s.lens.tables := by
    unfold setScanMode
    dsimp only
    (repeat' split) <;> rfl
  have hdrive (c : ChannelId) (on : Bool) : (setDrive c on s).lens.tables = s.lens.tables := by
    unfold setDrive
    dsimp only
    split <;> rfl
  cases i with
  | lensSource l axis source =>
    simp only [takeCommand, takeLensSource]
    split <;> rfl
  | lensDemand l axis value =>
    simp only [takeCommand, takeLensDemand]
    (repeat' split) <;> rfl
  | lensTrim l eye axis trim =>
    simp only [takeCommand, takeLensTrim]
    (repeat' split) <;> rfl
  | lensTol l axis tolerance settle =>
    simp only [takeCommand, takeLensTol]
    (repeat' split) <;> rfl
  | lensDrive l eye axis drive =>
    simp only [takeCommand, takeLensDrive]
    split
    · exact hdrive _ _
    · rfl
  | lensRun l mode =>
    simp only [takeCommand, takeLensRun]
    split
    · exact hscan _
    · rfl
  | _ => cases h

theorem BurstInv.takeLog {s : State} (hs : BurstInv s) {i : Instr} (h : commandOwner i = .log) :
    BurstInv (takeCommand i s) := by
  cases i with
  | logAttach l => exact hs
  | logDetach l =>
    simp only [takeCommand, takeLogDetach]
    split <;> exact hs
  | logRead l maximum =>
    simp only [takeCommand, takeLogRead]
    repeat' split
    any_goals exact hs
    exact hs.withRequest l (fun c first points hq => by cases hq)
  | _ => cases h

theorem keptApartFromLinks_burstInv : KeptApartFromLinks BurstInv where
  input r f s := .of_frame (block_of_frame (·.lens.tables) (onInput_frame s r f) rfl)
    (block_of_frame State.memory (onInput_frame s r f) rfl)
  lockLeft s _ _ := .of_frame (by rw [setRef_lens]) (setRef_memory s _)
  holdOver s _ := .of_frame (by rw [setRef_lens]) (setRef_memory s _)
  boundary begun cause s _ hs := hs.frameScan.of_frame (by rw [boundary_lens]) (boundary_memory s begun cause)
  reachStopped begun s _ := .of_frame (by rw [reachStopped_lens]) (reachStopped_memory s begun)
  applyCommit begun s _ _ := .of_frame (by rw [applyWhileStopped_lens]) (applyWhileStopped_memory s begun _)
  applyTimecode begun s _ := .of_frame (by rw [applyPendingTimecode_lens]) (applyPendingTimecode_memory s begun)
  stray e s := .of_frame rfl rfl
  assign e s _ := .of_frame (by rw [assignReturn_lens]) (assignReturn_memory s e)
  synth e s := .of_frame (by rw [handSynth_lens]) (handSynth_memory s e)
  decide e s := .of_frame (by rw [decideTrigger_lens]) (decideTrigger_memory s e)
  pulseEnd e s := .of_frame rfl rfl
  close n s := .of_frame (by rw [closeSlot_lens]) (closeSlot_memory s n)
  lapseEdit s _ := .of_frame (block_of_frame (·.lens.tables) (lapseEdit_frame s) rfl)
    (block_of_frame State.memory (lapseEdit_frame s) rfl)
  lapseTable c s _ hs := by
    have hended := hs.onTable c (f := Table.ended .invalid) (hs.1 c)
    unfold lapseTable
    dsimp only
    split <;> exact hended
  grant s _ := .grant
  burstEnd b s hport _ hs := hs.endBurst hport
  scanDue s _ hs := by
    unfold scanTimer
    dsimp only
    split <;> exact hs
  conversions s _ hs := BurstInv.nextSegment (s := onScan _ s) hs channelOrder
  links s v hs := hs
  queue s pending ties hs := hs
  reset s _ :=
    ⟨fun c => by rw [show channelGet (assertReset s).lens.tables c = _ from channelGet_build _ c]; exact Nat.zero_le _,
      fun b hb => (by cases hb), fun q hq => (by cases hq), fun l c first points h => by cases l <;> cases h⟩
  release sel rate s _ hs :=
    ⟨hs.1, fun b hb => by cases hb; exact ⟨Nat.le_refl _, Nat.le_refl _⟩, hs.2.2⟩
  tick s _ _ _ := .passTick
  startRun start s _ := .of_frame (block_of_frame (·.lens.tables) (startRun_frame s start) rfl)
    (block_of_frame State.memory (startRun_frame s start) rfl)
  drain s _ hs := hs
  restart s hs := by
    rw [restartBlocks_frame]
    exact ⟨hs.1, fun b hb => hs.2.1 b (Option.filter_eq_some_iff.1 hb).1, hs.2.2⟩
  command i s howner hs := by
    have hframe := takeCommand_frame i s
    cases ho : commandOwner i <;> rw [ho] at hframe
    case run => exact absurd ho howner
    case log => exact hs.takeLog ho
    case table => exact hs.takeTable ho
    case lens => exact hs.of_frame (takeLens_tables ho s) (block_of_frame State.memory hframe rfl)
    all_goals exact hs.of_frame (block_of_frame (·.lens.tables) hframe rfl) (block_of_frame State.memory hframe rfl)

/-- A step succeeds, unless the coming tick would access a word that does not exist (log 28). -/
theorem exists_step {s : State} (hmissing : accessMissing s = false) : ∃ t, step s = .next t := by
  cases hpending : s.pending with
  | cons i rest =>
    rw [step, hpending]
    dsimp only
    by_cases hpin : i = .pinReset
    · exact ⟨_, by rw [hpin]; rfl⟩
    · by_cases hrelease : ∃ sel rate, i = .resetRelease sel rate
      · obtain ⟨sel, rate, rfl⟩ := hrelease
        exact ⟨_, rfl⟩
      · obtain ⟨f, hf⟩ := exec_eq_live hpin (fun sel rate h => hrelease ⟨sel, rate, h⟩) { s with pending := rest }
        exact ⟨_, hf⟩
  | nil =>
    rw [step_of_no_command hpending]
    cases hpins : s.pins.resetAsserted with
    | true => exact ⟨s, by rw [idle, if_pos hpins]⟩
    | false =>
      by_cases hdue : dueEvents s = []
      · cases hgrant : grantDue s with
        | true => exact ⟨_, idle_of_grant hpins hdue hgrant⟩
        | false =>
          rw [idle_of_nothing hpins hdue hgrant]
          exact ⟨passTick s, by rw [tick, if_neg (by simp [hmissing])]⟩
      · obtain ⟨i, ties, -, h⟩ := idle_of_due hpins hdue
        exact ⟨_, h⟩

/-- Settles O60. -/
theorem everyStepStaysWithinTheMemory : Obligations.EveryStepStaysWithinTheMemory := by
  intro s hs
  obtain ⟨t, hstep⟩ := exists_step hs.not_accessMissing
  exact ⟨t, hstep, keptApartFromLinks_burstInv.keptByParts.step hstep hs⟩

end Sys2Proof.Machine
end

section
/-!
PROOFS. The Lens Control Unit through every step: the moves that its state can make, each channel's status (R111, R137),
its outputs (R133, R136) and the conversions of the scan in progress (R138, R143).
-/

namespace Sys2Proof.Machine

/-! ### The timebase counts by ticks alone (R1) -/

section Timebase

variable (s : State)

@[simp] theorem applyWhileStopped_timebase (begun : State) (o : Option Link) :
    (applyWhileStopped begun o s).timing.timebase = s.timing.timebase := by
  unfold applyWhileStopped
  dsimp only
  split <;> simp

@[simp] theorem boundary_timebase (begun : State) (cause : Cause) :
    (boundary begun cause s).timing.timebase = s.timing.timebase := by
  simp [boundary]

@[simp] theorem onInput_timebase (r : RefId) (f : RefInput → RefInput) :
    (onInput r f s).timing.timebase = s.timing.timebase := by
  unfold onInput recomputeRef
  dsimp only
  split <;> simp

@[simp] theorem reachStopped_timebase (begun : State) :
    (reachStopped begun s).timing.timebase = s.timing.timebase := by
  unfold reachStopped recomputeRef
  dsimp only
  split <;> simp [Timing.ended]

@[simp] theorem startRun_timebase (start : Option (BitVec 32)) :
    (startRun start s).timing.timebase = s.timing.timebase := by
  simp [startRun, Timing.started]

@[simp] theorem restartBlocks_timebase : (restartBlocks s).timing.timebase = s.timing.timebase := by
  unfold restartBlocks recomputeRef
  dsimp only
  split <;> simp [Timing.ended]

theorem takePlan_timebase {i : Instr} (ho : commandOwner i = .plan) :
    (takeCommand i s).timing.timebase = s.timing.timebase := by
  cases i with
  | planSet l field value =>
    simp only [takeCommand, takePlanSet]
    (repeat' split) <;> rfl
  | planCommit l =>
    simp only [takeCommand, takePlanCommit]
    repeat' split
    any_goals rfl
    exact applyWhileStopped_timebase s s _
  | planDiscard l =>
    simp only [takeCommand, takePlanDiscard]
    (repeat' split) <;> rfl
  | _ => cases ho

end Timebase

/-! ### The moves of the Lens Control Unit -/

/-- An axis kind's items are in their ranges (R129 to R132, R135). -/
def AxisState.InRange (a : AxisState) : Prop :=
  a.demand ≤ 65535 ∧ a.requested ≤ 65535 ∧ a.tolerance ≤ 4095 ∧ a.settle ≤ 255

/-- Between `sc` and `sc'` the target stage went on: the conversions and the demands stand, and a target computed
meanwhile is a code (R121 to R125). -/
def TargetsMoved (sc sc' : Scan) : Prop :=
  sc'.start = sc.start ∧ sc'.stage = sc.stage ∧ sc'.made = sc.made ∧ sc'.demands = sc.demands ∧
    ∀ c k, channelGet sc'.computed c = some k → channelGet sc.computed c = some k ∨ k.target ≤ 4095

/-- The scan with its conversions ended and its demands formed (R143, R130). -/
def LensUnit.demandsFormed (u : LensUnit) (sc : Scan) : Scan :=
  { sc with
    stage := .target
    demands := PerAxis.build fun x => formedDemand (u.axes.get x) (sc.conversions.wheels.get x) }

/-- The drive of channel `c` set to another value (R136). -/
def LensUnit.driveSet (u : LensUnit) (c : ChannelId) (on : Bool) : LensUnit :=
  LensUnit.reform
    { u with
      channels :=
        channelSet u.channels c
          { channelGet u.channels c with drive := on, output := if on then (channelGet u.channels c).target else 0 } } c

/-- Scanning started from OFF (R138). -/
def LensUnit.scanningStarted (now : Time) (m : ScanMode) (u : LensUnit) : LensUnit :=
  LensUnit.reformAll
    { u with scan := some (u.scan.getD (Scan.begun now)), mode := m, nextDue := scanDueAfter now }

/-- Scanning stopped (R139). -/
def LensUnit.scanningStopped (u : LensUnit) : LensUnit :=
  if u.scan.isSome then { u with mode := .off, nextDue := none }
  else LensUnit.stopped { u with mode := .off, nextDue := none }

theorem setDrive_of_ne {c : ChannelId} {on : Bool} {s : State} (h : (channelGet s.lens.channels c).drive ≠ on) :
    setDrive c on s = { s with lens := s.lens.driveSet c on } := by
  unfold setDrive
  rw [if_neg h]
  rfl

theorem setDrive_of_eq {c : ChannelId} {on : Bool} {s : State} (h : (channelGet s.lens.channels c).drive = on) :
    setDrive c on s = s := by
  unfold setDrive
  rw [if_pos h]

theorem setScanMode_of_off {s : State} (h : s.lens.mode = .off) : setScanMode .off s = s := by
  unfold setScanMode
  rw [h]

theorem setScanMode_of_started {m : ScanMode} {s : State} (h : s.lens.mode = .off) (hm : m ≠ .off) :
    setScanMode m s = { s with lens := s.lens.scanningStarted s.now m } := by
  cases hscan : s.lens.scan <;> cases m <;> simp_all [setScanMode, startScan, LensUnit.scanningStarted]

theorem setScanMode_of_stopped {s : State} (h : s.lens.mode ≠ .off) :
    setScanMode .off s = { s with lens := s.lens.scanningStopped } := by
  unfold setScanMode LensUnit.scanningStopped
  cases hmode : s.lens.mode <;> simp_all

theorem setScanMode_of_running {m : ScanMode} {s : State} (h : s.lens.mode ≠ .off) (hm : m ≠ .off) :
    setScanMode m s = { s with lens := { s.lens with mode := m } } := by
  unfold setScanMode
  cases hmode : s.lens.mode <;> cases m <;> simp_all

/-- The ways the Lens Control Unit can move while RESET# keeps its level and the timebase stands, each of which keeps
`P` of the level of RESET#, the timebase and the unit. -/
structure KeptByLens (P : Bool → Time → LensUnit → Prop) : Prop where
  table : ∀ b t u c f, P b t u → P b t ((u.withTableOf c f).reform c)
  editTable : ∀ b t u c f, (∀ x : Table, (f x).state = x.state) → P b t u → P b t (u.withTableOf c f)
  begun : ∀ b t u due, P b t u → P b t { u with scan := some (Scan.begun t), nextDue := due }
  due : ∀ b t u due, P b t u → P b t { u with nextDue := due }
  targets : ∀ b t u f, (∀ sc, TargetsMoved sc (f sc)) → P b t u → P b t { u with scan := u.scan.map f }
  demands : ∀ b t u sc, u.scan = some sc → sc.stage = .conversions → t = later sc.start 1800 → P b t u →
    P b t { u with scan := some (u.demandsFormed sc) }
  completed : ∀ b t u sc, u.scan = some sc → P b t u → P b t (u.completed sc)
  axis : ∀ b t u x a, ((u.axes.get x).InRange → a.InRange) → P b t u → P b t { u with axes := u.axes.set x a }
  trim : ∀ b t u c v, -2048 ≤ v → v ≤ 2047 → P b t u →
    P b t { u with channels := channelSet u.channels c { channelGet u.channels c with trim := v } }
  drive : ∀ b t u c on, (channelGet u.channels c).drive ≠ on → P b t u → P b t (u.driveSet c on)
  started : ∀ b t u m, u.mode = .off → m ≠ .off → P b t u → P b t (u.scanningStarted t m)
  stopped : ∀ b t u, u.mode ≠ .off → P b t u → P b t u.scanningStopped
  mode : ∀ b t u m, u.mode ≠ .off → m ≠ .off → P b t u → P b t { u with mode := m }

/-- A target is saturated to 12 bits (R124). -/
theorem segmentResult_target_le {words : List MemWord} {x : Nat} {trim : Int} {k : Computed}
    (h : segmentResult words x trim = some k) : k.target ≤ 4095 := by
  unfold segmentResult at h
  split at h
  · split at h
    · cases h
      rw [targetOf, saturate_eq _ _ _ (by decide)]
      dsimp only
      omega
    · cases h
  · cases h

/-- A predicate of the Lens Control Unit, read in a state. -/
def OfLens (P : Bool → Time → LensUnit → Prop) (s : State) : Prop := P s.pins.resetAsserted s.timing.timebase s.lens

namespace KeptByLens

variable {P : Bool → Time → LensUnit → Prop} (h : KeptByLens P) {s t : State}

theorem of_same (hpins : t.pins = s.pins) (htime : t.timing.timebase = s.timing.timebase) (hlens : t.lens = s.lens)
    (hs : OfLens P s) : OfLens P t := by
  rwa [OfLens, hpins, htime, hlens]

include h

theorem requestSegment (c : ChannelId) (rest : List ChannelId) (hs : OfLens P s) : OfLens P (requestSegment c rest s) :=
  h.targets _ _ _ _ (fun _ => ⟨rfl, rfl, rfl, rfl, fun _ _ hk => .inl hk⟩) hs

theorem completeScan (hs : OfLens P s) : OfLens P (completeScan s) := by
  cases hscan : s.lens.scan with
  | none => rwa [completeScan_of_none hscan]
  | some sc =>
    rw [completeScan_of_scan hscan, postFindings_frame]
    exact h.completed _ _ _ sc hscan hs

theorem nextSegment (cs : List ChannelId) (hs : OfLens P s) : OfLens P (nextSegment cs s) :=
  nextSegment_rule (fun c rest _ => h.requestSegment c rest hs) (h.completeScan hs)

theorem continueTargets (hs : OfLens P s) : OfLens P (continueTargets s) :=
  continueTargets_rule (fun c rest _ => h.requestSegment c rest hs) (h.completeScan hs) hs

theorem endConversions (hdue : conversionsDue s = true) (hs : OfLens P s) : OfLens P (endConversions s) := by
  cases hscan : s.lens.scan with
  | none => simp [conversionsDue, hscan] at hdue
  | some sc =>
    simp only [conversionsDue, hscan, Bool.and_eq_true, beq_iff_eq] at hdue
    refine h.nextSegment _ ?_
    have hformed := h.demands _ _ _ sc hscan hdue.1 hdue.2.symm hs
    rwa [OfLens, onScan, hscan]

theorem frameScan (hs : OfLens P s) : OfLens P (frameScan s) := by
  by_cases hmode : s.lens.mode = .frame
  · rw [frameScan_of_frame s hmode]
    exact h.begun _ _ _ _ hs
  · rwa [frameScan_of_not_frame s hmode]

theorem scanTimer (hs : OfLens P s) : OfLens P (scanTimer s) := by
  unfold Machine.scanTimer
  dsimp only
  split
  · exact h.due _ _ _ _ hs
  · exact h.begun s.pins.resetAsserted s.timing.timebase s.lens (scanDueAfter s.now) hs

theorem onTable (c : ChannelId) (f : Table → Table) (hs : OfLens P s) : OfLens P (onTable c f s) :=
  h.table _ _ _ c f hs

theorem lapseTable (c : ChannelId) (hs : OfLens P s) : OfLens P (lapseTable c s) := by
  unfold Machine.lapseTable
  dsimp only
  split <;> exact h.onTable c _ hs

theorem grant (hs : OfLens P s) : OfLens P (grant s) := by
  rcases grant_cases s with ⟨-, hg⟩ | ⟨q, -, hg⟩ | ⟨l, q, -, -, -, hg⟩ | hg <;> rw [hg]
  · exact hs
  · unfold grantSegment
    dsimp only
    split
    · exact hs
    · exact h.continueTargets hs
  · unfold grantLink
    dsimp only
    (repeat' split) <;> exact hs
  · exact hs

theorem endSegment (c : ChannelId) (trim : Int) (isLive : Bool) (words : List MemWord) (hs : OfLens P s) :
    OfLens P (endSegment c trim isLive words s) := by
  unfold Machine.endSegment
  split
  · split
    · next k hk =>
      refine h.continueTargets (h.targets _ _ _ _ (fun sc => ⟨rfl, rfl, rfl, rfl, fun d k' hk' => ?_⟩) hs)
      by_cases hd : d = c
      · rw [hd, channelGet_set_self] at hk'
        cases hk'
        exact .inr (segmentResult_target_le hk)
      · rw [channelGet_set_ne _ _ hd] at hk'
        exact .inl hk'
    · exact h.continueTargets (h.targets _ _ _ _ (fun sc => ⟨rfl, rfl, rfl, rfl, fun _ _ hk' => .inl hk'⟩) hs)
  · exact hs

theorem endBurst (b : Burst) (hs : OfLens P s) : OfLens P (endBurst b s) := by
  rcases endBurst_cases b s with ⟨-, hb⟩ | ⟨-, hb⟩ | ⟨c, lower, trim, isLive, -, hb⟩ | ⟨l, gap, start, k, -, hb⟩ |
    ⟨l, c, first, points, -, hb⟩ | ⟨l, c, index, state, count, -, hb⟩ <;> rw [hb]
  · exact hs
  · refine of_same ?_ ?_ ?_ hs
    · simp [endRecord]
    · rw [endRecord, stopIfDrained]
      split <;> simp
    · simp [endRecord]
  · exact h.endSegment c trim isLive b.got hs
  · exact hs
  · exact h.editTable _ _ _ c (Table.entered first points _) (fun _ => rfl) hs
  · rw [endTableRead_frame]
    exact hs

theorem takeTable {i : Instr} (ho : commandOwner i = .table) (hs : OfLens P s) : OfLens P (takeCommand i s) := by
  obtain ⟨m, hm⟩ := message_of_owner (i := i) (by simp [ho])
  rcases takeTable_moves ho hm s with ⟨u, st, data, hmove, ht⟩ | hrequest
  · rw [ht]
    refine of_same (s := u) rfl rfl rfl ?_
    cases hmove with
    | none => exact hs
    | begun c _ => exact h.onTable c _ hs
    | aborted c _ _ => exact h.onTable c _ hs
    | passed c _ _ _ => exact h.onTable c _ hs
  · generalize takeCommand i s = t at hrequest
    cases hrequest with
    | entry c first points _ _ _ _ => exact h.editTable _ _ _ c (fun x => { x with lapse := none }) (fun _ => rfl) hs
    | read c index => exact hs

theorem setDrive (c : ChannelId) (on : Bool) (hs : OfLens P s) : OfLens P (setDrive c on s) := by
  by_cases hdrive : (channelGet s.lens.channels c).drive = on
  · rwa [setDrive_of_eq hdrive]
  · rw [setDrive_of_ne hdrive]
    exact h.drive _ _ _ c on hdrive hs

theorem setScanMode (m : ScanMode) (hs : OfLens P s) : OfLens P (setScanMode m s) := by
  by_cases hmode : s.lens.mode = .off <;> by_cases hm : m = .off
  · rwa [hm, setScanMode_of_off hmode]
  · rw [setScanMode_of_started hmode hm]
    exact h.started _ _ _ m hmode hm hs
  · rw [hm, setScanMode_of_stopped hmode]
    exact h.stopped _ _ _ hmode hs
  · rw [setScanMode_of_running hmode hm]
    exact h.mode _ _ _ m hmode hm hs

theorem takeLens {i : Instr} (ho : commandOwner i = .lens) (hs : OfLens P s) : OfLens P (takeCommand i s) := by
  cases i with
  | lensSource l axis source =>
    simp only [takeCommand, takeLensSource]
    split
    · refine h.axis _ _ _ _ _ (fun ha => ?_) hs
      unfold AxisState.withSource
      split
      · exact ha
      · exact ⟨ha.1, ha.1, ha.2.2⟩
    · exact hs
  | lensDemand l axis value =>
    simp only [takeCommand, takeLensDemand]
    repeat' split
    any_goals exact hs
    exact h.axis _ _ _ _ _ (fun ha => ⟨ha.1, Nat.le_of_lt_succ value.isLt, ha.2.2⟩) hs
  | lensTrim l eye axis trim =>
    simp only [takeCommand, takeLensTrim]
    repeat' split
    any_goals exact hs
    next htrim => exact h.trim _ _ _ _ _ htrim.1 htrim.2 hs
  | lensTol l axis tolerance settle =>
    simp only [takeCommand, takeLensTol]
    repeat' split
    any_goals exact hs
    next htolerance =>
    exact h.axis _ _ _ _ _
      (fun ha => ⟨ha.1, ha.2.1, Nat.le_of_not_lt htolerance, Nat.le_of_lt_succ settle.isLt⟩) hs
  | lensDrive l eye axis drive =>
    simp only [takeCommand, takeLensDrive]
    split
    · exact h.setDrive _ _ hs
    · exact hs
  | lensRun l mode =>
    simp only [takeCommand, takeLensRun]
    split
    · exact h.setScanMode _ hs
    · exact hs
  | _ => cases ho

/-- What the moves of the Lens Control Unit keep, every event and every command keeps. -/
theorem keptByRuns : KeptByRuns (OfLens P) where
  input r f s := of_same (block_of_frame State.pins (onInput_frame s r f) rfl) (onInput_timebase s r f)
    (block_of_frame State.lens (onInput_frame s r f) rfl)
  lockLeft s _ _ := of_same (setRef_pins s _) (setRef_timebase s _) (setRef_lens s _)
  holdOver s _ := of_same (setRef_pins s _) (setRef_timebase s _) (setRef_lens s _)
  boundary begun cause s _ hs := by
    refine of_same (t := boundary begun cause s) ?_ ?_ (boundary_lens s begun cause) (h.frameScan hs)
    · rw [boundary_frame, frameScan_pins]
    · rw [boundary_timebase, frameScan_timing]
  reachStopped begun s _ := of_same (block_of_frame State.pins (reachStopped_frame s begun) rfl)
    (reachStopped_timebase s begun) (block_of_frame State.lens (reachStopped_frame s begun) rfl)
  applyCommit begun s _ _ := of_same (applyWhileStopped_pins s begun _) (applyWhileStopped_timebase s begun _)
    (applyWhileStopped_lens s begun _)
  applyTimecode begun s _ := of_same (applyPendingTimecode_pins s begun)
    (congrArg Timing.timebase (applyPendingTimecode_timing s begun)) (applyPendingTimecode_lens s begun)
  stray e s := of_same rfl rfl rfl
  assign e s _ := of_same (assignReturn_pins s e) (congrArg Timing.timebase (assignReturn_timing s e))
    (assignReturn_lens s e)
  synth e s := of_same (handSynth_pins s e) (congrArg Timing.timebase (handSynth_timing s e)) (handSynth_lens s e)
  decide e s := of_same (decideTrigger_pins s e) (congrArg Timing.timebase (decideTrigger_timing s e))
    (decideTrigger_lens s e)
  pulseEnd e s := of_same rfl rfl rfl
  close n s := of_same (closeSlot_pins s n) (congrArg Timing.timebase (closeSlot_timing s n)) (closeSlot_lens s n)
  lapseEdit s _ := by
    unfold lapseEdit
    dsimp only
    split <;> exact of_same rfl rfl rfl
  lapseTable c s _ := h.lapseTable c
  grant s _ := h.grant
  burstEnd b s _ _ := h.endBurst b
  scanDue s _ := h.scanTimer
  conversions s hdue := h.endConversions hdue
  links s v := of_same rfl rfl rfl
  startRun start s _ := of_same (block_of_frame State.pins (startRun_frame s start) rfl) (startRun_timebase s start)
    (block_of_frame State.lens (startRun_frame s start) rfl)
  drain s _ := of_same rfl rfl rfl
  restart s := of_same (block_of_frame State.pins (restartBlocks_frame s) rfl) (restartBlocks_timebase s)
    (block_of_frame State.lens (restartBlocks_frame s) rfl)
  command i s howner hs := by
    have hframe := takeCommand_frame i s
    cases ho : commandOwner i <;> rw [ho] at hframe
    case run => exact absurd ho howner
    case table => exact h.takeTable ho hs
    case lens => exact h.takeLens ho hs
    case plan =>
      exact of_same (s := s) (t := takeCommand i s) (block_of_frame State.pins hframe rfl) (takePlan_timebase s ho)
        (block_of_frame State.lens hframe rfl) hs
    all_goals
      exact of_same (block_of_frame State.pins hframe rfl) (block_of_frame (·.timing.timebase) hframe rfl)
        (block_of_frame State.lens hframe rfl) hs

end KeptByLens

end Sys2Proof.Machine
end

section
/-!
PROOFS. What every step keeps of the lens channels: their statuses (R111, R137), their outputs (R133, R136), and the
conversions of the scan in progress (R138, R143).
-/

namespace Sys2Proof.Machine

/-! ### Channels after each of the moves -/

section Channels

variable (u : LensUnit) (c : ChannelId)

@[simp] theorem enter_drive (st : ChannelStatus) (settle : Nat) (ch : Channel) : (ch.enter st settle).drive = ch.drive := by
  unfold Channel.enter
  (repeat' split) <;> rfl

@[simp] theorem enter_status (st : ChannelStatus) (settle : Nat) (ch : Channel) : (ch.enter st settle).status = st := by
  unfold Channel.enter
  split
  · assumption
  · split <;> rfl

/-- Entering a status moves the status and the counter alone. -/
theorem enter_frame (st : ChannelStatus) (settle : Nat) (ch : Channel) :
    ch.enter st settle = { ch with status := st, counter := (ch.enter st settle).counter } := by
  unfold Channel.enter
  split
  · next h => rw [← h]
  · split <;> rfl

/-- The check moves the status and the counter alone. -/
theorem checked_frame (tolerance settle before : Nat) (ch : Channel) :
    ch.checked tolerance settle before =
      { ch with
        status := (ch.checked tolerance settle before).status
        counter := (ch.checked tolerance settle before).counter } := by
  unfold Channel.checked
  split
  · rfl
  · rfl
  · dsimp only
    (repeat' split) <;> rfl

theorem checked_of_off {tolerance settle before : Nat} {ch : Channel} (h : ch.status = .off ∨ ∃ r, ch.status = .hold r) :
    ch.checked tolerance settle before = ch := by
  unfold Channel.checked
  rcases h with h | ⟨r, h⟩ <;> rw [h]

/-- The status a check gives a channel that is neither OFF nor held (R145). -/
theorem checked_status {tolerance settle before : Nat} {ch : Channel} (hoff : ch.status ≠ .off)
    (hhold : ∀ r, ch.status ≠ .hold r) :
    (ch.checked tolerance settle before).status = .settling ∨ (ch.checked tolerance settle before).status = .tracking ∨
      (ch.checked tolerance settle before).status = .offTrack := by
  unfold Channel.checked
  split
  · next h => exact absurd h hoff
  · next r h => exact absurd h (hhold r)
  · dsimp only
    (repeat' split) <;> simp

@[simp] theorem reform_channel_self : channelGet (u.reform c).channels c = u.reformed c := by
  simp [LensUnit.reform]

theorem reform_channel_ne {d : ChannelId} (h : d ≠ c) : channelGet (u.reform c).channels d = channelGet u.channels d := by
  simp [LensUnit.reform, channelGet_set_ne _ _ h]

@[simp] theorem reformAll_channel : channelGet u.reformAll.channels c = u.reformed c := by
  simp [LensUnit.reformAll]

@[simp] theorem withTableOf_table_self (f : Table → Table) :
    channelGet (u.withTableOf c f).tables c = f (channelGet u.tables c) := by
  simp [LensUnit.withTableOf]

theorem withTableOf_table_ne (f : Table → Table) {d : ChannelId} (h : d ≠ c) :
    channelGet (u.withTableOf c f).tables d = channelGet u.tables d := by
  simp [LensUnit.withTableOf, channelGet_set_ne _ _ h]

/-- The channel after the faults of a scan are settled (R125). -/
theorem settleFaults_channel (sc : Scan) :
    channelGet (u.settleFaults sc).channels c =
      if u.faults sc c then
        (channelGet u.channels c).enter (formedStatus (channelGet u.channels c).drive (some .fault) u.scanning)
          (u.axes.get c.axis).settle
      else channelGet u.channels c := by
  unfold LensUnit.settleFaults LensUnit.reformed LensUnit.scanning
  dsimp only
  simp only [channelGet_build]
  split <;> rfl

/-- The channel after the output stage and the check of a scan (R144 to R146). -/
theorem judged_channel (sc : Scan) :
    channelGet (u.judged sc).channels c =
      ((channelGet (u.settleFaults sc).channels c).written (channelGet sc.computed c) (sc.code (tableNumber c))).checked
        (u.axes.get c.axis).tolerance (u.axes.get c.axis).settle (channelGet (u.settleFaults sc).channels c).target := by
  simp [LensUnit.judged, LensUnit.formMatches, LensUnit.check, LensUnit.output, LensUnit.settleFaults, Scan.conversions]

@[simp] theorem judged_tables (sc : Scan) : (u.judged sc).tables = (u.settleFaults sc).tables := rfl

@[simp] theorem judged_mode (sc : Scan) : (u.judged sc).mode = u.mode := rfl

/-- With scanning running a completion leaves the channels of the check (R144). -/
theorem completed_channels_of_running {sc : Scan} (h : u.mode ≠ .off) :
    (u.completed sc).channels = (u.judged sc).channels := by
  rw [LensUnit.completed, if_neg h]

/-- With the mode OFF a completion re-forms every channel (R139). -/
theorem completed_channel_of_off {sc : Scan} (h : u.mode = .off) :
    channelGet (u.completed sc).channels c = ({ u.judged sc with scan := none } : LensUnit).reformed c := by
  rw [LensUnit.completed, if_pos h, LensUnit.stopped]
  exact reformAll_channel _ c

end Channels

/-! ### The status of a channel (R111, R137) -/

/-- `channelInv` of a channel against the reason its table gives, the mode and the scan. -/
def StatusOk (ch : Channel) (reason : Option HoldReason) (mode : ScanMode) (scan : Option Scan) : Prop :=
  (ch.status = .off ↔ ch.drive = false) ∧
    (ch.drive = true → ∀ r, reason = some r → ch.status = .hold r) ∧
    (ch.drive = true → reason = none → mode ≠ .off →
      ch.status = .settling ∨ ch.status = .tracking ∨ ch.status = .offTrack) ∧
    (ch.drive = true → reason = none → mode = .off → scan = none → ch.status = .hold .scanOff) ∧
    (ch.drive = true → reason = none → ∀ r, ch.status = .hold r → r = .scanOff) ∧
    (ch.status = .off ∨ (∃ r, ch.status = .hold r) → ch.counter = 0)

theorem channelInv_iff (u : LensUnit) (c : ChannelId) :
    channelInv u c ↔
      StatusOk (channelGet u.channels c) (channelGet u.tables c).state.holdReason u.mode u.scan := Iff.rfl

section Status

variable {ch : Channel} {reason : Option HoldReason} {mode : ScanMode} {scan : Option Scan}

/-- The counter is 0 while the channel is OFF or held. -/
def Channel.Idle (ch : Channel) : Prop := ch.status = .off ∨ (∃ r, ch.status = .hold r) → ch.counter = 0

theorem Channel.Idle.enter {st : ChannelStatus} {settle : Nat} (h : ch.Idle) : (ch.enter st settle).Idle := by
  intro hst
  rw [enter_status] at hst
  unfold Channel.enter
  split
  · next heq => exact h (heq ▸ hst)
  · rcases hst with rfl | ⟨r, rfl⟩ <;> rfl

/-- A channel re-formed is as its drive, its table and scanning give it (R137). -/
theorem statusOk_entered {settle : Nat} (h : ch.Idle) :
    StatusOk (ch.enter (formedStatus ch.drive reason (mode != .off)) settle) reason mode scan := by
  refine ⟨?_, ?_, ?_, ?_, ?_, h.enter⟩ <;> simp only [enter_status, enter_drive] <;> unfold formedStatus
  · cases ch.drive <;> cases reason <;> cases mode <;> simp
  · rintro hdrive r rfl
    simp [hdrive]
  · rintro hdrive rfl hmode
    simp [hdrive, hmode]
  · rintro hdrive rfl rfl -
    simp [hdrive]
  · rintro hdrive rfl r hr
    cases mode <;> simp_all

theorem StatusOk.idle (h : StatusOk ch reason mode scan) : ch.Idle := h.2.2.2.2.2

/-- The status is as it should be of any channel with the same status, drive and counter, and under any scan that is
under way whenever the former is. -/
theorem StatusOk.of_same {ch' : Channel} {scan' : Option Scan} (hstatus : ch'.status = ch.status)
    (hdrive : ch'.drive = ch.drive) (hcounter : ch'.counter = ch.counter) (hscan : scan' = none → scan = none)
    (h : StatusOk ch reason mode scan) : StatusOk ch' reason mode scan' := by
  obtain ⟨h1, h2, h3, h4, h5, h6⟩ := h
  rw [StatusOk, hstatus, hdrive, hcounter]
  exact ⟨h1, h2, h3, fun hd hr hm hs => h4 hd hr hm (hscan hs), h5, h6⟩

/-- While a scan finishes, scanning stopped makes no status wrong (R139). -/
theorem StatusOk.of_finishing {sc : Scan} (h : StatusOk ch reason mode scan) : StatusOk ch reason .off (some sc) := by
  obtain ⟨h1, h2, -, -, h5, h6⟩ := h
  exact ⟨h1, h2, fun _ _ hm => absurd rfl hm, fun _ _ _ hs => (nomatch hs), h5, h6⟩

/-- Between FREE and FRAME the mode alone changes (R138). -/
theorem StatusOk.of_running {mode' : ScanMode} (hmode : mode ≠ .off) (hmode' : mode' ≠ .off)
    (h : StatusOk ch reason mode scan) : StatusOk ch reason mode' scan := by
  obtain ⟨h1, h2, h3, -, h5, h6⟩ := h
  exact ⟨h1, h2, fun hd hr _ => h3 hd hr hmode, fun _ _ hm => absurd hm hmode', h5, h6⟩

/-- With scanning running the check keeps the status as it should be (R145). -/
theorem StatusOk.checked {tolerance settle before : Nat} (hmode : mode ≠ .off) (h : StatusOk ch reason mode scan) :
    StatusOk (ch.checked tolerance settle before) reason mode none := by
  by_cases hidle : ch.status = .off ∨ ∃ r, ch.status = .hold r
  · rw [checked_of_off hidle]
    obtain ⟨h1, h2, h3, -, h5, h6⟩ := h
    exact ⟨h1, h2, h3, fun _ _ hm => absurd hm hmode, h5, h6⟩
  · rw [not_or, not_exists] at hidle
    obtain ⟨hoff, hhold⟩ := hidle
    obtain ⟨h1, h2, h3, -, -, -⟩ := h
    have hdrive : (ch.checked tolerance settle before).drive = ch.drive := by rw [checked_frame]
    have hon : ch.drive = true := by
      by_contra hd
      exact hoff (h1.2 (by simpa using hd))
    have hreason : reason = none := by
      cases hr : reason with
      | none => rfl
      | some r => exact absurd (h2 hon r hr) (hhold r)
    rcases checked_status (tolerance := tolerance) (settle := settle) (before := before) hoff hhold with h' | h' | h' <;>
      simp [StatusOk, h', hdrive, hon, hreason, hmode]

/-- The check of a channel that is neither OFF nor held leaves it neither. -/
theorem Channel.Idle.checked {tolerance settle before : Nat} (h : ch.Idle) :
    (ch.checked tolerance settle before).Idle := by
  by_cases hidle : ch.status = .off ∨ ∃ r, ch.status = .hold r
  · rwa [checked_of_off hidle]
  · rw [not_or, not_exists] at hidle
    intro hst
    rcases checked_status (tolerance := tolerance) (settle := settle) (before := before) hidle.1 hidle.2 with h' | h' | h' <;>
      simp [h'] at hst

end Status

/-- `StatusInv` of the unit. -/
def StatusOf (_ : Bool) (_ : Time) (u : LensUnit) : Prop := ∀ c, channelInv u c

theorem StatusOf.idle {b : Bool} {t : Time} {u : LensUnit} (h : StatusOf b t u) (c : ChannelId) :
    (channelGet u.channels c).Idle :=
  StatusOk.idle ((channelInv_iff u c).1 (h c))

/-- A unit whose channels are all re-formed has every status as it should be (R137). -/
theorem statusOf_reformed {b : Bool} {t : Time} {u v : LensUnit} (hidle : ∀ c, (channelGet v.channels c).Idle)
    (hchannels : ∀ c, channelGet u.channels c = v.reformed c) (htables : u.tables = v.tables) (hmode : u.mode = v.mode) :
    StatusOf b t u := by
  intro c
  rw [channelInv_iff, hchannels, htables, hmode]
  exact statusOk_entered (hidle c)

/-- One channel re-formed, the others as they were. -/
theorem statusOf_reform {b : Bool} {t : Time} {u v : LensUnit} {c : ChannelId} (hidle : (channelGet v.channels c).Idle)
    (hothers : ∀ d, d ≠ c → channelGet v.channels d = channelGet u.channels d ∧
      channelGet v.tables d = channelGet u.tables d)
    (hmode : v.mode = u.mode) (hscan : v.scan = u.scan) (h : StatusOf b t u) : StatusOf b t (v.reform c) := by
  intro d
  rw [channelInv_iff]
  by_cases hd : d = c
  · rw [hd, reform_channel_self]
    exact statusOk_entered hidle
  · obtain ⟨hchannel, htable⟩ := hothers d hd
    have hsame := (channelInv_iff u d).1 (h d)
    rw [reform_channel_ne _ _ hd, hchannel]
    change StatusOk _ (channelGet v.tables d).state.holdReason v.mode v.scan
    rwa [htable, hmode, hscan]

/-- No channel moved, no table's state, and not the mode; a scan under way before is under way after. -/
theorem StatusOf.of_same {b : Bool} {t : Time} {u v : LensUnit} (h : StatusOf b t u)
    (hchannels : ∀ c, (channelGet v.channels c).status = (channelGet u.channels c).status ∧
      (channelGet v.channels c).drive = (channelGet u.channels c).drive ∧
      (channelGet v.channels c).counter = (channelGet u.channels c).counter)
    (htables : ∀ c, (channelGet v.tables c).state = (channelGet u.tables c).state) (hmode : v.mode = u.mode)
    (hscan : v.scan = none → u.scan = none) : StatusOf b t v := by
  intro c
  obtain ⟨hstatus, hdrive, hcounter⟩ := hchannels c
  rw [channelInv_iff, htables, hmode]
  exact ((channelInv_iff u c).1 (h c)).of_same hstatus hdrive hcounter hscan

/-- After the faults of a scan are settled every status is as it should be (R125). -/
theorem StatusOf.settled {b : Bool} {t : Time} {u : LensUnit} (h : StatusOf b t u) (sc : Scan) :
    StatusOf b t (u.settleFaults sc) := by
  intro c
  rw [channelInv_iff, settleFaults_channel, settleFaults_table]
  split
  · exact statusOk_entered (reason := some .fault) (h.idle c)
  · exact (channelInv_iff u c).1 (h c)

theorem StatusOf.completed {b : Bool} {t : Time} {u : LensUnit} (h : StatusOf b t u) (sc : Scan) :
    StatusOf b t (u.completed sc) := by
  by_cases hmode : u.mode = .off
  · refine statusOf_reformed (v := { u.judged sc with scan := none }) (fun c => ?_)
      (fun c => completed_channel_of_off u c hmode) (completed_tables u sc) (completed_mode u sc)
    change (channelGet (u.judged sc).channels c).Idle
    rw [judged_channel]
    exact Channel.Idle.checked ((h.settled sc).idle c)
  · intro c
    rw [channelInv_iff, completed_channels_of_running u hmode, judged_channel, completed_tables, completed_mode,
      completed_scan]
    have hsettled := (channelInv_iff _ c).1 (h.settled sc c)
    exact StatusOk.checked hmode (hsettled.of_same rfl rfl rfl id)

theorem keptByLens_statusOf : KeptByLens StatusOf where
  table b t u c f h :=
    statusOf_reform (u := u) (v := u.withTableOf c f) (h.idle c) (fun d hd => ⟨rfl, withTableOf_table_ne u c f hd⟩) rfl rfl h
  editTable b t u c f hf h :=
    h.of_same (fun _ => ⟨rfl, rfl, rfl⟩)
      (fun d => by
        by_cases hd : d = c
        · rw [hd, withTableOf_table_self, hf]
        · rw [withTableOf_table_ne u c f hd])
      rfl id
  begun b t u due h := h.of_same (fun _ => ⟨rfl, rfl, rfl⟩) (fun _ => rfl) rfl (fun hnone => nomatch hnone)
  due b t u due h := h.of_same (fun _ => ⟨rfl, rfl, rfl⟩) (fun _ => rfl) rfl id
  targets b t u f _ h := h.of_same (fun _ => ⟨rfl, rfl, rfl⟩) (fun _ => rfl) rfl Option.map_eq_none_iff.1
  demands b t u sc _ _ _ h := h.of_same (fun _ => ⟨rfl, rfl, rfl⟩) (fun _ => rfl) rfl (fun hnone => nomatch hnone)
  completed b t u sc _ h := h.completed sc
  axis b t u x a _ h := h.of_same (fun _ => ⟨rfl, rfl, rfl⟩) (fun _ => rfl) rfl id
  trim b t u c v _ _ h :=
    h.of_same
      (fun d => by
        by_cases hd : d = c
        · simp [hd]
        · simp [channelGet_set_ne _ _ hd])
      (fun _ => rfl) rfl id
  drive b t u c on _ h :=
    statusOf_reform (u := u) (by rw [channelGet_set_self]; exact h.idle c) (fun d hd => ⟨channelGet_set_ne _ _ hd, rfl⟩) rfl rfl h
  started b t u m _ _ h :=
    statusOf_reformed
      (v := { u with scan := some (u.scan.getD (Scan.begun t)), mode := m, nextDue := scanDueAfter t }) h.idle
      (fun c => reformAll_channel _ c) rfl rfl
  stopped b t u _ h := by
    cases hscan : u.scan with
    | none =>
      have hstopped : u.scanningStopped = LensUnit.stopped { u with mode := .off, nextDue := none } := by
        simp [LensUnit.scanningStopped, hscan]
      rw [hstopped]
      exact statusOf_reformed (v := { u with mode := .off, nextDue := none }) h.idle
        (fun c => reformAll_channel _ c) rfl rfl
    | some sc =>
      intro c
      have hstopped : u.scanningStopped = { u with mode := .off, nextDue := none } := by
        simp [LensUnit.scanningStopped, hscan]
      rw [channelInv_iff, hstopped]
      have hfinishing := ((channelInv_iff u c).1 (h c)).of_finishing (sc := sc)
      rwa [← hscan] at hfinishing
  mode b t u m hmode hm h := fun c => ((channelInv_iff u c).1 (h c)).of_running hmode hm

theorem statusInv_reset : StatusInv .reset := by
  intro c
  rw [channelInv_iff, show channelGet State.reset.lens.channels c = _ from channelGet_build _ c,
    show channelGet State.reset.lens.tables c = _ from channelGet_build _ c]
  simp [StatusOk]

theorem keptApartFromLinks_statusInv : KeptApartFromLinks StatusInv where
  toKeptByRuns := keptByLens_statusOf.keptByRuns
  queue s pending ties h := h
  reset s _ := statusInv_reset
  release sel rate s _ h := h
  tick s _ _ _ h := by
    rw [passTick_frame]
    exact StatusOf.of_same (b := false) (t := 0) h (fun _ => ⟨rfl, rfl, rfl⟩) (fun _ => rfl) rfl Option.map_eq_none_iff.1

/-! ### The outputs (R124, R129, R130, R133, R136) -/

/-- `OutputInv` of a channel. -/
def Channel.OutputOk (ch : Channel) : Prop :=
  ch.target ≤ 4095 ∧ ch.output = (if ch.drive then ch.target else 0) ∧ -2048 ≤ ch.trim ∧ ch.trim ≤ 2047

/-- `OutputInv` of a scan: the demands formed and the targets computed are in their ranges. -/
def Scan.OutputOk (sc : Scan) : Prop :=
  (∀ x, sc.demands.get x ≤ 65535) ∧ ∀ c k, channelGet sc.computed c = some k → k.target ≤ 4095

/-- `OutputInv` of the unit. -/
def OutputOf (_ : Bool) (_ : Time) (u : LensUnit) : Prop :=
  (∀ c, (channelGet u.channels c).OutputOk) ∧ (∀ x, (u.axes.get x).InRange) ∧ ∀ sc, u.scan = some sc → sc.OutputOk

section Outputs

variable {ch : Channel} {u : LensUnit}

theorem Channel.OutputOk.enter {st : ChannelStatus} {settle : Nat} (h : ch.OutputOk) : (ch.enter st settle).OutputOk := by
  rw [enter_frame]
  exact h

theorem Channel.OutputOk.checked {tolerance settle before : Nat} (h : ch.OutputOk) :
    (ch.checked tolerance settle before).OutputOk := by
  rw [checked_frame]
  exact h

theorem Channel.OutputOk.written {computed : Option Computed} {encoder : BitVec 12} (h : ch.OutputOk)
    (hcomputed : ∀ k, computed = some k → k.target ≤ 4095) : (ch.written computed encoder).OutputOk := by
  cases computed with
  | none => exact ⟨h.1, rfl, h.2.2⟩
  | some k => exact ⟨hcomputed k rfl, rfl, h.2.2⟩

theorem outputOk_begun (t : Time) : (Scan.begun t).OutputOk := by
  refine ⟨fun x => ?_, fun c k hk => ?_⟩
  · rw [show (Scan.begun t).demands.get x = _ from PerAxis.get_build _ x]
    exact Nat.zero_le _
  · rw [show channelGet (Scan.begun t).computed c = _ from channelGet_build _ c] at hk
    cases hk

theorem formedDemand_le {a : AxisState} (h : a.InRange) (w : BitVec 12) : formedDemand a w ≤ 65535 := by
  unfold formedDemand wheelDemand
  have := w.isLt
  split
  · omega
  · exact h.2.1

theorem Scan.OutputOk.targets {sc sc' : Scan} (hmoved : TargetsMoved sc sc') (h : sc.OutputOk) : sc'.OutputOk := by
  obtain ⟨-, -, -, hdemands, hcomputed⟩ := hmoved
  refine ⟨fun x => by rw [hdemands]; exact h.1 x, fun c k hk => ?_⟩
  rcases hcomputed c k hk with hsame | hle
  · exact h.2 c k hsame
  · exact hle

theorem outputOk_reformed {c : ChannelId} (h : (channelGet u.channels c).OutputOk) : (u.reformed c).OutputOk := h.enter

theorem outputOk_reform {c : ChannelId} (h : ∀ d, (channelGet u.channels d).OutputOk) (d : ChannelId) :
    (channelGet (u.reform c).channels d).OutputOk := by
  by_cases hd : d = c
  · rw [hd, reform_channel_self]
    exact outputOk_reformed (h c)
  · rw [reform_channel_ne _ _ hd]
    exact h d

theorem outputOk_set {p : PerChannel Channel} {c : ChannelId} (h : ∀ d, (channelGet p d).OutputOk) (hch : ch.OutputOk)
    (d : ChannelId) : (channelGet (channelSet p c ch) d).OutputOk := by
  by_cases hd : d = c
  · rw [hd, channelGet_set_self]
    exact hch
  · rw [channelGet_set_ne _ _ hd]
    exact h d

theorem OutputOf.completed {b : Bool} {t : Time} (h : OutputOf b t u) {sc : Scan} (hsc : u.scan = some sc) :
    OutputOf b t (u.completed sc) := by
  obtain ⟨hchannels, haxes, hscan⟩ := h
  have hjudged (c : ChannelId) : (channelGet (u.judged sc).channels c).OutputOk := by
    rw [judged_channel]
    refine Channel.OutputOk.checked (Channel.OutputOk.written ?_ fun k hk => (hscan sc hsc).2 c k hk)
    rw [settleFaults_channel]
    split
    · exact (hchannels c).enter
    · exact hchannels c
  have haxis (m : MatchState) (x : Axis) :
      ({ u.axes.get x with demand := sc.demands.get x, matching := m } : AxisState).InRange :=
    ⟨(hscan sc hsc).1 x, (haxes x).2⟩
  unfold LensUnit.completed
  split
  · refine ⟨fun c => ?_, fun x => ?_, fun _ hnone => nomatch hnone⟩
    · rw [show channelGet (LensUnit.stopped _).channels c = _ from reformAll_channel _ c]
      exact outputOk_reformed (hjudged c)
    · simpa [LensUnit.stopped, LensUnit.judged, LensUnit.formMatches, LensUnit.check, LensUnit.output,
        LensUnit.settleFaults, LensUnit.reformAll] using haxis .unchecked x
  · refine ⟨hjudged, fun x => ?_, fun _ hnone => nomatch hnone⟩
    simpa [LensUnit.judged, LensUnit.formMatches, LensUnit.check, LensUnit.output, LensUnit.settleFaults] using haxis _ x

end Outputs

theorem keptByLens_outputOf : KeptByLens OutputOf where
  table b t u c f h := ⟨outputOk_reform (u := u.withTableOf c f) h.1, h.2⟩
  editTable b t u c f _ h := h
  begun b t u due h := ⟨h.1, h.2.1, fun sc hsc => by cases hsc; exact outputOk_begun t⟩
  due b t u due h := h
  targets b t u f hf h := by
    refine ⟨h.1, h.2.1, fun sc hsc => ?_⟩
    obtain ⟨sc', hsc', rfl⟩ := Option.map_eq_some_iff.1 hsc
    exact (h.2.2 sc' hsc').targets (hf sc')
  demands b t u sc hsc _ _ h := by
    refine ⟨h.1, h.2.1, fun sc' hsc' => ?_⟩
    cases hsc'
    refine ⟨fun x => ?_, (h.2.2 sc hsc).2⟩
    rw [show (u.demandsFormed sc).demands.get x = _ from PerAxis.get_build _ x]
    exact formedDemand_le (h.2.1 x) _
  completed b t u sc hsc h := h.completed hsc
  axis b t u x a ha h := by
    refine ⟨h.1, fun y => ?_, h.2.2⟩
    by_cases hy : y = x
    · simpa [hy] using ha (h.2.1 x)
    · simpa [PerAxis.get_set_ne _ _ hy] using h.2.1 y
  trim b t u c v hlo hhi h := ⟨outputOk_set h.1 ⟨(h.1 c).1, (h.1 c).2.1, hlo, hhi⟩, h.2⟩
  drive b t u c on _ h := ⟨outputOk_reform (outputOk_set h.1 ⟨(h.1 c).1, rfl, (h.1 c).2.2⟩), h.2⟩
  started b t u m _ _ h := by
    refine ⟨fun c => ?_, h.2.1, fun sc hsc => ?_⟩
    · rw [show channelGet (u.scanningStarted t m).channels c = _ from reformAll_channel _ c]
      exact outputOk_reformed (h.1 c)
    · have hgetD : u.scan.getD (Scan.begun t) = sc := Option.some.inj hsc
      cases hu : u.scan with
      | none => rw [hu] at hgetD; exact hgetD ▸ outputOk_begun t
      | some sc' => rw [hu] at hgetD; exact hgetD ▸ h.2.2 sc' hu
  stopped b t u _ h := by
    unfold LensUnit.scanningStopped
    split
    · exact h
    · refine ⟨fun c => ?_, fun x => ?_, h.2.2⟩
      · rw [show channelGet (LensUnit.stopped _).channels c = _ from reformAll_channel _ c]
        exact outputOk_reformed (h.1 c)
      · rw [show (LensUnit.stopped _).axes.get x = _ from PerAxis.get_build _ x]
        exact h.2.1 x
  mode b t u m _ _ h := h

theorem outputInv_reset : OutputInv .reset := by
  refine ⟨fun c => ?_, fun x => ?_, fun sc hsc => nomatch hsc⟩
  · rw [show channelGet State.reset.lens.channels c = _ from channelGet_build _ c]
    decide
  · rw [show State.reset.lens.axes.get x = _ from PerAxis.get_build _ x]
    decide

theorem keptApartFromLinks_outputInv : KeptApartFromLinks OutputInv where
  toKeptByRuns := keptByLens_outputOf.keptByRuns
  queue s pending ties h := h
  reset s _ := outputInv_reset
  release sel rate s _ h := h
  tick s _ _ _ h := by
    rw [passTick_frame]
    refine ⟨h.1, h.2.1, fun sc hsc => ?_⟩
    obtain ⟨sc', hsc', rfl⟩ := Option.map_eq_some_iff.1 hsc
    have hok := h.2.2 sc' hsc'
    split
    · exact hok
    · exact hok

/-! ### The conversions of a scan (R138, R143) -/

/-- `ConversionInv` of a scan at time `t`. -/
def Scan.ConversionsOk (t : Time) (sc : Scan) : Prop :=
  (sc.stage = .conversions → since sc.start t ≤ 1800 ∧ sc.made.length = since sc.start t / 200) ∧
    (sc.stage = .target → sc.made.length = 9)

/-- `ConversionInv` of the unit while RESET# is released. -/
def ConversionOf (b : Bool) (t : Time) (u : LensUnit) : Prop :=
  b = false ∧ ∀ sc, u.scan = some sc → sc.ConversionsOk t

theorem conversionsOk_begun (t : Time) : (Scan.begun t).ConversionsOk t := by
  simp [Scan.ConversionsOk, Scan.begun, since]

theorem since_later {a : Time} {n : Nat} (h : n < 2 ^ 48) : since a (later a n) = n := by
  unfold since later
  bv_omega

theorem later_since (a t : Time) : later a (since a t) = t := by
  unfold since later
  bv_omega

theorem since_later_one {a t : Time} (h : since a t ≤ 1800) : since a (later t 1) = since a t + 1 := by
  simp only [since, later] at h ⊢
  bv_omega

theorem keptByLens_conversionOf : KeptByLens ConversionOf where
  table b t u c f h := h
  editTable b t u c f _ h := h
  begun b t u due h := ⟨h.1, fun sc hsc => by cases hsc; exact conversionsOk_begun t⟩
  due b t u due h := h
  targets b t u f hf h := by
    refine ⟨h.1, fun sc hsc => ?_⟩
    obtain ⟨sc', hsc', rfl⟩ := Option.map_eq_some_iff.1 hsc
    obtain ⟨hstart, hstage, hmade, -, -⟩ := hf sc'
    rw [Scan.ConversionsOk, hstart, hstage, hmade]
    exact h.2 sc' hsc'
  demands b t u sc hsc hstage ht h := by
    refine ⟨h.1, fun sc' hsc' => ?_⟩
    cases hsc'
    refine (And.intro (fun hstage' => nomatch hstage') fun _ => ?_ : Scan.ConversionsOk t (u.demandsFormed sc))
    have hmade := ((h.2 sc hsc).1 hstage).2
    rwa [ht, since_later (by decide)] at hmade
  completed b t u sc _ h := ⟨h.1, fun sc' hsc' => by rw [completed_scan] at hsc'; cases hsc'⟩
  axis b t u x a _ h := h
  trim b t u c v _ _ h := h
  drive b t u c on _ h := h
  started b t u m _ _ h := by
    refine ⟨h.1, fun sc hsc => ?_⟩
    have hgetD : u.scan.getD (Scan.begun t) = sc := Option.some.inj hsc
    cases hu : u.scan with
    | none => rw [hu] at hgetD; exact hgetD ▸ conversionsOk_begun t
    | some sc' => rw [hu] at hgetD; exact hgetD ▸ h.2 sc' hu
  stopped b t u _ h := by
    unfold LensUnit.scanningStopped
    split <;> exact h
  mode b t u m _ _ h := h

/-- A tick brings the scan in progress its next conversion exactly when 200 ticks have passed since the last (R143). -/
theorem Scan.ConversionsOk.tick {t : Time} {sc : Scan} (h : sc.ConversionsOk t)
    (hdue : sc.stage = .conversions → t ≠ later sc.start 1800) :
    (if sc.convertsAt (later t 1) then sc.converted else sc).ConversionsOk (later t 1) := by
  cases hstage : sc.stage with
  | target =>
    have hno : sc.convertsAt (later t 1) = false := by simp [Scan.convertsAt, hstage]
    rw [hno]
    exact ⟨fun h' => by simp [hstage] at h', fun _ => h.2 hstage⟩
  | conversions =>
    obtain ⟨hle, hmade⟩ := h.1 hstage
    have hlt : since sc.start t < 1800 := by
      refine Nat.lt_of_le_of_ne hle fun heq => hdue hstage ?_
      rw [← heq, later_since]
    have hnext := since_later_one hle
    have hconverts : sc.convertsAt (later t 1) = true ↔ 200 * (sc.made.length + 1) = since sc.start t + 1 := by
      simp only [Scan.convertsAt, hstage, Config.conversionCount, Config.conversionTicks, beq_self_eq_true,
        Bool.true_and, Bool.and_eq_true, beq_iff_eq]
      constructor
      · rintro ⟨hlength, heq⟩
        rw [← hnext, ← heq, since_later]
        omega
      · intro heq
        refine ⟨decide_eq_true (by omega), ?_⟩
        rw [heq, ← hnext, later_since]
    split
    · next hc =>
      have heq := hconverts.1 hc
      refine ⟨fun _ => ?_, fun h' => by simp [Scan.converted, hstage] at h'⟩
      simp only [Scan.converted, List.length_append, List.length_singleton, hnext]
      omega
    · next hc =>
      have hne : 200 * (sc.made.length + 1) ≠ since sc.start t + 1 := fun heq => hc (hconverts.2 heq)
      refine ⟨fun _ => ?_, fun h' => by simp [hstage] at h'⟩
      rw [hnext]
      omega

theorem conversionInv_iff {s : State} (hpins : s.pins.resetAsserted = false) :
    ConversionInv s ↔ OfLens ConversionOf s := by
  simp [ConversionInv, OfLens, ConversionOf, hpins, Scan.ConversionsOk, State.now]

theorem conversionInv_of_scan_none {s : State} (h : s.lens.scan = none) : ConversionInv s :=
  ⟨fun _ => h, fun sc hsc => by rw [h] at hsc; cases hsc⟩

theorem keptByParts_conversionInv : KeptByParts ConversionInv where
  queue s pending ties h := h
  reset s _ := conversionInv_of_scan_none rfl
  release sel rate s hpins h := conversionInv_of_scan_none (h.1 hpins)
  receiver := by
    rintro l s t ⟨x, rfl, -, -⟩ h
    exact h
  command i m s _ hready h := by
    have hruns := keptByLens_conversionOf.keptByRuns
    have hnext := hruns.takeCommand (s := s.taken m.l m.cast) i (hruns.links s _ ((conversionInv_iff hready.1).1 h))
    exact (conversionInv_iff hnext.1).2 hnext
  event i s hpins h := by
    have hnext := keptByLens_conversionOf.keptByRuns.toKeptByEvents.event i ((conversionInv_iff hpins).1 h)
    exact (conversionInv_iff hnext.1).2 hnext
  tick s hpins hdue _ h := by
    have hlive : (passTick s).pins.resetAsserted = false := by rwa [passTick_frame]
    refine (conversionInv_iff hlive).2 ⟨hlive, fun sc hsc => ?_⟩
    rw [passTick_frame] at hsc ⊢
    obtain ⟨sc', hsc', rfl⟩ := Option.map_eq_some_iff.1 hsc
    refine Scan.ConversionsOk.tick (t := s.now) (((conversionInv_iff hpins).1 h).2 sc' hsc') fun hstage ht => ?_
    refine not_eventDue_iff_dueEvents_eq_nil.2 hdue _ (EventDue.conversionsDone sc' hsc' hstage ht)

/-- Settles O59. -/
theorem everyStepKeepsChannelsAndOutputs : Obligations.EveryStepKeepsChannelsAndOutputs :=
  fun _ _ hstep =>
    ⟨keptApartFromLinks_statusInv.keptByParts.step hstep, keptApartFromLinks_outputInv.keptByParts.step hstep,
      keptByParts_conversionInv.step hstep⟩

end Sys2Proof.Machine
end

section
/-!
PROOFS. The Frame Timing Unit and the Plan Unit through every step: what each operation makes of the timing and of the
plans, the plans in range with the accumulator below RATE_NUM (R25, R35, R39), and the reference state (R12 to R21).
-/

namespace Sys2Proof.Machine

/-! ### The reference state (R12) -/

/-- The value the mode rules give the reference state (R12 to R14, R19, R20). -/
def Timing.formedRef (m : RefMode) (t : Timing) : RefState :=
  match m with
  | .internal => .free
  | .loop => .loop
  | .external =>
    match t.selected with
    | some r => lockedTo r
    | none => if t.lockHeld && t.run != .stopped then .holdover else .seeking
  | .followLeft => if t.run = .stopped then .seeking else t.refState

/-- The value on entering a mode or a run (R19, R21). -/
def Timing.enteredRef (m : RefMode) (t : Timing) : RefState :=
  match m with
  | .followLeft => .seeking
  | _ => t.formedRef m

theorem refValue_eq (s : State) : refValue s = s.timing.formedRef s.plan.active.refMode := rfl

theorem refValueEntered_eq (s : State) : refValueEntered s = s.timing.enteredRef s.plan.active.refMode := rfl

/-- The timing after the reference state takes the value `v` (R12, R16, R17). -/
def Timing.toRef (v : RefState) (t : Timing) : Timing :=
  if v = t.refState then t
  else
    { t with
      refState := v
      lockHeld := t.lockHeld || (v.isLocked && t.run != .stopped && t.frame.isSome)
      rephase :=
        if (v == .lockedA || v == .lockedB) && t.run == .running && t.frame.isSome then some .first else none }

section ToRef

variable (v : RefState) (t : Timing) (s : State)

theorem setRef_timing : (setRef v s).timing = s.timing.toRef v := by
  unfold setRef Timing.toRef
  split <;> rfl

theorem setRef_of_eq (h : v = s.timing.refState) : setRef v s = s := if_pos h

theorem setRef_of_ne (h : v ≠ s.timing.refState) :
    setRef v s = postAll .refChange { s with timing := s.timing.toRef v } := by
  rw [setRef, if_neg h, Timing.toRef, if_neg h]

@[simp] theorem toRef_refState : (t.toRef v).refState = v := by
  unfold Timing.toRef
  split
  · exact Eq.symm ‹_›
  · rfl

theorem toRef_frame :
    t.toRef v = { t with refState := v, lockHeld := (t.toRef v).lockHeld, rephase := (t.toRef v).rephase } := by
  unfold Timing.toRef
  split
  · next h => rw [h]
  · rfl

@[simp] theorem toRef_timebase : (t.toRef v).timebase = t.timebase := by rw [toRef_frame]
@[simp] theorem toRef_run : (t.toRef v).run = t.run := by rw [toRef_frame]
@[simp] theorem toRef_next : (t.toRef v).next = t.next := by rw [toRef_frame]
@[simp] theorem toRef_acc : (t.toRef v).acc = t.acc := by rw [toRef_frame]
@[simp] theorem toRef_ramp : (t.toRef v).ramp = t.ramp := by rw [toRef_frame]
@[simp] theorem toRef_inputs : (t.toRef v).inputs = t.inputs := by rw [toRef_frame]
@[simp] theorem toRef_pairNumber : (t.toRef v).pairNumber = t.pairNumber := by rw [toRef_frame]
@[simp] theorem toRef_currentFrame : (t.toRef v).frame = t.frame := by rw [toRef_frame]
@[simp] theorem toRef_runStart : (t.toRef v).runStart = t.runStart := by rw [toRef_frame]

@[simp] theorem toRef_selected : (t.toRef v).selected = t.selected := by simp [Timing.selected]

/-- A state that is no lock leaves the lock record (R12). -/
theorem toRef_lockHeld_of_not_locked (h : v.isLocked = false) : (t.toRef v).lockHeld = t.lockHeld := by
  unfold Timing.toRef
  split <;> simp [h]

/-- In a run without its first boundary, and in STOPPED, no move of the reference state sets the lock record (R12). -/
theorem toRef_lockHeld_of_no_frame (h : t.frame = none) : (t.toRef v).lockHeld = t.lockHeld := by
  unfold Timing.toRef
  split <;> simp [h]

end ToRef

/-! ### An application (R35) -/

/-- The timing after an application of the staged plan of `u`, but for the reference state (R11, R12, R40 to R42). -/
def Timing.applied (u : PlanUnit) (atBoundary : Bool) (t : Timing) : Timing :=
  { t.restartGenerator u atBoundary with
    lockHeld := t.lockHeld && !modeChanges u
    inputs :=
      if rateChanges u then PerRef.build fun r => (t.inputs.get r).requalify u.staged.basePeriod t.timebase
      else t.inputs }

/-- The timing after the reference state is settled for an application that changed the plan unit `u` (R12, R21). -/
def Timing.settled (u : PlanUnit) (t : Timing) : Timing :=
  if modeChanges u then t.toRef (t.enteredRef u.staged.refMode)
  else if rateChanges u then t.toRef (t.formedRef u.staged.refMode)
  else t

section Application

variable (u : PlanUnit) (b : Bool) (t : Timing) (s : State)

/-- A restart of the generator moves the ramp and the accumulator alone. -/
theorem restartGenerator_frame :
    t.restartGenerator u b =
      { t with ramp := (t.restartGenerator u b).ramp, acc := (t.restartGenerator u b).acc } := by
  unfold Timing.restartGenerator
  (repeat' split) <;> rfl

@[simp] theorem applyStaged_plan : (applyStaged b s).plan = s.plan.applied := by
  unfold applyStaged
  dsimp only
  split <;> rfl

@[simp] theorem applyStaged_timing : (applyStaged b s).timing = s.timing.applied s.plan b := by
  obtain ⟨ramp, acc, h⟩ : ∃ ramp acc, s.timing.restartGenerator s.plan b = { s.timing with ramp := ramp, acc := acc } :=
    ⟨_, _, restartGenerator_frame s.plan b s.timing⟩
  simp only [applyStaged, Timing.applied, h]
  split <;> rfl

theorem settleReference_timing (h : s.plan.active.refMode = u.staged.refMode) :
    (settleReference u s).timing = s.timing.settled u := by
  unfold settleReference Timing.settled recomputeRef
  rw [refValueEntered_eq, refValue_eq, h]
  split
  · exact setRef_timing _ s
  · split
    · exact setRef_timing _ s
    · rfl

/-- What an application leaves of the timing: all but the generator, the reference state, the lock record, the re-phase
and the inputs. -/
theorem settled_frame :
    t.settled u =
      { t with
        refState := (t.settled u).refState, lockHeld := (t.settled u).lockHeld, rephase := (t.settled u).rephase } := by
  unfold Timing.settled
  split
  · rw [toRef_frame]
  · split
    · rw [toRef_frame]
    · rfl

theorem applied_frame :
    t.applied u b =
      { t with
        ramp := (t.applied u b).ramp, acc := (t.applied u b).acc, lockHeld := (t.applied u b).lockHeld
        inputs := (t.applied u b).inputs } := by
  rw [Timing.applied, restartGenerator_frame]

@[simp] theorem applied_run : (t.applied u b).run = t.run := by rw [applied_frame]
@[simp] theorem applied_next : (t.applied u b).next = t.next := by rw [applied_frame]
@[simp] theorem applied_currentFrame : (t.applied u b).frame = t.frame := by rw [applied_frame]
@[simp] theorem applied_refState : (t.applied u b).refState = t.refState := by rw [applied_frame]
@[simp] theorem applied_rephase : (t.applied u b).rephase = t.rephase := by rw [applied_frame]
@[simp] theorem applied_timebase : (t.applied u b).timebase = t.timebase := by rw [applied_frame]
@[simp] theorem applied_pairNumber : (t.applied u b).pairNumber = t.pairNumber := by rw [applied_frame]
@[simp] theorem applied_runStart : (t.applied u b).runStart = t.runStart := by rw [applied_frame]
@[simp] theorem applied_acc : (t.applied u b).acc = (t.restartGenerator u b).acc := rfl
@[simp] theorem applied_ramp : (t.applied u b).ramp = (t.restartGenerator u b).ramp := rfl

@[simp] theorem settled_run : (t.settled u).run = t.run := by rw [settled_frame]
@[simp] theorem settled_next : (t.settled u).next = t.next := by rw [settled_frame]
@[simp] theorem settled_acc : (t.settled u).acc = t.acc := by rw [settled_frame]
@[simp] theorem settled_ramp : (t.settled u).ramp = t.ramp := by rw [settled_frame]
@[simp] theorem settled_currentFrame : (t.settled u).frame = t.frame := by rw [settled_frame]
@[simp] theorem settled_inputs : (t.settled u).inputs = t.inputs := by rw [settled_frame]
@[simp] theorem settled_timebase : (t.settled u).timebase = t.timebase := by rw [settled_frame]
@[simp] theorem settled_pairNumber : (t.settled u).pairNumber = t.pairNumber := by rw [settled_frame]
@[simp] theorem settled_runStart : (t.settled u).runStart = t.runStart := by rw [settled_frame]

@[simp] theorem applyWhileStopped_plan (begun : State) (o : Option Link) :
    (applyWhileStopped begun o s).plan = s.plan.applied := by
  unfold applyWhileStopped
  dsimp only
  split <;> simp [answerCommitter]

@[simp] theorem applyWhileStopped_timing (begun : State) (o : Option Link) :
    (applyWhileStopped begun o s).timing = (s.timing.applied s.plan false).settled s.plan := by
  have hsettle := settleReference_timing s.plan (applyStaged false s) (by rw [applyStaged_plan]; rfl)
  rw [applyStaged_timing] at hsettle
  unfold applyWhileStopped
  dsimp only
  split
  · rw [answerCommitter_timing, hsettle]
  · exact hsettle

end Application

/-! ### A boundary (R2) -/

/-- The timing as a boundary enters it (R12, R16). -/
def Timing.entered (cause : Cause) (t : Timing) : Timing :=
  { t with lockHeld := t.lockHeld || t.refState.isLocked, rephase := advanceRephase cause t.rephase }

/-- The timing with the frame that a boundary now begins (R2). -/
def Timing.frameBegun (p : Plan) (t : Timing) : Timing :=
  { t with
    acc := (drawPeriod p t.acc t.ramp).acc
    ramp := (drawPeriod p t.acc t.ramp).ramp
    frame := some (frameOf p t.timebase t.pairNumber (drawPeriod p t.acc t.ramp))
    next := some (later t.timebase (drawPeriod p t.acc t.ramp).period)
    pairNumber := t.pairNumber + 1 }

section Boundary

variable (cause : Cause) (s : State)

theorem boundaryTiming_of_none (h : s.plan.stage ≠ .committing) :
    boundaryTiming cause s = { s with timing := (s.timing.entered cause).frameBegun s.plan.active } := by
  have hwait : applyWaitingCommit (enterBoundary cause s) = enterBoundary cause s := if_neg h
  rw [boundaryTiming, if_neg h, hwait]
  rfl

theorem boundaryTiming_of_waiting (h : s.plan.stage = .committing) :
    boundaryTiming cause s =
      settleReference s.plan (beginFrame (applyStaged true (enterBoundary cause s))) := by
  have hwait : applyWaitingCommit (enterBoundary cause s) = applyStaged true (enterBoundary cause s) := if_pos h
  rw [boundaryTiming, if_pos h, hwait]

@[simp] theorem boundary_timing (begun : State) : (boundary begun cause s).timing = (boundaryTiming cause s).timing := by
  simp [boundary]

@[simp] theorem boundary_plan_eq (begun : State) : (boundary begun cause s).plan = (boundaryTiming cause s).plan := by
  simp [boundary]

theorem boundaryTiming_plan_of_waiting (h : s.plan.stage = .committing) :
    (boundaryTiming cause s).plan = s.plan.applied := by
  rw [boundaryTiming_of_waiting cause s h]
  simp

theorem boundaryTiming_timing_of_waiting (h : s.plan.stage = .committing) :
    (boundaryTiming cause s).timing =
      ((((s.timing.entered cause).applied s.plan true).frameBegun s.plan.staged).settled s.plan) := by
  have hframe : (beginFrame (applyStaged true (enterBoundary cause s))).timing =
      ((s.timing.entered cause).applied s.plan true).frameBegun s.plan.staged := by
    have hstaged := applyStaged_timing true (enterBoundary cause s)
    have hplan := applyStaged_plan true (enterBoundary cause s)
    unfold beginFrame Timing.frameBegun
    dsimp only [State.now]
    rw [hplan, hstaged]
    rfl
  rw [boundaryTiming_of_waiting cause s h, settleReference_timing, hframe]
  rw [beginFrame_plan, applyStaged_plan]
  rfl

end Boundary

/-! ### The end of a run, and its start -/

section Runs

variable (s : State)

@[simp] theorem reachStopped_plan_of_none (begun : State) (h : s.plan.stage ≠ .committing) :
    (reachStopped begun s).plan = s.plan := by
  simp [reachStopped, h, recomputeRef]

theorem reachStopped_plan_of_waiting (begun : State) (h : s.plan.stage = .committing) :
    (reachStopped begun s).plan = s.plan.applied := by
  simp [reachStopped, h, recomputeRef]

/-- The timing at STOPPED, before what waits is applied (R6, R12). -/
def Timing.stopped (m : RefMode) (t : Timing) : Timing := t.ended.toRef (t.ended.formedRef m)

theorem reachStopped_timing_of_none (begun : State) (h : s.plan.stage ≠ .committing) :
    (reachStopped begun s).timing = s.timing.stopped s.plan.active.refMode := by
  simp [reachStopped, h, recomputeRef, setRef_timing, refValue_eq, Timing.stopped]

theorem reachStopped_timing_of_waiting (begun : State) (h : s.plan.stage = .committing) :
    (reachStopped begun s).timing =
      ((s.timing.stopped s.plan.active.refMode).applied s.plan false).settled s.plan := by
  simp [reachStopped, h, recomputeRef, setRef_timing, refValue_eq, Timing.stopped]

@[simp] theorem startRun_timing (start : Option (BitVec 32)) :
    (startRun start s).timing = (s.timing.started start).toRef ((s.timing.started start).enteredRef s.plan.active.refMode) := by
  simp [startRun, setRef_timing, refValueEntered_eq]

@[simp] theorem restartBlocks_timing : (restartBlocks s).timing = s.timing.stopped s.plan.active.refMode := by
  unfold restartBlocks recomputeRef
  dsimp only
  split
  · rw [setRef_timing, refValue_eq]
    rfl
  · rw [postAll_timing, setRef_timing, refValue_eq]
    rfl

theorem onInput_timing (r : RefId) (f : RefInput → RefInput) :
    (onInput r f s).timing =
      if (f (s.timing.inputs.get r)).state = (s.timing.inputs.get r).state then
        { s.timing with inputs := s.timing.inputs.set r (f (s.timing.inputs.get r)) }
      else
        Timing.toRef
          (Timing.formedRef s.plan.active.refMode
            { s.timing with inputs := s.timing.inputs.set r (f (s.timing.inputs.get r)) })
          { s.timing with inputs := s.timing.inputs.set r (f (s.timing.inputs.get r)) } := by
  unfold onInput recomputeRef
  dsimp only
  split
  · rfl
  · rw [setRef_timing, refValue_eq]

end Runs

/-! ### The Arbiter moves neither timing nor plan -/

section Arbiter

variable (s : State)

/-- A grant moves the memory, the lenses, the readers and the links alone. -/
theorem grant_frame :
    grant s =
      { s with memory := (grant s).memory, lens := (grant s).lens, log := (grant s).log, links := (grant s).links } := by
  rcases grant_cases s with ⟨-, h⟩ | ⟨q, -, h⟩ | ⟨l, q, -, -, -, h⟩ | h <;> rw [h]
  · rfl
  · unfold grantSegment
    dsimp only
    split
    · rfl
    · obtain ⟨u, q', v, h'⟩ := continueTargets_frame { s with memory := { s.memory with lensRequest := none } }
      rw [h']
  · unfold grantLink
    dsimp only
    (repeat' split) <;> rfl

theorem grant_plan : (grant s).plan = s.plan := block_of_frame State.plan (grant_frame s) rfl

theorem grant_timing : (grant s).timing = s.timing := block_of_frame State.timing (grant_frame s) rfl

theorem grant_matcher : (grant s).matcher = s.matcher := block_of_frame State.matcher (grant_frame s) rfl

theorem grant_trig : (grant s).trig = s.trig := block_of_frame State.trig (grant_frame s) rfl

/-- The end of a burst that is no record write moves the memory, the lenses, the readers and the links alone. -/
theorem endBurst_owner (b : Burst) :
    (endBurst b s =
      { s with
        memory := (endBurst b s).memory, lens := (endBurst b s).lens, log := (endBurst b s).log
        links := (endBurst b s).links }) ∨
      endBurst b s = endRecord { s with memory := { s.memory with port := none } } := by
  rcases endBurst_cases b s with ⟨-, h⟩ | ⟨-, h⟩ | ⟨c, lower, trim, isLive, -, h⟩ | ⟨l, gap, start, k, -, h⟩ |
    ⟨l, c, first, points, -, h⟩ | ⟨l, c, index, state, count, -, h⟩ <;> rw [h]
  · exact .inl rfl
  · exact .inr rfl
  · left
    have hscan := endSegment_movedInScan { s with memory := { s.memory with port := none } } c trim isLive b.got
    rw [MovedInScan] at hscan
    rw [hscan]
  · exact .inl rfl
  · exact .inl rfl
  · left
    have hread := endTableRead_frame { s with memory := { s.memory with port := none } } l state count b.got
    rw [MovedBy] at hread
    rw [hread]

end Arbiter

end Sys2Proof.Machine
end

section
/-!
PROOFS. What every step keeps of the plans and of the accumulator (R25 to R42), and of the reference state (R12 to R21).
-/

namespace Sys2Proof.Machine

/-! ### The plans (R25, R29, R30, R35) -/

/-- `PlanInv` of the Plan Unit and the accumulator. -/
def PlanUnit.Ok (u : PlanUnit) (acc : Nat) : Prop :=
  u.active.inRanges ∧ u.staged.inRanges ∧ u.active.usable ∧ stageInv u ∧ acc < u.active.rateNum

/-- A plan that passes its validation is usable (R30). -/
theorem usable_of_planFault {active staged : Plan} (h : planFault active staged = none) : staged.usable := by
  unfold planFault fitRoom at h
  split at h
  · cases h
  · next hfit =>
    split at h
    · cases h
    · next hext => exact ⟨by omega, hext⟩

section PlanUnits

variable {u : PlanUnit} {acc acc' : Nat} {p : Plan}

theorem Plan.inRanges.rateNum_pos (h : p.inRanges) : 0 < p.rateNum := by
  obtain ⟨⟨hlo, -⟩, -⟩ := h
  omega

/-- An application makes a plan active that has passed its validation (R35). -/
theorem PlanUnit.Ok.applied (h : u.Ok acc) (hvalid : planFault u.active u.staged = none)
    (hacc : acc' < u.staged.rateNum) : u.applied.Ok acc' :=
  ⟨h.2.1, h.2.1, usable_of_planFault hvalid, ⟨rfl, rfl, rfl⟩, hacc⟩

theorem PlanUnit.Ok.valid_of_committing (h : u.Ok acc) (hstage : u.stage = .committing) :
    planFault u.active u.staged = none := by
  obtain ⟨-, -, -, hinv, -⟩ := h
  unfold stageInv at hinv
  rw [hstage] at hinv
  exact hinv.2.2

theorem PlanUnit.Ok.freed (h : u.Ok acc) : u.freed.Ok acc := ⟨h.1, h.1, h.2.2.1, ⟨rfl, rfl, rfl⟩, h.2.2.2.2⟩

theorem PlanUnit.Ok.edited (h : u.Ok acc) (hp : p.inRanges) (l : Link) (now : Time) : (u.edited p l now).Ok acc :=
  ⟨h.1, hp, h.2.2.1, ⟨rfl, rfl⟩, h.2.2.2.2⟩

theorem PlanUnit.Ok.of_acc (h : u.Ok acc) (hacc : acc' < u.active.rateNum) : u.Ok acc' :=
  ⟨h.1, h.2.1, h.2.2.1, h.2.2.2.1, hacc⟩

end PlanUnits

theorem inRange_bounds {lo hi n : Nat} {v : Int} (h : inRange lo hi v = some n) : lo ≤ n ∧ n ≤ hi := by
  unfold inRange at h
  split at h
  · cases h
    omega
  · cases h

/-- A field written leaves a plan in range (R25, R27). -/
theorem withField_inRanges {p q : Plan} {field : Nat} {v : Int} (h : p.withField field v = some q) (hp : p.inRanges) :
    q.inRanges := by
  obtain ⟨h1, h2, h3, h4, h5, h7, h8, h9, h12, h14⟩ := hp
  unfold Plan.withField at h
  split at h
  case h_14 =>
    split at h
    · next hv => cases h; exact ⟨h1, h2, h3, h4, h5, h7, h8, h9, h12, hv⟩
    · cases h
  case h_15 => cases h
  all_goals
    obtain ⟨n, hn, rfl⟩ := Option.map_eq_some_iff.1 h
  case h_1 => exact ⟨inRange_bounds hn, h2, h3, h4, h5, h7, h8, h9, h12, h14⟩
  case h_2 => exact ⟨h1, inRange_bounds hn, h3, h4, h5, h7, h8, h9, h12, h14⟩
  case h_3 => exact ⟨h1, h2, inRange_bounds hn, h4, h5, h7, h8, h9, h12, h14⟩
  case h_4 => exact ⟨h1, h2, h3, (inRange_bounds hn).2, h5, h7, h8, h9, h12, h14⟩
  case h_5 => exact ⟨h1, h2, h3, h4, (inRange_bounds hn).2, h7, h8, h9, h12, h14⟩
  case h_7 => exact ⟨h1, h2, h3, h4, h5, (inRange_bounds hn).2, h8, h9, h12, h14⟩
  case h_8 => exact ⟨h1, h2, h3, h4, h5, h7, (inRange_bounds hn).2, h9, h12, h14⟩
  case h_9 => exact ⟨h1, h2, h3, h4, h5, h7, h8, (inRange_bounds hn).2, h12, h14⟩
  case h_12 => exact ⟨h1, h2, h3, h4, h5, h7, h8, h9, inRange_bounds hn, h14⟩
  all_goals exact ⟨h1, h2, h3, h4, h5, h7, h8, h9, h12, h14⟩

theorem planInv_iff (s : State) : PlanInv s ↔ s.plan.Ok s.timing.acc := Iff.rfl

section PlanInv

variable {s t : State}

theorem PlanInv.of_same (hplan : t.plan = s.plan) (hacc : t.timing.acc = s.timing.acc) (h : PlanInv s) : PlanInv t := by
  rwa [planInv_iff, hplan, hacc]

/-- An application while STOPPED (R31, R35). -/
theorem PlanInv.applyWhileStopped (h : PlanInv s) (hvalid : planFault s.plan.active s.plan.staged = none)
    (begun : State) (o : Option Link) : PlanInv (applyWhileStopped begun o s) := by
  rw [planInv_iff, applyWhileStopped_plan, applyWhileStopped_timing, settled_acc, applied_acc]
  exact PlanUnit.Ok.applied h hvalid
    (Timing.restartGenerator_acc_lt false (Plan.inRanges.rateNum_pos h.2.1) h.2.2.2.2)

theorem PlanInv.boundary (h : PlanInv s) (begun : State) (cause : Cause) : PlanInv (boundary begun cause s) := by
  rw [planInv_iff, boundary_plan_eq, boundary_timing]
  by_cases hstage : s.plan.stage = .committing
  · rw [boundaryTiming_plan_of_waiting cause s hstage, boundaryTiming_timing_of_waiting cause s hstage, settled_acc]
    have hpos := Plan.inRanges.rateNum_pos h.2.1
    exact PlanUnit.Ok.applied h (PlanUnit.Ok.valid_of_committing h hstage)
      (drawPeriod_acc_lt _ hpos (Timing.restartGenerator_acc_lt true hpos h.2.2.2.2))
  · rw [boundaryTiming_of_none cause s hstage]
    exact PlanUnit.Ok.of_acc h (drawPeriod_acc_lt _ (Plan.inRanges.rateNum_pos h.1) h.2.2.2.2)

theorem PlanInv.reachStopped (h : PlanInv s) (begun : State) : PlanInv (reachStopped begun s) := by
  by_cases hstage : s.plan.stage = .committing
  · rw [planInv_iff, reachStopped_plan_of_waiting s begun hstage, reachStopped_timing_of_waiting s begun hstage,
      settled_acc, applied_acc]
    refine PlanUnit.Ok.applied h (PlanUnit.Ok.valid_of_committing h hstage)
      (Timing.restartGenerator_acc_lt false (Plan.inRanges.rateNum_pos h.2.1) ?_)
    rw [Timing.stopped, toRef_acc]
    exact h.2.2.2.2
  · refine h.of_same (reachStopped_plan_of_none s begun hstage) ?_
    rw [reachStopped_timing_of_none s begun hstage, Timing.stopped, toRef_acc]
    rfl

theorem PlanInv.takePlan (h : PlanInv s) {i : Instr} (ho : commandOwner i = .plan) : PlanInv (takeCommand i s) := by
  cases i with
  | planSet l field value =>
    have hkept {st : Status} (hsame : takePlanSet l field value s = reply l st [] s) :
        PlanInv (takePlanSet l field value s) := by
      rw [hsame]
      exact h
    change PlanInv (takePlanSet l field value s)
    cases hq : s.plan.staged.withField field.toNat value.toInt with
    | none => exact hkept (takePlanSet_of_invalid hq)
    | some q =>
      have hedited (hstage : s.plan.stage = .free ∨ s.plan.stage = .editing ∧ s.plan.editor = some l) :
          PlanInv (takePlanSet l field value s) := by
        rw [takePlanSet_of_editor hq hstage]
        exact PlanUnit.Ok.edited h (withField_inRanges hq h.2.1) l s.timing.timebase
      cases hstage : s.plan.stage with
      | free => exact hedited (.inl hstage)
      | committing => exact hkept (takePlanSet_of_committing hq hstage)
      | editing =>
        by_cases heditor : s.plan.editor = some l
        · exact hedited (.inr ⟨hstage, heditor⟩)
        · exact hkept (takePlanSet_of_held hq hstage heditor)
  | planCommit l =>
    obtain ⟨hactive, hstaged, husable, hinv, hacc⟩ := id h
    unfold stageInv at hinv
    change PlanInv (takePlanCommit l s)
    unfold takePlanCommit
    dsimp only
    split
    · exact h
    · exact h
    · next hstage =>
      rw [hstage] at hinv
      split
      · split
        · exact ⟨hactive, hstaged, husable, by rw [stageInv, hstage]; exact ⟨hinv.1, rfl⟩, hacc⟩
        · next hvalid =>
          split
          · exact h.applyWhileStopped hvalid s (some l)
          · exact ⟨hactive, hstaged, husable, ⟨hinv.1, rfl, hvalid⟩, hacc⟩
      · exact h
  | planDiscard l =>
    change PlanInv (takePlanDiscard l s)
    unfold takePlanDiscard
    dsimp only
    repeat' split
    any_goals exact h
    exact PlanUnit.Ok.freed h
  | _ => cases ho

end PlanInv

/-- The plan of the field table's pin-reset column is usable (R25). -/
theorem usable_pinReset : Plan.pinReset.usable := by
  refine ⟨by decide, fun h => ?_⟩
  exact absurd h.1 (by decide)

theorem planInv_reset : PlanInv .reset := by
  have hranges : Plan.pinReset.inRanges := by
    unfold Plan.inRanges
    decide
  exact ⟨hranges, hranges, usable_pinReset, ⟨rfl, rfl, rfl⟩, by decide⟩

theorem keptApartFromLinks_planInv : KeptApartFromLinks PlanInv where
  input r f s := .of_same (block_of_frame State.plan (onInput_frame s r f) rfl) (by
    rw [onInput_timing]
    split
    · rfl
    · rw [toRef_acc])
  lockLeft s _ _ := .of_same (setRef_plan s _) (by rw [setRef_timing, toRef_acc])
  holdOver s _ := .of_same (setRef_plan s _) (by rw [setRef_timing, toRef_acc])
  boundary begun cause s _ h := h.boundary begun cause
  reachStopped begun s _ h := h.reachStopped begun
  applyCommit begun s _ hstage h := h.applyWhileStopped (PlanUnit.Ok.valid_of_committing h hstage) begun _
  applyTimecode begun s _ := .of_same (applyPendingTimecode_plan s begun)
    (congrArg Timing.acc (applyPendingTimecode_timing s begun))
  stray e s := .of_same rfl rfl
  assign e s _ := .of_same (assignReturn_plan s e) (congrArg Timing.acc (assignReturn_timing s e))
  synth e s := .of_same (handSynth_plan s e) (congrArg Timing.acc (handSynth_timing s e))
  decide e s := .of_same (decideTrigger_plan s e) (congrArg Timing.acc (decideTrigger_timing s e))
  pulseEnd e s := .of_same rfl rfl
  close n s := .of_same (closeSlot_plan s n) (congrArg Timing.acc (closeSlot_timing s n))
  lapseEdit s _ h := by
    unfold lapseEdit
    dsimp only
    split <;> exact PlanUnit.Ok.freed h
  lapseTable c s _ := .of_same (block_of_frame State.plan (lapseTable_frame s c) rfl)
    (block_of_frame (·.timing.acc) (lapseTable_frame s c) rfl)
  grant s _ := .of_same (grant_plan s) (congrArg Timing.acc (grant_timing s))
  burstEnd b s _ _ h := by
    rcases endBurst_owner s b with hsame | hrecord
    · exact h.of_same (block_of_frame State.plan hsame rfl) (block_of_frame (·.timing.acc) hsame rfl)
    · rw [hrecord]
      unfold endRecord stopIfDrained
      split
      · exact PlanInv.reachStopped (h.of_same (by simp) (by simp)) _
      · exact h.of_same (by simp) (by simp)
  scanDue s _ := .of_same (block_of_frame State.plan (scanTimer_movedInScan s) rfl)
    (block_of_frame (·.timing.acc) (scanTimer_movedInScan s) rfl)
  conversions s _ := .of_same (block_of_frame State.plan (endConversions_movedInScan s) rfl)
    (block_of_frame (·.timing.acc) (endConversions_movedInScan s) rfl)
  links s v h := h
  queue s pending ties h := h
  reset s _ := planInv_reset
  release sel rate s _ h := h
  tick s _ _ _ := .of_same (block_of_frame State.plan (passTick_frame s) rfl)
    (block_of_frame (·.timing.acc) (passTick_frame s) rfl)
  startRun start s _ h := by
    rw [planInv_iff, startRun_timing, toRef_acc, startRun_frame]
    exact PlanUnit.Ok.of_acc h (Plan.inRanges.rateNum_pos h.1)
  drain s _ h := h
  restart s h := by
    rw [planInv_iff, restartBlocks_timing, Timing.stopped, toRef_acc, restartBlocks_frame]
    exact PlanUnit.Ok.freed h
  command i s howner h := by
    have hframe := takeCommand_frame i s
    cases ho : commandOwner i <;> rw [ho] at hframe
    case run => exact absurd ho howner
    case plan => exact h.takePlan ho
    all_goals exact h.of_same (block_of_frame State.plan hframe rfl) (block_of_frame (·.timing.acc) hframe rfl)

/-- Settles O52. -/
theorem everyStepKeepsThePlans : Obligations.EveryStepKeepsThePlans :=
  fun _ _ hstep h => keptApartFromLinks_planInv.keptByParts.step hstep h

/-! ### The reference state (R12 to R14, R19 to R21) -/

/-- `ReferenceInv` of a mode and the timing: the value that the mode rules give, and under FOLLOW_LEFT in a run one of
its three states. -/
def Timing.RefOk (m : RefMode) (t : Timing) : Prop :=
  t.refState = t.formedRef m ∧
    (m = .followLeft → t.run ≠ .stopped →
      t.refState = .seeking ∨ t.refState = .lockedL ∨ t.refState = .holdover)

theorem referenceInv_iff (s : State) : ReferenceInv s ↔ s.timing.RefOk s.plan.active.refMode := by
  unfold ReferenceInv Timing.RefOk Timing.formedRef Timing.selected
  cases s.plan.active.refMode with
  | internal => simp
  | loop => simp
  | external =>
    by_cases ha : s.timing.inputs.a.state = .good
    · simp [ha, lockedTo]
    · by_cases hb : s.timing.inputs.b.state = .good <;> simp [ha, hb, lockedTo]
  | followLeft => by_cases hrun : s.timing.run = .stopped <;> simp [hrun]

section RefOk

variable {m : RefMode} {t t' : Timing} {u : PlanUnit} {b : Bool}

theorem Timing.formedRef_of_same (hrun : t'.run = t.run) (hlock : t'.lockHeld = t.lockHeld)
    (hselected : t'.selected = t.selected) (href : t'.refState = t.refState) : t'.formedRef m = t.formedRef m := by
  unfold Timing.formedRef
  rw [hrun, hlock, hselected, href]

theorem Timing.RefOk.of_same (h : t.RefOk m) (hrun : t'.run = t.run) (hlock : t'.lockHeld = t.lockHeld)
    (hselected : t'.selected = t.selected) (href : t'.refState = t.refState) : t'.RefOk m := by
  rwa [Timing.RefOk, Timing.formedRef_of_same hrun hlock hselected href, href, hrun]

/-- A reference state without a lock, as EXTERNAL gives it while no input is GOOD (R12, R14). -/
theorem Timing.formedRef_external_of_none (h : t.selected = none) :
    t.formedRef .external = if t.lockHeld && t.run != .stopped then .holdover else .seeking := by
  unfold Timing.formedRef
  rw [h]

theorem Timing.formedRef_followLeft :
    t.formedRef .followLeft = if t.run = .stopped then .seeking else t.refState := rfl

theorem Timing.formedRef_external_of_some {r : RefId} (h : t.selected = some r) :
    t.formedRef .external = lockedTo r := by
  unfold Timing.formedRef
  rw [h]

theorem Timing.selected_of_states (ha : t'.inputs.a.state = t.inputs.a.state)
    (hb : t'.inputs.b.state = t.inputs.b.state) : t'.selected = t.selected := by
  unfold Timing.selected
  simp only [ha, hb]

/-- The value that the mode rules give stands after the state has taken it. -/
theorem Timing.formedRef_toRef : (t.toRef (t.formedRef m)).formedRef m = t.formedRef m := by
  cases m with
  | internal => rfl
  | loop => rfl
  | external =>
    cases hselected : t.selected with
    | some r =>
      rw [Timing.formedRef_external_of_some (by rw [toRef_selected, hselected]),
        Timing.formedRef_external_of_some hselected]
    | none =>
      have hv := Timing.formedRef_external_of_none hselected
      have hlocked : (t.formedRef .external).isLocked = false := by
        rw [hv]
        split <;> rfl
      exact Timing.formedRef_external_of_none (by rw [toRef_selected, hselected]) |>.trans
        (by rw [toRef_lockHeld_of_not_locked _ _ hlocked, toRef_run, hv])
  | followLeft =>
    rw [Timing.formedRef_followLeft (t := t.toRef _), toRef_run, toRef_refState]
    exact ite_eq_right_iff.2 fun hrun => (if_pos hrun).symm

theorem Timing.refOk_toRef_formed
    (h : m = .followLeft → t.run ≠ .stopped →
      t.refState = .seeking ∨ t.refState = .lockedL ∨ t.refState = .holdover) :
    (t.toRef (t.formedRef m)).RefOk m := by
  refine ⟨by rw [toRef_refState, Timing.formedRef_toRef], fun hm hrun => ?_⟩
  rw [toRef_run] at hrun
  rw [toRef_refState, hm, Timing.formedRef, if_neg hrun]
  exact h hm hrun

theorem Timing.refOk_toRef_entered : (t.toRef (t.enteredRef m)).RefOk m := by
  by_cases hm : m = .followLeft
  · rw [hm]
    refine ⟨?_, fun _ _ => .inl (by rw [toRef_refState]; rfl)⟩
    simp only [Timing.formedRef, Timing.enteredRef, toRef_refState, ite_self]
  · have hentered : t.enteredRef m = t.formedRef m := by
      cases m with
      | followLeft => exact absurd rfl hm
      | _ => rfl
    rw [hentered]
    exact Timing.refOk_toRef_formed fun h => absurd h hm

theorem Timing.RefOk.entered (h : t.RefOk m) (cause : Cause) : (t.entered cause).RefOk m := by
  cases m with
  | external =>
    refine ⟨?_, fun hm => nomatch hm⟩
    have href := h.1
    cases hselected : t.selected with
    | some r =>
      rw [Timing.formedRef_external_of_some hselected] at href
      rw [Timing.formedRef_external_of_some (show (t.entered cause).selected = some r from hselected)]
      exact href
    | none =>
      have hlocked : t.refState.isLocked = false := by
        rw [href, Timing.formedRef_external_of_none hselected]
        split <;> rfl
      rw [Timing.formedRef_external_of_none (show (t.entered cause).selected = none from hselected)]
      rw [Timing.formedRef_external_of_none hselected] at href
      simpa [Timing.entered, hlocked] using href
  | _ => exact h

theorem Timing.RefOk.frameBegun (h : t.RefOk m) (p : Plan) : (t.frameBegun p).RefOk m := h

/-- After an application the reference state is settled to the new plan's mode (R12, R21). -/
theorem Timing.refOk_settled (hkept : modeChanges u = false → t.RefOk u.staged.refMode ∨
      rateChanges u = true ∧ (u.staged.refMode = .followLeft → t.run ≠ .stopped →
        t.refState = .seeking ∨ t.refState = .lockedL ∨ t.refState = .holdover)) :
    (t.settled u).RefOk u.staged.refMode := by
  unfold Timing.settled
  split
  · exact Timing.refOk_toRef_entered
  · next hmode =>
    rcases hkept (by simpa using hmode) with hok | ⟨hrate, hfollow⟩
    · split
      · exact Timing.refOk_toRef_formed hok.2
      · exact hok
    · rw [if_pos hrate]
      exact Timing.refOk_toRef_formed hfollow

theorem modeChanges_eq_false : modeChanges u = false ↔ u.staged.refMode = u.active.refMode := by
  simp [modeChanges]

theorem rateChanges_eq_true :
    rateChanges u = true ↔ u.staged.rateNum ≠ u.active.rateNum ∨ u.staged.rateDen ≠ u.active.rateDen := by
  simp [rateChanges]

/-- The timing of a plan unit's mode after an application, whatever frame begins with it (R35). -/
theorem Timing.RefOk.applied (h : t.RefOk u.active.refMode) (b : Bool)
    (hsame : t'.run = t.run ∧ t'.lockHeld = (t.applied u b).lockHeld ∧ t'.inputs = (t.applied u b).inputs ∧
      t'.refState = t.refState) : (t'.settled u).RefOk u.staged.refMode := by
  obtain ⟨hrun, hlock, hinputs, href⟩ := hsame
  refine Timing.refOk_settled fun hmode => ?_
  rw [modeChanges_eq_false.1 hmode]
  cases hrate : rateChanges u with
  | true => exact .inr ⟨rfl, fun hm hr => by rw [href]; exact h.2 hm (hrun ▸ hr)⟩
  | false =>
    refine .inl (h.of_same hrun ?_ ?_ href)
    · rw [hlock]
      simp [Timing.applied, hmode]
    · rw [Timing.selected, hinputs]
      simp [Timing.applied, hrate, Timing.selected]

theorem Timing.refOk_stopped : (t.stopped m).RefOk m :=
  Timing.refOk_toRef_formed fun _ hrun => absurd rfl hrun

end RefOk

section ReferenceInv

variable {s t : State}

theorem ReferenceInv.of_same (hmode : t.plan.active.refMode = s.plan.active.refMode) (htiming : t.timing = s.timing)
    (h : ReferenceInv s) : ReferenceInv t := by
  rw [referenceInv_iff] at h ⊢
  rwa [hmode, htiming]

theorem ReferenceInv.applyWhileStopped (h : ReferenceInv s) (begun : State) (o : Option Link) :
    ReferenceInv (applyWhileStopped begun o s) := by
  rw [referenceInv_iff] at h ⊢
  rw [applyWhileStopped_plan, applyWhileStopped_timing]
  exact h.applied false ⟨applied_run _ _ _, rfl, rfl, applied_refState _ _ _⟩

theorem ReferenceInv.boundary (h : ReferenceInv s) (begun : State) (cause : Cause) :
    ReferenceInv (boundary begun cause s) := by
  rw [referenceInv_iff] at h ⊢
  rw [boundary_plan_eq, boundary_timing]
  by_cases hstage : s.plan.stage = .committing
  · rw [boundaryTiming_plan_of_waiting cause s hstage, boundaryTiming_timing_of_waiting cause s hstage]
    exact (h.entered cause).applied true ⟨applied_run _ _ _, rfl, rfl, applied_refState _ _ _⟩
  · rw [boundaryTiming_of_none cause s hstage]
    exact (h.entered cause).frameBegun _

theorem ReferenceInv.reachStopped (begun : State) : ReferenceInv (reachStopped begun s) := by
  rw [referenceInv_iff]
  by_cases hstage : s.plan.stage = .committing
  · rw [reachStopped_plan_of_waiting s begun hstage, reachStopped_timing_of_waiting s begun hstage]
    exact Timing.RefOk.applied Timing.refOk_stopped false ⟨applied_run _ _ _, rfl, rfl, applied_refState _ _ _⟩
  · rw [reachStopped_plan_of_none s begun hstage, reachStopped_timing_of_none s begun hstage]
    exact Timing.refOk_stopped

/-- A change of an input re-forms the reference state when its qualification moves (R12, R14). -/
theorem ReferenceInv.onInput (h : ReferenceInv s) (r : RefId) (f : RefInput → RefInput) :
    ReferenceInv (onInput r f s) := by
  rw [referenceInv_iff] at h ⊢
  rw [show (Machine.onInput r f s).plan = s.plan from block_of_frame State.plan (onInput_frame s r f) rfl, onInput_timing]
  split
  · next hstate =>
    refine h.of_same rfl rfl ?_ rfl
    cases r with
    | a => exact Timing.selected_of_states hstate rfl
    | b => exact Timing.selected_of_states rfl hstate
  · exact Timing.refOk_toRef_formed h.2

theorem ReferenceInv.takePlan (h : ReferenceInv s) {i : Instr} (ho : commandOwner i = .plan) :
    ReferenceInv (takeCommand i s) := by
  cases i with
  | planSet l field value =>
    simp only [takeCommand, takePlanSet]
    (repeat' split) <;> exact h
  | planCommit l =>
    simp only [takeCommand, takePlanCommit]
    split
    · exact h
    · exact h
    · split
      · split
        · exact h
        · split
          · exact h.applyWhileStopped s (some l)
          · exact h
      · exact h
  | planDiscard l =>
    simp only [takeCommand, takePlanDiscard]
    (repeat' split) <;> exact h
  | _ => cases ho

theorem keptApartFromLinks_referenceInv : KeptApartFromLinks ReferenceInv where
  input r f s h := h.onInput r f
  lockLeft s hrun hmode _ := by
    rw [referenceInv_iff, setRef_plan, setRef_timing, hmode]
    exact ⟨by simp [Timing.formedRef, hrun], fun _ _ => .inr (.inl (toRef_refState _ _))⟩
  holdOver s hdue _ := by
    simp only [leftLapseDue, Bool.and_eq_true, beq_iff_eq, bne_iff_ne] at hdue
    obtain ⟨⟨⟨hmode, hrun⟩, -⟩, -⟩ := hdue
    rw [referenceInv_iff, setRef_plan, setRef_timing, hmode]
    exact ⟨by simp [Timing.formedRef, hrun], fun _ _ => .inr (.inr (toRef_refState _ _))⟩
  boundary begun cause s _ h := h.boundary begun cause
  reachStopped begun s _ _ := .reachStopped begun
  applyCommit begun s _ _ h := h.applyWhileStopped begun _
  applyTimecode begun s _ := .of_same (by rw [applyPendingTimecode_plan]) (applyPendingTimecode_timing s begun)
  stray e s := .of_same rfl rfl
  assign e s _ := .of_same (by rw [assignReturn_plan]) (assignReturn_timing s e)
  synth e s := .of_same (by rw [handSynth_plan]) (handSynth_timing s e)
  decide e s := .of_same (by rw [decideTrigger_plan]) (decideTrigger_timing s e)
  pulseEnd e s := .of_same rfl rfl
  close n s := .of_same (by rw [closeSlot_plan]) (closeSlot_timing s n)
  lapseEdit s _ h := by
    unfold lapseEdit
    dsimp only
    split <;> exact h
  lapseTable c s _ := .of_same (block_of_frame (·.plan.active.refMode) (lapseTable_frame s c) rfl)
    (block_of_frame State.timing (lapseTable_frame s c) rfl)
  grant s _ := .of_same (by rw [grant_plan]) (grant_timing s)
  burstEnd b s _ _ h := by
    rcases endBurst_owner s b with hsame | hrecord
    · exact h.of_same (block_of_frame (·.plan.active.refMode) hsame rfl) (block_of_frame State.timing hsame rfl)
    · rw [hrecord]
      unfold endRecord stopIfDrained
      split
      · exact .reachStopped _
      · exact h.of_same (by simp) (by simp)
  scanDue s _ := .of_same (block_of_frame (·.plan.active.refMode) (scanTimer_movedInScan s) rfl)
    (block_of_frame State.timing (scanTimer_movedInScan s) rfl)
  conversions s _ := .of_same (block_of_frame (·.plan.active.refMode) (endConversions_movedInScan s) rfl)
    (block_of_frame State.timing (endConversions_movedInScan s) rfl)
  links s v h := h
  queue s pending ties h := h
  reset s _ := rfl
  release sel rate s _ h := h
  tick s _ _ _ h := by
    rw [passTick_frame]
    exact h
  startRun start s _ _ := by
    rw [referenceInv_iff, startRun_timing, startRun_frame]
    exact Timing.refOk_toRef_entered
  drain s hrun h := by
    rw [referenceInv_iff] at h ⊢
    refine ⟨h.1.trans ?_, fun hm _ => h.2 hm (by simp [hrun])⟩
    simp [Timing.formedRef, hrun, Timing.selected]
  restart s _ := by
    rw [referenceInv_iff, restartBlocks_timing, restartBlocks_frame]
    exact Timing.refOk_stopped
  command i s howner h := by
    have hframe := takeCommand_frame i s
    cases ho : commandOwner i <;> rw [ho] at hframe
    case run => exact absurd ho howner
    case plan => exact h.takePlan ho
    all_goals
      exact h.of_same (block_of_frame (·.plan.active.refMode) hframe rfl) (block_of_frame State.timing hframe rfl)

/-- Settles O53. -/
theorem everyStepKeepsTheReference : Obligations.EveryStepKeepsTheReference :=
  fun _ _ hstep h => keptApartFromLinks_referenceInv.keptByParts.step hstep h

end ReferenceInv

end Sys2Proof.Machine
end

section
/-!
PROOFS. What every step keeps of the run (R6, R24, R65), of the open-slot table (R65 to R68, R79) and of the armed triggers
(R53).
-/

namespace Sys2Proof.Machine

/-! ### The slots by their numbers -/

section Numbers

variable {n : BitVec 32} {xs ys : List Slot}

theorem numberedFrom_append :
    numberedFrom n (xs ++ ys) ↔ numberedFrom n xs ∧ numberedFrom (n + BitVec.ofNat 32 xs.length) ys := by
  induction xs generalizing n with
  | nil => simp [numberedFrom]
  | cons x xs ih =>
    have hnext : n + 1 + BitVec.ofNat 32 xs.length = n + BitVec.ofNat 32 (xs.length + 1) := by
      rw [BitVec.ofNat_add]
      bv_omega
    rw [List.cons_append, numberedFrom, numberedFrom, ih, hnext, List.length_cons, and_assoc]

/-- The numbering is that of the list of the numbers. -/
theorem numberedFrom_congr (h : xs.map (·.number) = ys.map (·.number)) : numberedFrom n xs ↔ numberedFrom n ys := by
  induction xs generalizing n ys with
  | nil =>
    rw [List.map_nil, eq_comm, List.map_eq_nil_iff] at h
    rw [h]
  | cons x xs ih =>
    cases ys with
    | nil => cases h
    | cons y ys =>
      simp only [List.map_cons, List.cons.injEq] at h
      simp only [numberedFrom, h.1, ih h.2]

theorem updateFirst_map {α β : Type} {p : α → Bool} {f : α → α} {g : α → β} (h : ∀ x, g (f x) = g x) (xs : List α) :
    (updateFirst p f xs).map g = xs.map g := by
  induction xs with
  | nil => rfl
  | cons x xs ih =>
    unfold updateFirst
    split
    · simp [h]
    · simp [ih]

theorem mem_updateFirst {α : Type} {p : α → Bool} {f : α → α} {xs : List α} {y : α} (h : y ∈ updateFirst p f xs) :
    y ∈ xs ∨ ∃ x ∈ xs, y = f x := by
  induction xs with
  | nil => exact .inl h
  | cons x xs ih =>
    unfold updateFirst at h
    split at h
    · rcases List.mem_cons.1 h with rfl | hy
      · exact .inr ⟨x, List.mem_cons_self, rfl⟩
      · exact .inl (List.mem_cons_of_mem x hy)
    · rcases List.mem_cons.1 h with rfl | hy
      · exact .inl List.mem_cons_self
      · rcases ih hy with hy | ⟨z, hz, rfl⟩
        · exact .inl (List.mem_cons_of_mem x hy)
        · exact .inr ⟨z, List.mem_cons_of_mem x hz, rfl⟩

@[simp] theorem length_updateFirst {α : Type} {p : α → Bool} {f : α → α} {xs : List α} :
    (updateFirst p f xs).length = xs.length := by
  have h := congrArg List.length (updateFirst_map (p := p) (f := f) (g := fun _ => ()) (fun _ => rfl) xs)
  simpa using h

end Numbers

/-! ### The table and the armed triggers -/

/-- A slot holds an outcome exactly when it is closed. -/
def Slot.OutcomeOk (x : Slot) : Prop := x.outcome.isSome = (x.status == .closedWaiting)

/-- The table with the last pair number given before `next`, its head perhaps closed, and its armed triggers. -/
def TableNumbered (next : BitVec 32) (m : Matcher) (g : TriggerUnit) : Prop :=
  m.slots.length ≤ 4 ∧ numberedFrom (next - BitVec.ofNat 32 m.slots.length) m.slots ∧ (∀ x ∈ m.slots, x.OutcomeOk) ∧
    ∀ e, List.Sublist ((g.eyes.get e).waiting.map (·.slot)) (m.slots.map (·.number))

/-- The head of the table is OPEN. -/
def HeadOpen (m : Matcher) : Prop := ∀ x xs, m.slots = x :: xs → x.status = .collecting

theorem slotInv_and_triggerInv_iff {s : State} :
    SlotInv s ∧ TriggerInv s ↔ TableNumbered s.timing.pairNumber s.matcher s.trig ∧ HeadOpen s.matcher := by
  unfold SlotInv TriggerInv TableNumbered HeadOpen Slot.OutcomeOk
  tauto

section Table

variable {next : BitVec 32} {m m' : Matcher} {g g' : TriggerUnit} {s : State}

/-- Slots changed in place, each keeping its number and its closed outcome, and entries that leave the lists. -/
theorem TableNumbered.of_numbers (h : TableNumbered next m g) (hnumbers : m'.slots.map (·.number) = m.slots.map (·.number))
    (houtcomes : ∀ x ∈ m'.slots, x.OutcomeOk)
    (hwaiting : ∀ e, List.Sublist (g'.eyes.get e).waiting (g.eyes.get e).waiting) : TableNumbered next m' g' := by
  obtain ⟨hlength, hnumbered, -, htriggers⟩ := h
  have hsame : m'.slots.length = m.slots.length := by simpa using congrArg List.length hnumbers
  refine ⟨hsame ▸ hlength, ?_, houtcomes, fun e => ?_⟩
  · rw [hsame]
    exact (numberedFrom_congr hnumbers).2 hnumbered
  · rw [hnumbers]
    exact ((hwaiting e).map _).trans (htriggers e)

/-- A slot replaced by one of the same number, status and outcome, wherever it stands. -/
theorem TableNumbered.updateFirst (h : TableNumbered next m g) {p : Slot → Bool} {f : Slot → Slot}
    (hf : ∀ x, (f x).number = x.number ∧ (f x).status = x.status ∧ (f x).outcome = x.outcome)
    (hwaiting : ∀ e, List.Sublist (g'.eyes.get e).waiting (g.eyes.get e).waiting) :
    TableNumbered next { m with slots := Machine.updateFirst p f m.slots } g' := by
  refine h.of_numbers (updateFirst_map (fun x => (hf x).1) m.slots) (fun x hx => ?_) hwaiting
  rcases mem_updateFirst hx with hx | ⟨y, hy, rfl⟩
  · exact h.2.2.1 x hx
  · rw [Slot.OutcomeOk, (hf y).2.1, (hf y).2.2]
    exact h.2.2.1 y hy

theorem HeadOpen.updateFirst (h : HeadOpen m) {p : Slot → Bool} {f : Slot → Slot}
    (hf : ∀ x, (f x).status = x.status) : HeadOpen { m with slots := Machine.updateFirst p f m.slots } := by
  intro x xs hx
  have hstatuses := updateFirst_map (p := p) (g := Slot.status) hf m.slots
  rw [show Machine.updateFirst p f m.slots = x :: xs from hx] at hstatuses
  cases hslots : m.slots with
  | nil => simp [hslots] at hstatuses
  | cons y ys =>
    simp only [hslots, List.map_cons, List.cons.injEq] at hstatuses
    exact hstatuses.1.trans (h y ys hslots)

theorem next_sub_add (n : BitVec 32) (a b : Nat) :
    n - BitVec.ofNat 32 (a + b) + BitVec.ofNat 32 a = n - BitVec.ofNat 32 b := by
  rw [BitVec.ofNat_add]
  bv_omega

/-- The release leaves a numbered table with an OPEN head, and no entry of a slot that left (R79, R53). -/
theorem TableNumbered.releaseSlots (h : TableNumbered next s.matcher s.trig) :
    TableNumbered next (releaseSlots s).matcher (releaseSlots s).trig ∧ HeadOpen (releaseSlots s).matcher := by
  obtain ⟨hlength, hnumbered, houtcomes, htriggers⟩ := h
  have hsplit := List.takeWhile_append_dropWhile (p := Slot.closed) (l := s.matcher.slots)
  have hslots : (Machine.releaseSlots s).matcher.slots = s.matcher.slots.dropWhile Slot.closed := rfl
  have hlengths : (s.matcher.slots.takeWhile Slot.closed).length + (s.matcher.slots.dropWhile Slot.closed).length =
      s.matcher.slots.length := by rw [← List.length_append, hsplit]
  refine ⟨⟨by rw [hslots]; omega, ?_, fun x hx => ?_, fun e => ?_⟩, fun x xs hx => ?_⟩
  · rw [← hsplit, numberedFrom_append] at hnumbered
    rw [hslots]
    have hrest := hnumbered.2
    rwa [List.length_append, next_sub_add] at hrest
  · rw [hslots] at hx
    exact houtcomes x ((List.dropWhile_sublist _).subset hx)
  · have hout := htriggers e
    have hwaiting : ((Machine.releaseSlots s).trig.eyes.get e).waiting =
        (s.trig.eyes.get e).waiting.filter fun n =>
          !((s.matcher.slots.takeWhile Slot.closed).map (·.number)).contains n.slot := by
      simp [Machine.releaseSlots, EyeTrigger.withdraw]
    rw [← hsplit, List.map_append] at hout
    have hkept := hout.filter fun n => !((s.matcher.slots.takeWhile Slot.closed).map (·.number)).contains n
    have hnone : ((s.matcher.slots.takeWhile Slot.closed).map (·.number)).filter
        (fun n => !((s.matcher.slots.takeWhile Slot.closed).map (·.number)).contains n) = [] := by
      rw [List.filter_eq_nil_iff]
      intro n hn
      simpa using hn
    rw [List.filter_append, hnone, List.nil_append, List.filter_map] at hkept
    rw [hwaiting, hslots]
    exact hkept.trans List.filter_sublist
  · rw [hslots] at hx
    have hopen : x.closed = false := by
      have hhead := List.head?_dropWhile_not Slot.closed s.matcher.slots
      rw [hx] at hhead
      simpa using hhead
    cases hstatus : x.status with
    | collecting => rfl
    | closedWaiting => simp [Slot.closed, hstatus] at hopen

/-- A close keeps the table numbered and its head OPEN (R78, R79). -/
theorem TableNumbered.closeSlot (h : TableNumbered next s.matcher s.trig) (hhead : HeadOpen s.matcher) (n : BitVec 32) :
    TableNumbered next (closeSlot n s).matcher (closeSlot n s).trig ∧ HeadOpen (closeSlot n s).matcher := by
  unfold Machine.closeSlot
  split
  · exact ⟨h, hhead⟩
  · next x hx =>
    refine TableNumbered.releaseSlots (s := judgeEyes x _) (h.of_numbers ?_ (fun y hy => ?_) fun e => ?_)
    · rw [judgeEyes_slots]
      exact updateFirst_map (f := fun y : Slot => { y with status := .closedWaiting, outcome := some x.judged })
        (fun _ => rfl) s.matcher.slots
    · rw [judgeEyes_slots] at hy
      rcases mem_updateFirst hy with hy | ⟨z, hz, rfl⟩
      · exact h.2.2.1 y hy
      · rfl
    · rw [judgeEyes_trig]

end Table

/-! ### What the Pair Matcher and the Trigger Unit keep -/

/-- Nothing of a run is left in the Pair Matcher: no slot, and no record to be written. -/
def Matcher.Empty (m : Matcher) : Prop := m.slots = [] ∧ m.queue = []

/-- Between `s` and `t` the table stayed numbered with an OPEN head and its armed triggers, and an empty Pair Matcher
stayed empty. -/
def SlotsKept (s t : State) : Prop :=
  (∀ next, TableNumbered next s.matcher s.trig → HeadOpen s.matcher →
    TableNumbered next t.matcher t.trig ∧ HeadOpen t.matcher) ∧
    (s.matcher.Empty → t.matcher.Empty)

namespace SlotsKept

variable {s t u : State}

theorem trans (hst : SlotsKept s t) (htu : SlotsKept t u) : SlotsKept s u :=
  ⟨fun next h hhead => (hst.1 next h hhead).elim (htu.1 next), fun h => htu.2 (hst.2 h)⟩

theorem of_same (hslots : t.matcher.slots = s.matcher.slots) (hqueue : t.matcher.queue = s.matcher.queue)
    (hwaiting : ∀ e, List.Sublist (t.trig.eyes.get e).waiting (s.trig.eyes.get e).waiting) : SlotsKept s t := by
  refine ⟨fun next h hhead => ⟨h.of_numbers (by rw [hslots]) (by rw [hslots]; exact h.2.2.1) hwaiting, ?_⟩, ?_⟩
  · rw [HeadOpen, hslots]
    exact hhead
  · unfold Matcher.Empty
    rw [hslots, hqueue]
    exact id

theorem of_eq (hmatcher : t.matcher = s.matcher) (htrig : t.trig = s.trig) : SlotsKept s t :=
  of_same (by rw [hmatcher]) (by rw [hmatcher]) (fun e => by rw [htrig])

theorem update {p : Slot → Bool} {f : Slot → Slot}
    (hf : ∀ x, (f x).number = x.number ∧ (f x).status = x.status ∧ (f x).outcome = x.outcome) :
    SlotsKept s { s with matcher := { s.matcher with slots := updateFirst p f s.matcher.slots } } := by
  refine ⟨fun next h hhead => ⟨h.updateFirst hf fun e => List.Sublist.refl _, hhead.updateFirst fun x => (hf x).2.1⟩, ?_⟩
  rintro ⟨hslots, hqueue⟩
  refine ⟨?_, hqueue⟩
  rw [hslots]
  rfl

theorem closeSlot (n : BitVec 32) : SlotsKept s (closeSlot n s) := by
  refine ⟨fun next h hhead => h.closeSlot hhead n, fun h => ?_⟩
  have hnone : Machine.closeSlot n s = s := by
    unfold Machine.closeSlot
    rw [h.1]
    rfl
  rwa [hnone]

theorem closeIfComplete (n : BitVec 32) : SlotsKept s (closeIfComplete n s) := by
  unfold Machine.closeIfComplete
  split
  · exact of_eq rfl rfl
  · split
    · exact closeSlot n
    · exact of_eq rfl rfl

theorem strayReturn (e : Eye) : SlotsKept s (strayReturn e s) := of_same rfl rfl fun _ => List.Sublist.refl _

theorem assignReturn (e : Eye) : SlotsKept s (assignReturn e s) := by
  unfold Machine.assignReturn
  split
  · exact strayReturn e
  · exact (update (p := Slot.takes e s.now) (f := fun y => { y with returned := y.returned.set e (some s.now) })
      fun _ => ⟨rfl, rfl, rfl⟩).trans (closeIfComplete _)

theorem decideSlot (n : BitVec 32) (e : Eye) (o : Option Time) : SlotsKept s (decideSlot n e o s) :=
  (update (p := Slot.isOpenNumber n) (f := Slot.decided e o) fun _ => ⟨rfl, rfl, rfl⟩).trans (closeIfComplete n)

/-- One eye's trigger output moved, and no entry joined its list. -/
theorem onEyeTrigger {e : Eye} {f : EyeTrigger → EyeTrigger}
    (hf : List.Sublist (f (s.trig.eyes.get e)).waiting (s.trig.eyes.get e).waiting) :
    SlotsKept s (onEyeTrigger e f s) := by
  refine of_same rfl rfl fun e' => ?_
  by_cases h : e' = e
  · rw [h, onEyeTrigger_get_self]
    exact hf
  · rw [show (Machine.onEyeTrigger e f s).trig.eyes.get e' = _ from PerEye.get_set_ne _ _ h]

theorem issueTrigger (e : Eye) (n : Entry) : SlotsKept s (issueTrigger e n s) := by
  unfold Machine.issueTrigger
  dsimp only
  split
  · exact onEyeTrigger (List.Sublist.refl _)
  · have hpulse : SlotsKept s
        (Machine.onEyeTrigger e
          (fun y => { y with lastPulse := some ⟨n.slot, n.time, later n.time n.exposure⟩ }) s) :=
      onEyeTrigger (List.Sublist.refl _)
    exact hpulse.trans (of_same rfl rfl fun _ => List.Sublist.refl _)

theorem decideTrigger (e : Eye) : SlotsKept s (decideTrigger e s) := by
  unfold Machine.decideTrigger
  split
  · exact of_eq rfl rfl
  · have hleft : SlotsKept s
        (Machine.onEyeTrigger e (fun y => { y with waiting := y.waiting.eraseP fun m => m.time == s.now }) s) :=
      onEyeTrigger List.eraseP_sublist
    dsimp only
    split
    · exact hleft.trans (decideSlot _ e none)
    · exact (hleft.trans (issueTrigger e _)).trans (decideSlot _ e _)

theorem handSynth (e : Eye) : SlotsKept s (handSynth e s) := by
  unfold Machine.handSynth
  split
  · exact (of_same
      (t := { s with trig := { s.trig with synth := s.trig.synth.set e ((s.trig.synth.get e).erase s.now) } })
      rfl rfl fun _ => List.Sublist.refl _).trans (assignReturn e)
  · exact of_eq rfl rfl

end SlotsKept

/-! ### A boundary in the table (R65 to R68) -/

section OpenSlot

variable {next : BitVec 32} {s : State}

/-- The forced closure makes room for one slot (R68). -/
theorem TableNumbered.forceClosure (h : TableNumbered next s.matcher s.trig) (hhead : HeadOpen s.matcher) :
    TableNumbered next (forceClosure s).matcher (forceClosure s).trig ∧ HeadOpen (forceClosure s).matcher ∧
      (forceClosure s).matcher.slots.length ≤ 3 := by
  unfold Machine.forceClosure
  split
  · next head tail hslots =>
    split
    · have hopen := hhead head tail hslots
      have hplaced : PlacedAt [] head tail s := ⟨hslots, by simp, by simp⟩
      have hclosed := h.closeSlot hhead head.number
      refine ⟨hclosed.1, hclosed.2, ?_⟩
      rw [closeSlot_of_placed hplaced hopen, releaseSlots_slots_of_closed judgeEyes_slots]
      have hrest : (tail.dropWhile Slot.closed).length ≤ tail.length := (List.dropWhile_sublist _).length_le
      have hfour := h.1
      rw [hslots, List.length_cons] at hfour
      omega
    · next hfew => exact ⟨h, hhead, by omega⟩
  · next hslots => exact ⟨h, hhead, by simp [hslots]⟩

/-- An entry armed at a boundary is of that boundary's slot (R49). -/
theorem armedEntry_slot {p : Plan} {f : Frame} {e : Eye} {n : Entry} (h : armedEntry p f e = some n) :
    n.slot = f.number := by
  unfold armedEntry at h
  split at h <;> cases h <;> rfl

/-- The slot of the boundary just taken joins the table at its tail with its entries (R67). -/
theorem TableNumbered.openSlot (h : TableNumbered next s.matcher s.trig) (hhead : HeadOpen s.matcher)
    (hroom : s.matcher.slots.length ≤ 3) {f : Frame} (hframe : s.timing.frame = some f) (hnumber : f.number = next)
    (cause : Cause) :
    TableNumbered (next + 1) (openSlot cause s).matcher (openSlot cause s).trig ∧ HeadOpen (openSlot cause s).matcher := by
  obtain ⟨-, hnumbered, houtcomes, htriggers⟩ := h
  have hopened : Machine.openSlot cause s =
      { s with
        matcher := { s.matcher with slots := s.matcher.slots ++ [newSlot cause f s] }
        trig :=
          { s.trig with
            eyes := PerEye.build fun e =>
              { s.trig.eyes.get e with
                waiting := (s.trig.eyes.get e).waiting ++ (armedEntry s.plan.active f e).toList } } } := by
    rw [Machine.openSlot, hframe]
  rw [hopened]
  refine ⟨⟨?_, ?_, fun x hx => ?_, fun e => ?_⟩, fun x xs hx => ?_⟩
  · rw [List.length_append, List.length_singleton]
    omega
  · rw [List.length_append, List.length_singleton, numberedFrom_append]
    have hstart : next + 1 - BitVec.ofNat 32 (s.matcher.slots.length + 1) =
        next - BitVec.ofNat 32 s.matcher.slots.length := by
      rw [BitVec.ofNat_add]
      bv_omega
    rw [hstart]
    refine ⟨hnumbered, ?_, trivial⟩
    change f.number = _
    rw [hnumber, BitVec.sub_add_cancel]
  · rcases List.mem_append.1 hx with hx | hx
    · exact houtcomes x hx
    · rw [List.mem_singleton.1 hx]
      rfl
  · rw [PerEye.get_build, List.map_append, List.map_append]
    refine (htriggers e).append ?_
    cases hentry : armedEntry s.plan.active f e with
    | none => exact List.nil_sublist _
    | some n =>
      rw [Option.toList_some, List.map_singleton, List.map_singleton, armedEntry_slot hentry]
      exact List.Sublist.refl _
  · cases hslots : s.matcher.slots with
    | nil =>
      rw [hslots] at hx
      cases hx
      rfl
    | cons y ys =>
      rw [hslots] at hx
      injection hx with hx
      rw [← hx]
      exact hhead y ys hslots

end OpenSlot

/-! ### The run (R6, R16, R24) -/

/-- `RunInv` of the timing: in STOPPED nothing of a run is left, a frame stands with its scheduled boundary, and a
re-phase is under way only in RUNNING and locked to an input. -/
def Timing.RunOk (t : Timing) : Prop :=
  (t.run = .stopped → t.next = none ∧ t.ramp = none ∧ t.lockHeld = false ∧ t.runStart = none) ∧
    t.frame.isSome = t.next.isSome ∧
    (t.rephase.isSome = true → t.run = .running ∧ (t.refState = .lockedA ∨ t.refState = .lockedB))

theorem runInv_iff (s : State) :
    RunInv s ↔ s.timing.RunOk ∧ (s.timing.run = .stopped → s.matcher.Empty) := by
  unfold RunInv Timing.RunOk Matcher.Empty
  tauto

section RunOk

variable {t : Timing} {u : PlanUnit}

theorem Timing.RunOk.frame_none (h : t.RunOk) (hrun : t.run = .stopped) : t.frame = none := by
  have hframe := h.2.1
  rw [(h.1 hrun).1] at hframe
  simpa using hframe

/-- Before its first boundary a run has no schedule, no frame and no re-phase. -/
theorem Timing.runOk_of_no_frame (hstopped : t.run = .stopped → t.ramp = none ∧ t.lockHeld = false ∧ t.runStart = none)
    (hnext : t.next = none) (hframe : t.frame = none) (hrephase : t.rephase = none) : t.RunOk :=
  ⟨fun hrun => ⟨hnext, hstopped hrun⟩, by rw [hnext, hframe]; rfl, fun h => by rw [hrephase] at h; cases h⟩

theorem Timing.RunOk.toRef (h : t.RunOk) (v : RefState) : (t.toRef v).RunOk := by
  unfold Timing.toRef
  split
  · exact h
  · obtain ⟨hstopped, hframe, -⟩ := h
    refine ⟨fun hrun => ?_, hframe, fun hrephase => ?_⟩
    · obtain ⟨hnext, hramp, hlock, hstart⟩ := hstopped hrun
      refine ⟨hnext, hramp, ?_, hstart⟩
      simp only [show t.run = .stopped from hrun, hlock]
      simp
    · dsimp only at hrephase ⊢
      split at hrephase
      · next hlocked =>
        simp only [Bool.and_eq_true, Bool.or_eq_true, beq_iff_eq] at hlocked
        exact ⟨hlocked.1.2, hlocked.1.1⟩
      · cases hrephase

theorem Timing.RunOk.entered (h : t.RunOk) (hrun : t.run = .running) (cause : Cause) : (t.entered cause).RunOk := by
  refine ⟨fun hstopped => ?_, h.2.1, fun hrephase => h.2.2 ?_⟩
  · rw [show (t.entered cause).run = t.run from rfl, hrun] at hstopped
    cases hstopped
  · simp only [Timing.entered, advanceRephase] at hrephase
    split at hrephase
    · cases hrephase
    · next hsome => rw [hsome]; rfl

theorem Timing.RunOk.applied (h : t.RunOk) (b : Bool) : (t.applied u b).RunOk := by
  refine ⟨fun hrun => ?_, by rw [applied_currentFrame, applied_next]; exact h.2.1,
    fun hrephase => by rw [applied_run, applied_refState]; exact h.2.2 (by rwa [applied_rephase] at hrephase)⟩
  rw [applied_run] at hrun
  obtain ⟨hnext, hramp, hlock, hstart⟩ := h.1 hrun
  refine ⟨by rw [applied_next, hnext], ?_, ?_, by rw [applied_runStart, hstart]⟩
  · rw [applied_ramp]
    unfold Timing.restartGenerator
    split
    · split
      · next hframe =>
        rw [h.frame_none hrun] at hframe
        cases hframe
      · rfl
    · split
      · rfl
      · exact hramp
  · simp [Timing.applied, hlock]

theorem Timing.RunOk.settled (h : t.RunOk) : (t.settled u).RunOk := by
  unfold Timing.settled
  split
  · exact h.toRef _
  · split
    · exact h.toRef _
    · exact h

theorem Timing.RunOk.frameBegun (h : t.RunOk) (hrun : t.run = .running) (p : Plan) : (t.frameBegun p).RunOk := by
  refine ⟨fun hstopped => ?_, rfl, h.2.2⟩
  rw [show (t.frameBegun p).run = t.run from rfl, hrun] at hstopped
  cases hstopped

theorem Timing.runOk_stopped {m : RefMode} : (t.stopped m).RunOk :=
  (Timing.runOk_of_no_frame (fun _ => ⟨rfl, rfl, rfl⟩) rfl rfl rfl).toRef _

theorem boundaryTiming_runOk {s : State} (h : s.timing.RunOk) (hrun : s.timing.run = .running) (cause : Cause) :
    (boundaryTiming cause s).timing.RunOk ∧ (boundaryTiming cause s).timing.run = .running := by
  by_cases hstage : s.plan.stage = .committing
  · rw [boundaryTiming_timing_of_waiting cause s hstage]
    refine ⟨(((h.entered hrun cause).applied true).frameBegun ?_ _).settled, ?_⟩
    · rw [applied_run]
      exact hrun
    · rw [settled_run]
      exact (applied_run _ _ _).trans hrun
  · rw [boundaryTiming_of_none cause s hstage]
    exact ⟨(h.entered hrun cause).frameBegun hrun _, hrun⟩

/-- A boundary gives its frame the pair number of the run, and counts on (R2, R22). -/
theorem boundaryTiming_frame (cause : Cause) (s : State) :
    (∃ f, (boundaryTiming cause s).timing.frame = some f ∧ f.number = s.timing.pairNumber) ∧
      (boundaryTiming cause s).timing.pairNumber = s.timing.pairNumber + 1 := by
  by_cases hstage : s.plan.stage = .committing
  · rw [boundaryTiming_timing_of_waiting cause s hstage, settled_currentFrame, settled_pairNumber]
    exact ⟨⟨_, rfl, applied_pairNumber _ _ _⟩, congrArg (· + 1) (applied_pairNumber _ _ _)⟩
  · rw [boundaryTiming_of_none cause s hstage]
    exact ⟨⟨_, rfl, rfl⟩, rfl⟩

theorem reachStopped_runOk {s : State} (begun : State) : (reachStopped begun s).timing.RunOk := by
  by_cases hstage : s.plan.stage = .committing
  · rw [reachStopped_timing_of_waiting s begun hstage]
    exact (Timing.runOk_stopped.applied false).settled
  · rw [reachStopped_timing_of_none s begun hstage]
    exact Timing.runOk_stopped

theorem reachStopped_pairNumber {s : State} (begun : State) :
    (reachStopped begun s).timing.pairNumber = s.timing.pairNumber := by
  by_cases hstage : s.plan.stage = .committing
  · rw [reachStopped_timing_of_waiting s begun hstage, settled_pairNumber, applied_pairNumber, Timing.stopped,
      toRef_pairNumber]
    rfl
  · rw [reachStopped_timing_of_none s begun hstage, Timing.stopped, toRef_pairNumber]
    rfl

end RunOk

/-! ### The run, the slots and the triggers together -/

/-- `RunInv`, `SlotInv` and `TriggerInv` together. -/
def Consistent (s : State) : Prop :=
  s.timing.RunOk ∧ (s.timing.run = .stopped → s.matcher.Empty) ∧
    TableNumbered s.timing.pairNumber s.matcher s.trig ∧ HeadOpen s.matcher

theorem consistent_iff (s : State) : Consistent s ↔ RunInv s ∧ SlotInv s ∧ TriggerInv s := by
  rw [Consistent, slotInv_and_triggerInv_iff, runInv_iff, and_assoc]

namespace Consistent

variable {s t : State}

/-- A move of the timing that leaves the run state and the pair number, beside one of the slots. -/
theorem of_slots (h : Consistent s) (hslots : SlotsKept s t) (htiming : t.timing.RunOk)
    (hrun : t.timing.run = s.timing.run) (hnumber : t.timing.pairNumber = s.timing.pairNumber) : Consistent t := by
  obtain ⟨-, hempty, htable, hhead⟩ := h
  refine ⟨htiming, fun hstopped => hslots.2 (hempty (hrun ▸ hstopped)), ?_⟩
  rw [hnumber]
  exact hslots.1 _ htable hhead

theorem of_slots_alone (h : Consistent s) (hslots : SlotsKept s t) (htiming : t.timing = s.timing) : Consistent t :=
  h.of_slots hslots (htiming ▸ h.1) (by rw [htiming]) (by rw [htiming])

theorem of_same (h : Consistent s) (htiming : t.timing = s.timing) (hmatcher : t.matcher = s.matcher)
    (htrig : t.trig = s.trig) : Consistent t :=
  h.of_slots_alone (.of_eq hmatcher htrig) htiming

theorem setRef (h : Consistent s) (v : RefState) : Consistent (setRef v s) := by
  refine h.of_slots (.of_eq (setRef_matcher s v) (setRef_trig s v)) ?_ ?_ ?_ <;> rw [setRef_timing]
  · exact h.1.toRef v
  · exact toRef_run v _
  · exact toRef_pairNumber v _

theorem boundary (h : Consistent s) (hrun : s.timing.run = .running) (begun : State) (cause : Cause) :
    Consistent (boundary begun cause s) := by
  obtain ⟨htiming, -, htable, hhead⟩ := h
  obtain ⟨hok, hrunning⟩ := boundaryTiming_runOk htiming hrun cause
  obtain ⟨⟨f, hf, hnumber⟩, hnext⟩ := boundaryTiming_frame cause s
  have hstamped : TableNumbered s.timing.pairNumber (stampTimecode (boundaryTiming cause s)).matcher
      (stampTimecode (boundaryTiming cause s)).trig := by simpa using htable
  have hstampedHead : HeadOpen (stampTimecode (boundaryTiming cause s)).matcher := by simpa using hhead
  obtain ⟨hclosed, hclosedHead, hroom⟩ := hstamped.forceClosure hstampedHead
  have hopened := hclosed.openSlot hclosedHead hroom (f := f) (by simpa using hf) hnumber cause
  have hdecided := ((SlotsKept.decideTrigger .left).trans (SlotsKept.decideTrigger .right)).1 _ hopened.1 hopened.2
  refine ⟨by rwa [boundary_timing], fun hstopped => ?_, ?_⟩
  · rw [boundary_timing, hrunning] at hstopped
    cases hstopped
  · rw [boundary_timing, hnext]
    simpa [Machine.boundary] using hdecided

theorem reachStopped (h : Consistent s) (hdrained : drained s = true) (begun : State) :
    Consistent (reachStopped begun s) := by
  simp only [drained, Bool.and_eq_true, List.isEmpty_iff] at hdrained
  refine ⟨reachStopped_runOk begun, fun _ => ?_, ?_⟩
  · rw [reachStopped_matcher]
    exact ⟨hdrained.1.2, hdrained.2⟩
  · rw [reachStopped_pairNumber, reachStopped_matcher, reachStopped_trig]
    exact h.2.2

theorem applyWhileStopped (h : Consistent s) (begun : State) (o : Option Link) :
    Consistent (applyWhileStopped begun o s) := by
  refine h.of_slots (.of_eq (applyWhileStopped_matcher s begun o) (applyWhileStopped_trig s begun o)) ?_ ?_ ?_ <;>
    rw [applyWhileStopped_timing]
  · exact (h.1.applied false).settled
  · rw [settled_run, applied_run]
  · rw [settled_pairNumber, applied_pairNumber]

/-- Nothing of the Pair Matcher and the Trigger Unit is left (R8, R24). -/
theorem of_empty {s : State} (htiming : s.timing.RunOk) (hmatcher : s.matcher.Empty)
    (hwaiting : ∀ e, (s.trig.eyes.get e).waiting = []) : Consistent s := by
  refine ⟨htiming, fun _ => hmatcher, ⟨by simp [hmatcher.1], by rw [hmatcher.1]; trivial, ?_, fun e => ?_⟩, ?_⟩
  · rw [hmatcher.1]
    exact fun x hx => nomatch hx
  · rw [hwaiting, hmatcher.1]
    exact List.Sublist.refl _
  · rw [HeadOpen, hmatcher.1]
    exact fun x xs hx => nomatch hx

theorem takePlan (h : Consistent s) {i : Instr} (ho : commandOwner i = .plan) : Consistent (takeCommand i s) := by
  cases i with
  | planSet l field value =>
    simp only [takeCommand, takePlanSet]
    (repeat' split) <;> exact h
  | planCommit l =>
    simp only [takeCommand, takePlanCommit]
    split
    · exact h
    · exact h
    · split
      · split
        · exact h
        · split
          · exact h.applyWhileStopped s (some l)
          · exact h
      · exact h
  | planDiscard l =>
    simp only [takeCommand, takePlanDiscard]
    (repeat' split) <;> exact h
  | _ => cases ho

end Consistent

theorem waiting_pinReset (e : Eye) : (TriggerUnit.pinReset.eyes.get e).waiting = [] := by
  rw [show TriggerUnit.pinReset.eyes.get e = _ from PerEye.get_build _ e]

theorem consistent_pinReset {s : State} (htiming : s.timing = .pinReset) (hmatcher : s.matcher = .pinReset)
    (htrig : s.trig = .pinReset) : Consistent s := by
  refine Consistent.of_empty ?_ ?_ fun e => ?_
  · rw [htiming]
    exact Timing.runOk_of_no_frame (fun _ => ⟨rfl, rfl, rfl⟩) rfl rfl rfl
  · rw [hmatcher]
    exact ⟨rfl, rfl⟩
  · rw [htrig, waiting_pinReset]

theorem keptApartFromLinks_consistent : KeptApartFromLinks Consistent where
  input r f s h := by
    have hframe := onInput_frame s r f
    refine h.of_slots (.of_eq (block_of_frame State.matcher hframe rfl) (block_of_frame State.trig hframe rfl)) ?_ ?_ ?_ <;>
      rw [onInput_timing] <;> split
    · exact h.1
    · have hmoved : Timing.RunOk { s.timing with inputs := s.timing.inputs.set r (f (s.timing.inputs.get r)) } := h.1
      exact hmoved.toRef _
    · rfl
    · rw [toRef_run]
    · rfl
    · rw [toRef_pairNumber]
  lockLeft s _ _ h := h.setRef _
  holdOver s _ h := h.setRef _
  boundary begun cause s hrun h := h.boundary hrun begun cause
  reachStopped begun s hdrained h := h.reachStopped hdrained begun
  applyCommit begun s _ _ h := h.applyWhileStopped begun _
  applyTimecode begun s _ h := h.of_same (applyPendingTimecode_timing s begun) (applyPendingTimecode_matcher s begun)
    (applyPendingTimecode_trig s begun)
  stray e s h := h.of_slots_alone (.strayReturn e) rfl
  assign e s _ h := h.of_slots_alone (.assignReturn e) (assignReturn_timing s e)
  synth e s h := h.of_slots_alone (.handSynth e) (handSynth_timing s e)
  decide e s h := h.of_slots_alone (.decideTrigger e) (decideTrigger_timing s e)
  pulseEnd e s h := h.of_slots_alone (.onEyeTrigger (List.Sublist.refl _)) rfl
  close n s h := h.of_slots_alone (.closeSlot n) (closeSlot_timing s n)
  lapseEdit s _ h := by
    unfold lapseEdit
    dsimp only
    split <;> exact h
  lapseTable c s _ h := h.of_same (block_of_frame State.timing (lapseTable_frame s c) rfl)
    (block_of_frame State.matcher (lapseTable_frame s c) rfl) (block_of_frame State.trig (lapseTable_frame s c) rfl)
  grant s _ h := h.of_same (grant_timing s) (grant_matcher s) (grant_trig s)
  burstEnd b s _ _ h := by
    rcases endBurst_owner s b with hsame | hrecord
    · exact h.of_same (block_of_frame State.timing hsame rfl) (block_of_frame State.matcher hsame rfl)
        (block_of_frame State.trig hsame rfl)
    · have hwritten : Consistent { s with matcher := { s.matcher with queue := s.matcher.queue.tail } } :=
        ⟨h.1, fun hstopped => ⟨(h.2.1 hstopped).1, by simp [(h.2.1 hstopped).2]⟩, h.2.2⟩
      rw [hrecord]
      unfold endRecord stopIfDrained
      split
      · next hdrained => exact Consistent.reachStopped (hwritten.of_same (by simp) (by simp) (by simp)) hdrained _
      · exact hwritten.of_same (by simp) (by simp) (by simp)
  scanDue s _ h := h.of_same (block_of_frame State.timing (scanTimer_movedInScan s) rfl)
    (block_of_frame State.matcher (scanTimer_movedInScan s) rfl)
    (block_of_frame State.trig (scanTimer_movedInScan s) rfl)
  conversions s _ h := h.of_same (block_of_frame State.timing (endConversions_movedInScan s) rfl)
    (block_of_frame State.matcher (endConversions_movedInScan s) rfl)
    (block_of_frame State.trig (endConversions_movedInScan s) rfl)
  links s v h := h
  queue s pending ties h := h
  reset s _ := consistent_pinReset rfl rfl rfl
  release sel rate s _ h := h
  tick s _ _ _ h := by
    rw [passTick_frame]
    exact h
  startRun start s hrun h := by
    obtain ⟨-, hempty, htable, -⟩ := h
    obtain ⟨hslots, hqueue⟩ := hempty hrun
    have hwaiting (e : Eye) : (s.trig.eyes.get e).waiting = [] := by
      have hentries := htable.2.2.2 e
      rw [hslots] at hentries
      simpa using hentries
    rw [startRun_frame]
    refine Consistent.of_empty ?_ ⟨hslots, hqueue⟩ hwaiting
    rw [startRun_timing]
    exact (Timing.runOk_of_no_frame (t := s.timing.started start) (fun h => by cases h) rfl rfl rfl).toRef _
  drain s hrun h :=
    ⟨⟨fun hstopped => (by cases hstopped), h.1.2.1, fun hrephase => (by cases hrephase)⟩,
      fun hstopped => (by cases hstopped), h.2.2⟩
  restart s _ := by
    rw [restartBlocks_frame]
    refine Consistent.of_empty ?_ ⟨rfl, rfl⟩ waiting_pinReset
    rw [restartBlocks_timing]
    exact Timing.runOk_stopped
  command i s howner h := by
    have hframe := takeCommand_frame i s
    cases ho : commandOwner i <;> rw [ho] at hframe
    case run => exact absurd ho howner
    case plan => exact h.takePlan ho
    all_goals
      exact h.of_same (block_of_frame State.timing hframe rfl) (block_of_frame State.matcher hframe rfl)
        (block_of_frame State.trig hframe rfl)

/-- Settles O54. -/
theorem everyStepKeepsRunSlotsAndTriggers : Obligations.EveryStepKeepsRunSlotsAndTriggers :=
  fun s t hstep hrun hslots htriggers =>
    (consistent_iff t).1
      (keptApartFromLinks_consistent.keptByParts.step hstep ((consistent_iff s).2 ⟨hrun, hslots, htriggers⟩))

end Sys2Proof.Machine
end

section
/-!
PROOFS. The replies owed (R154, R168, R171): a link is EXECUTING exactly while one reply is owed to it.
-/

namespace Sys2Proof.Machine

/-! ### What only posts -/

/-- Between `s` and `t` the links' pending sets grew, LOG_READY in none of them, and nothing else of any link moved. -/
def Posts (s t : State) : Prop :=
  Grew s t ∧ ∀ l, holds (t.links.get l).events .logReady = holds (s.links.get l).events .logReady

theorem Posts.refl (s : State) : Posts s s := ⟨.refl s, fun _ => rfl⟩

theorem posts_of_links {s t : State} (h : t.links = s.links) : Posts s t := ⟨grew_of_links h, fun l => by rw [h]⟩

theorem Posts.trans {s t u : State} (hst : Posts s t) (htu : Posts t u) : Posts s u :=
  ⟨hst.1.trans htu.1, fun l => (htu.2 l).trans (hst.2 l)⟩

theorem posts_postAll {k : EventKind} (h : k ≠ .logReady) (s : State) : Posts s (postAll k s) := by
  refine ⟨grew_postAll k s, fun l => ?_⟩
  rw [postAll_get, Bool.eq_iff_iff, holds_or_mask]
  simp [h.symm]

theorem posts_post {k : EventKind} (h : k ≠ .logReady) (l : Link) (s : State) : Posts s (post k l s) := by
  have hand (x : EventSet) : x &&& (x ||| k.mask) = x := by
    ext i hi
    simp
    tauto
  refine ⟨fun k' => ?_, fun k' => ?_⟩ <;> by_cases hk : k' = l
  · rw [hk, post, onLink_get_self]
    exact ⟨rfl, hand _⟩
  · rw [post, onLink_get_ne _ _ hk]
    exact ⟨rfl, BitVec.and_self⟩
  · rw [hk, post, onLink_get_self, Bool.eq_iff_iff, holds_or_mask]
    simp [h.symm]
  · rw [post, onLink_get_ne _ _ hk]

/-- What posts only leaves the receiver of every link. -/
theorem Posts.state {s t : State} (h : Posts s t) (l : Link) : (t.links.get l).state = (s.links.get l).state := by
  rw [(h.1 l).1]

section Posting

variable (s : State)

theorem posts_setRef (v : RefState) : Posts s (setRef v s) := by
  unfold setRef
  split
  · exact .refl s
  · exact (posts_of_links (s := s) rfl).trans (posts_postAll (by simp) _)

theorem posts_settleReference (u : PlanUnit) : Posts s (settleReference u s) := by
  unfold settleReference
  split
  · exact posts_setRef s _
  · split
    · exact posts_setRef s _
    · exact .refl s

theorem posts_applyStaged (b : Bool) : Posts s (applyStaged b s) := by
  unfold applyStaged
  refine Posts.trans (posts_of_links ?_) (posts_postAll (by simp) _)
  split <;> rfl

theorem posts_onInput (r : RefId) (f : RefInput → RefInput) : Posts s (onInput r f s) := by
  unfold onInput
  dsimp only
  split
  · exact posts_of_links rfl
  · exact (posts_of_links (s := s) rfl).trans (posts_setRef _ _)

theorem posts_judgeEye (x : Slot) (e : Eye) : Posts s (judgeEye x e s) := by
  unfold judgeEye
  dsimp only
  split
  · next k hk =>
    refine (posts_of_links (s := s) rfl).trans (posts_postAll ?_ _)
    rintro rfl
    unfold presenceEvent at hk
    split at hk <;> cases hk
  · exact posts_of_links rfl

theorem posts_closeSlot (n : BitVec 32) : Posts s (closeSlot n s) := by
  unfold closeSlot
  split
  · exact .refl s
  · next x _ =>
    let marked : State :=
      { s with
        matcher :=
          { s.matcher with
            slots := updateFirst (Slot.isOpenNumber n)
              (fun y => { y with status := .closedWaiting, outcome := some x.judged }) s.matcher.slots } }
    have hjudged : Posts marked (judgeEye x .right (judgeEye x .left marked)) :=
      (posts_judgeEye marked x .left).trans (posts_judgeEye _ x .right)
    exact (posts_of_links (s := s) (t := marked) rfl).trans (hjudged.trans (posts_of_links (releaseSlots_links _)))

theorem posts_closeIfComplete (n : BitVec 32) : Posts s (closeIfComplete n s) := by
  unfold closeIfComplete
  split
  · exact .refl s
  · split
    · exact posts_closeSlot s n
    · exact .refl s

theorem posts_forceClosure : Posts s (forceClosure s) := by
  unfold forceClosure
  split
  · split
    · exact posts_closeSlot s _
    · exact .refl s
  · exact .refl s

theorem posts_strayReturn (e : Eye) : Posts s (strayReturn e s) :=
  (posts_of_links (s := s) rfl).trans (posts_postAll (by simp) _)

theorem posts_assignReturn (e : Eye) : Posts s (assignReturn e s) := by
  unfold assignReturn
  split
  · exact posts_strayReturn s e
  · exact (posts_of_links (s := s) rfl).trans (posts_closeIfComplete _ _)

theorem posts_decideSlot (n : BitVec 32) (e : Eye) (o : Option Time) : Posts s (decideSlot n e o s) :=
  (posts_of_links (s := s) rfl).trans (posts_closeIfComplete _ _)

theorem posts_decideTrigger (e : Eye) : Posts s (decideTrigger e s) := by
  unfold decideTrigger
  split
  · exact .refl s
  · dsimp only
    split
    · exact (posts_of_links (s := s) rfl).trans (posts_decideSlot _ _ _ _)
    · exact (posts_of_links (s := s) (by simp)).trans (posts_decideSlot _ _ _ _)

theorem posts_handSynth (e : Eye) : Posts s (handSynth e s) := by
  unfold handSynth
  split
  · exact (posts_of_links (s := s) rfl).trans (posts_assignReturn _ e)
  · exact .refl s

theorem posts_boundaryTiming (cause : Cause) : Posts s (boundaryTiming cause s) := by
  by_cases h : s.plan.stage = .committing
  · rw [boundaryTiming_of_waiting cause s h]
    have hbegun : Posts s (beginFrame (applyStaged true (enterBoundary cause s))) :=
      (posts_of_links (t := enterBoundary cause s) rfl).trans ((posts_applyStaged _ true).trans (posts_of_links rfl))
    exact hbegun.trans (posts_settleReference _ _)
  · rw [boundaryTiming_of_none cause s h]
    exact posts_of_links rfl

/-- A boundary but for the replies owed (R2). -/
def boundaryBody (cause : Cause) (s : State) : State :=
  frameScan (decideTrigger .right (decideTrigger .left
    (openSlot cause (forceClosure (stampTimecode (boundaryTiming cause s))))))

theorem boundary_eq (begun : State) (cause : Cause) :
    boundary begun cause s = answerAtBoundary begun s (boundaryBody cause s) := rfl

theorem posts_boundaryBody (cause : Cause) : Posts s (boundaryBody cause s) := by
  have hslot (u : State) : Posts u (openSlot cause (forceClosure u)) :=
    (posts_forceClosure u).trans (posts_of_links (openSlot_links _ cause))
  have hdecided (u : State) : Posts u (frameScan (decideTrigger .right (decideTrigger .left u))) :=
    ((posts_decideTrigger u .left).trans (posts_decideTrigger _ .right)).trans (posts_of_links (frameScan_links _))
  have hstamped : Posts s (stampTimecode (boundaryTiming cause s)) :=
    (posts_boundaryTiming s cause).trans (posts_of_links rfl)
  exact (hstamped.trans (hslot _)).trans (hdecided _)

theorem posts_postFindings (u : LensUnit) (sc : Scan) : Posts s (postFindings u sc s) := by
  unfold postFindings
  dsimp only
  repeat' split
  · exact (posts_postAll (by simp) s).trans (posts_postAll (by simp) _)
  · exact posts_postAll (by simp) s
  · exact posts_postAll (by simp) s
  · exact .refl s

theorem posts_completeScan : Posts s (completeScan s) := by
  cases h : s.lens.scan with
  | none =>
    rw [completeScan_of_none h]
    exact .refl s
  | some sc =>
    rw [completeScan_of_scan h]
    exact (posts_of_links (s := s) rfl).trans (posts_postFindings _ _ _)

theorem posts_nextSegment (cs : List ChannelId) : Posts s (nextSegment cs s) :=
  nextSegment_rule (P := Posts s) (fun _ _ _ => posts_of_links rfl) (posts_completeScan s)

theorem posts_continueTargets : Posts s (continueTargets s) :=
  continueTargets_rule (P := Posts s) (fun _ _ _ => posts_of_links rfl) (posts_completeScan s) (.refl s)

theorem posts_endConversions : Posts s (endConversions s) :=
  (posts_of_links (s := s) rfl).trans (posts_nextSegment _ _)

theorem posts_scanTimer : Posts s (scanTimer s) := by
  unfold scanTimer
  dsimp only
  split <;> exact posts_of_links rfl

theorem posts_endSegment (c : ChannelId) (trim : Int) (isLive : Bool) (words : List MemWord) :
    Posts s (endSegment c trim isLive words s) := by
  unfold endSegment
  split
  · split <;> exact (posts_of_links (s := s) rfl).trans (posts_continueTargets _)
  · exact .refl s

theorem posts_lapseEdit : Posts s (lapseEdit s) := by
  unfold lapseEdit
  dsimp only
  split
  · exact (posts_of_links (s := s) rfl).trans (posts_post (by simp) _ _)
  · exact posts_of_links rfl

theorem posts_lapseTable (c : ChannelId) : Posts s (lapseTable c s) := by
  unfold lapseTable
  dsimp only
  split
  · exact (posts_of_links (s := s) rfl).trans (posts_post (by simp) _ _)
  · exact posts_of_links rfl

theorem posts_startRun (start : Option (BitVec 32)) : Posts s (startRun start s) :=
  (posts_of_links (s := s) rfl).trans (posts_setRef _ _)

/-- STOPPED is reached, before what waits is applied (R6, R12). -/
def enterStopped (s : State) : State := recomputeRef (postAll .timingStopped { s with timing := s.timing.ended })

theorem posts_enterStopped : Posts s (enterStopped s) :=
  ((posts_of_links (s := s) rfl).trans (posts_postAll (by simp) _)).trans (posts_setRef _ _)

end Posting

/-! ### The ledger of replies -/

/-- How many replies one source owes to link `l`. -/
def owedBy (o : Option Link) (l : Link) : Nat := if o = some l then 1 else 0

@[simp] theorem owedBy_none (l : Link) : owedBy none l = 0 := rfl

/-- The holder of the burst under way, if the burst is a link's. -/
def RecordMemory.linkServed (m : RecordMemory) : Option Link := m.port.bind (·.holder.link)

/-- The replies that Record Memory owes to a link: for a waiting request and for the burst under way. -/
def RecordMemory.owes (m : RecordMemory) (l : Link) : Nat :=
  (if (m.linkRequests.get l).isSome then 1 else 0) + owedBy m.linkServed l

theorem owedReplies_eq (l : Link) (s : State) :
    s.owedReplies l = owedBy s.plan.committer l + owedBy s.tc.owed l + s.memory.owes l := by
  rw [State.owedReplies, RecordMemory.owes, ← Nat.add_assoc]
  rfl

/-- Between `s` and `t` no receiver changed its state and no source of debts its debts. -/
structure SameDebts (s t : State) : Prop where
  state : ∀ l, (t.links.get l).state = (s.links.get l).state
  committer : t.plan.committer = s.plan.committer
  timecode : t.tc.owed = s.tc.owed
  memory : t.memory.owes = s.memory.owes

theorem SameDebts.refl (s : State) : SameDebts s s := ⟨fun _ => rfl, rfl, rfl, rfl⟩

/-- What only posts and leaves the blocks that hold debts. -/
theorem Posts.sameDebts {s t : State} (h : Posts s t) (hplan : t.plan.committer = s.plan.committer)
    (htc : t.tc.owed = s.tc.owed) (hmemory : t.memory.owes = s.memory.owes) : SameDebts s t :=
  ⟨h.state, hplan, htc, hmemory⟩

/-- Every link is EXECUTING exactly while one reply is owed to it, counting `d` replies that the event under way still
has to give. -/
def Ledger (d : Link → Nat) (s : State) : Prop :=
  ∀ l, d l + s.owedReplies l = if (s.links.get l).state = .executing then 1 else 0

theorem replyInv_iff (s : State) :
    ReplyInv s ↔ Ledger 0 s ∧ (s.pins.resetAsserted = true → s.memory.port = none) := by
  simp [ReplyInv, Ledger]

namespace Ledger

variable {d d' : Link → Nat} {s t : State}

/-- Debts move between the sources and the event under way, and no receiver. -/
theorem moved (h : Ledger d s) (hstate : ∀ l, (t.links.get l).state = (s.links.get l).state)
    (hsum : ∀ l, d' l + t.owedReplies l = d l + s.owedReplies l) : Ledger d' t :=
  fun l => by rw [hsum l, hstate l, h l]

/-- What leaves the receivers and the sources keeps the ledger. -/
theorem kept (h : Ledger d s) (hsame : SameDebts s t) : Ledger d t :=
  h.moved hsame.state fun l => by
    rw [owedReplies_eq, owedReplies_eq, hsame.committer, hsame.timecode, hsame.memory]

/-- A reply to a link settles the one debt of the event to it. -/
theorem replied {l : Link} (h : Ledger (d + owedBy (some l)) s) (st : Status) (data : List Byte) (evt : Bool) :
    Ledger d (replyWith l st data evt s) := by
  intro k
  have hk := h k
  have howed : (replyWith l st data evt s).owedReplies k = s.owedReplies k := rfl
  rw [howed]
  by_cases hkl : k = l
  · subst hkl
    have hstate : ((replyWith k st data evt s).links.get k).state = .replying := by simp [replyWith]
    have hone : owedBy (some k) k = 1 := if_pos rfl
    rw [hstate]
    rw [Pi.add_apply, hone] at hk
    split at hk
    · simp only [reduceCtorEq, if_false]
      omega
    · omega
  · have hzero : owedBy (some l) k = 0 := if_neg fun he => hkl (Option.some.inj he).symm
    rw [Pi.add_apply, hzero, Nat.add_zero] at hk
    rw [replyWith, onLink_get_ne _ _ hkl]
    exact hk

theorem answerOwed {o : Option Link} (h : Ledger (d + owedBy o) s) (before : State) (st : Status) :
    Ledger d (answerOwed before o st s) := by
  cases o with
  | none => exact h
  | some l => exact h.replied _ _ _

end Ledger

end Sys2Proof.Machine
end

section
/-!
PROOFS. The replies owed at each event and command (R154, R168, R171).
-/

namespace Sys2Proof.Machine

/-! ### Sources of debts -/

theorem PlanUnit.committer_of_not_committing {u : PlanUnit} (h : u.stage ≠ .committing) : u.committer = none := if_neg h

@[simp] theorem PlanUnit.committer_applied (u : PlanUnit) : u.applied.committer = none := rfl

@[simp] theorem PlanUnit.committer_freed (u : PlanUnit) : u.freed.committer = none := rfl

@[simp] theorem TimecodeCounter.owed_applyWaiting (c : TimecodeCounter) : c.applyWaiting.owed = none := by
  cases h : c.waiting <;> simp [TimecodeCounter.applyWaiting, TimecodeCounter.owed, h]

@[simp] theorem TimecodeCounter.owed_atBoundary (c : TimecodeCounter) : c.atBoundary.owed = none := by
  cases h : c.waiting with
  | some w => simp [TimecodeCounter.atBoundary, TimecodeCounter.applyWaiting, TimecodeCounter.owed, h]
  | none => by_cases hm : c.firstMark = true <;> simp [TimecodeCounter.atBoundary, TimecodeCounter.owed, h, hm]

theorem Burst.orphan_link (b : Burst) : b.orphan.holder.link = b.holder.link := by
  unfold Burst.orphan
  split
  · next h => rw [h]; rfl
  · rfl

section Owes

variable (s : State)

@[simp] theorem frameScan_owes : (frameScan s).memory.owes = s.memory.owes := by
  by_cases h : s.lens.mode = .frame
  · rw [frameScan_of_frame s h]
    dsimp only
    split
    · funext l
      cases hport : s.memory.port <;>
        simp [RecordMemory.owes, RecordMemory.linkServed, RecordMemory.scanAbandoned, Burst.orphan_link, hport]
    · rfl
  · rw [frameScan_of_not_frame s h]

theorem MovedInMatcher.sameDebts {s t : State} (h : MovedInMatcher s t) (hposts : Posts s t) : SameDebts s t := by
  refine hposts.sameDebts ?_ ?_ ?_ <;> rw [h]

theorem MovedInScan.sameDebts {s t : State} (h : MovedInScan s t) (hposts : Posts s t) : SameDebts s t := by
  have hmemory : t.memory.owes = s.memory.owes := by
    rw [h]
    rfl
  refine hposts.sameDebts ?_ ?_ hmemory <;> rw [h]

/-- What moves no block that holds debts. -/
theorem sameDebts_of_timing {t : State} (h : t = { s with timing := t.timing, links := t.links }) (hposts : Posts s t) :
    SameDebts s t := by
  refine hposts.sameDebts ?_ ?_ ?_ <;> rw [h]

end Owes

/-! ### Boundaries and STOPPED -/

namespace Ledger

variable {d : Link → Nat} {s : State}

theorem answerBoundaryCommit {before : State} (h : Ledger (d + owedBy before.plan.committer) s) (begun : State) :
    Ledger d (answerBoundaryCommit begun before s) := by
  unfold Machine.answerBoundaryCommit
  split
  · next l hl =>
    rw [hl] at h
    exact h.replied _ _ _
  · next hnone =>
    rw [hnone] at h
    exact h

theorem boundary (begun : State) (cause : Cause) (h : Ledger 0 s) : Ledger 0 (boundary begun cause s) := by
  have hplan : (boundaryBody cause s).plan.committer = none := by
    by_cases hstage : s.plan.stage = .committing
    · simp [boundaryBody, boundaryTiming_plan_of_waiting cause s hstage]
    · simp [boundaryBody, boundaryTiming_of_none cause s hstage, PlanUnit.committer_of_not_committing hstage]
  have hbody : Ledger ((0 + owedBy s.tc.owed) + owedBy s.plan.committer) (boundaryBody cause s) := by
    refine h.moved (posts_boundaryBody s cause).state fun l => ?_
    have htc : (boundaryBody cause s).tc.owed = none := by simp [boundaryBody, stampTimecode]
    have hmemory : (boundaryBody cause s).memory.owes = s.memory.owes := by simp [boundaryBody]
    rw [owedReplies_eq, owedReplies_eq, hplan, htc, hmemory]
    simp only [Pi.add_apply, Pi.zero_apply, owedBy_none]
    omega
  rw [boundary_eq]
  exact (hbody.answerBoundaryCommit begun).answerOwed begun .ok

theorem applyWhileStopped (begun : State) (h : Ledger d s) :
    Ledger d (applyWhileStopped begun s.plan.committer s) := by
  have happlied : Ledger (d + owedBy s.plan.committer) (settleReference s.plan (applyStaged false s)) := by
    refine h.moved ((posts_applyStaged s false).trans (posts_settleReference _ _)).state fun l => ?_
    rw [owedReplies_eq, owedReplies_eq]
    simp
    omega
  unfold Machine.applyWhileStopped
  dsimp only
  split
  · next l hl =>
    rw [hl] at happlied
    exact happlied.replied _ _ _
  · next hnone =>
    rw [hnone] at happlied
    exact happlied

theorem applyPendingTimecode (begun : State) (h : Ledger d s) : Ledger d (applyPendingTimecode begun s) := by
  have happlied : Ledger (d + owedBy s.tc.owed) { s with tc := s.tc.applyWaiting } := by
    refine h.moved (fun _ => rfl) fun l => ?_
    rw [owedReplies_eq, owedReplies_eq]
    simp
    omega
  exact happlied.answerOwed begun .ok

theorem reachStopped (begun : State) (h : Ledger d s) : Ledger d (reachStopped begun s) := by
  have hplan : (enterStopped s).plan = s.plan := by simp [enterStopped, recomputeRef]
  have hentered : Ledger d (enterStopped s) := by
    refine h.kept ((posts_enterStopped s).sameDebts ?_ ?_ ?_) <;> simp [enterStopped, recomputeRef]
  have hsplit : Machine.reachStopped begun s =
      Machine.applyPendingTimecode begun
        (if s.plan.stage = .committing then Machine.applyWhileStopped begun s.plan.committer (enterStopped s)
          else enterStopped s) := rfl
  rw [hsplit]
  refine applyPendingTimecode begun ?_
  split
  · rw [← hplan]
    exact hentered.applyWhileStopped begun
  · exact hentered

theorem stopIfDrained (begun : State) (h : Ledger d s) : Ledger d (stopIfDrained begun s) := by
  unfold Machine.stopIfDrained
  split
  · exact h.reachStopped begun
  · exact h

end Ledger

/-! ### Record Memory's requests and bursts -/

/-- A waiting request that leaves takes its debt with it. -/
theorem owes_cleared {m : RecordMemory} {l : Link} {q : LinkRequest} (h : m.linkRequests.get l = some q)
    (last k : Link) :
    ({ m with linkRequests := m.linkRequests.set l none, lastServed := last } : RecordMemory).owes k +
      owedBy (some l) k = m.owes k := by
  have hserved : ({ m with linkRequests := m.linkRequests.set l none, lastServed := last } : RecordMemory).linkServed =
      m.linkServed := rfl
  rw [RecordMemory.owes, RecordMemory.owes, hserved]
  by_cases hk : k = l
  · subst hk
    simp [h, owedBy]
    omega
  · simp [PerLink.get_set_ne _ _ hk, owedBy, Ne.symm hk]

/-- A request left waiting is a debt. -/
theorem owes_requested {m : RecordMemory} {l : Link} (h : m.linkRequests.get l = none) (q : LinkRequest) (k : Link) :
    ({ m with linkRequests := m.linkRequests.set l (some q) } : RecordMemory).owes k = m.owes k + owedBy (some l) k := by
  have hserved : ({ m with linkRequests := m.linkRequests.set l (some q) } : RecordMemory).linkServed =
      m.linkServed := rfl
  rw [RecordMemory.owes, RecordMemory.owes, hserved]
  by_cases hk : k = l
  · subst hk
    simp [h, owedBy]
    omega
  · simp [PerLink.get_set_ne _ _ hk, owedBy, Ne.symm hk]

/-- A burst granted owes its reply to its holder's link. -/
theorem owes_granted {m : RecordMemory} (h : m.port = none) (b : Burst) (k : Link) :
    ({ m with port := some b } : RecordMemory).owes k = m.owes k + owedBy b.holder.link k := by
  simp [RecordMemory.owes, RecordMemory.linkServed, h]

/-- A burst that ends takes its debt with it. -/
theorem owes_freed {m : RecordMemory} {b : Burst} (h : m.port = some b) (k : Link) :
    ({ m with port := none } : RecordMemory).owes k + owedBy b.holder.link k = m.owes k := by
  simp [RecordMemory.owes, RecordMemory.linkServed, h]

section Receivers

variable (s : State)

theorem reformReady_state (l k : Link) : ((reformReady l s).links.get k).state = (s.links.get k).state := by
  by_cases hk : k = l
  · rw [hk, reformReady, onLink_get_self]
  · rw [reformReady, onLink_get_ne _ _ hk]

theorem appendRecord_state (k : Link) : ((appendRecord s).links.get k).state = (s.links.get k).state := by
  unfold appendRecord reformReadyAll dropOldest
  dsimp only
  rw [onLinks_get]
  split
  · dsimp only
    rw [onLinks_get]
    split <;> rfl
  · rfl

end Receivers

namespace Ledger

variable {d : Link → Nat} {s : State} {l : Link}

theorem finishLogRead (h : Ledger (d + owedBy (some l)) s) (gap k : Nat) (start : BitVec 32) (words : List MemWord) :
    Ledger d (finishLogRead l gap k start words s) := by
  have hready : Ledger (d + owedBy (some l))
      (reformReady l (onReader l (fun r => { r with cursor := r.cursor + BitVec.ofNat 32 k }) s)) :=
    h.kept ⟨reformReady_state _ l, rfl, rfl, rfl⟩
  exact hready.replied _ _ _

theorem readNothing (h : Ledger (d + owedBy (some l)) s) : Ledger d (readNothing l s) :=
  (h.kept (t := clearGap l s) ⟨fun _ => rfl, rfl, rfl, rfl⟩).finishLogRead _ _ _ _

/-- The Arbiter's decision keeps the ledger, the memory being FREE. -/
theorem grant (hport : s.memory.port = none) (h : Ledger 0 s) : Ledger 0 (grant s) := by
  have hburst {u : State} (b : Burst) (hu : u.memory.port = none) (hlink : b.holder.link = none) (h : Ledger 0 u) :
      Ledger 0 { u with memory := { u.memory with port := some b } } :=
    h.kept ⟨fun _ => rfl, rfl, rfl, funext fun k => by simp [owes_granted hu, hlink]⟩
  rcases grant_cases s with ⟨-, hg⟩ | ⟨q, -, hg⟩ | ⟨l, q, -, -, hq, hg⟩ | hg <;> rw [hg]
  · exact hburst _ hport rfl h
  · unfold grantSegment
    dsimp only
    have hwithdrawn : Ledger 0 { s with memory := { s.memory with lensRequest := none } } :=
      h.kept ⟨fun _ => rfl, rfl, rfl, rfl⟩
    split
    · exact hburst _ hport rfl hwithdrawn
    · exact hwithdrawn.kept
        ((movedInScan_of_frame (continueTargets_frame _)).sameDebts (posts_continueTargets _))
  · have hserved : Ledger (0 + owedBy (some l))
        { s with memory := { s.memory with linkRequests := s.memory.linkRequests.set l none, lastServed := l } } := by
      refine h.moved (fun _ => rfl) fun k => ?_
      rw [owedReplies_eq, owedReplies_eq, Pi.add_apply, ← owes_cleared hq l k]
      dsimp only
      omega
    have hserve {u : State} (b : Burst) (hu : u.memory.port = none) (hlink : b.holder.link = some l)
        (h : Ledger (0 + owedBy (some l)) u) : Ledger 0 { u with memory := { u.memory with port := some b } } := by
      refine h.moved (fun _ => rfl) fun k => ?_
      rw [owedReplies_eq, owedReplies_eq, Pi.add_apply]
      dsimp only
      rw [owes_granted hu, hlink]
      omega
    unfold grantLink
    dsimp only
    split
    · split
      · exact hserved.readNothing
      · exact hserve _ hport rfl (hserved.kept (t := clearGap l _) ⟨fun _ => rfl, rfl, rfl, rfl⟩)
    · exact hserve _ hport rfl hserved
    · split
      · exact hserved.replied _ _ _
      · exact hserve _ hport rfl hserved
  · exact h

/-- The end of a burst keeps the ledger. -/
theorem endBurst {b : Burst} (hport : s.memory.port = some b) (h : Ledger 0 s) : Ledger 0 (endBurst b s) := by
  have hfreed {o : Option Link} (hlink : b.holder.link = o) :
      Ledger (0 + owedBy o) { s with memory := { s.memory with port := none } } := by
    refine h.moved (fun _ => rfl) fun k => ?_
    rw [owedReplies_eq, owedReplies_eq, Pi.add_apply, ← owes_freed hport k, hlink]
    dsimp only
    omega
  rcases endBurst_cases b s with ⟨hb, hend⟩ | ⟨hb, hend⟩ | ⟨c, lower, trim, isLive, hb, hend⟩ |
    ⟨l, gap, start, k, hb, hend⟩ | ⟨l, c, first, points, hb, hend⟩ | ⟨l, c, index, state, count, hb, hend⟩ <;>
    rw [hend]
  · exact hfreed (o := none) (by rw [hb]; rfl)
  · have hnone := hfreed (o := none) (by rw [hb]; rfl)
    refine stopIfDrained _ ?_
    exact hnone.kept ⟨appendRecord_state _, by simp, by simp, by simp⟩
  · have hnone := hfreed (o := none) (by rw [hb]; rfl)
    exact hnone.kept ((endSegment_movedInScan _ c trim isLive _).sameDebts (posts_endSegment _ _ _ _ _))
  · exact (hfreed (o := some l) (by rw [hb]; rfl)).finishLogRead _ _ _ _
  · have hlink := hfreed (o := some l) (by rw [hb]; rfl)
    have hentered : Ledger (0 + owedBy (some l)) (editTable c (Table.entered first points (tableLapse s))
        { s with memory := { s.memory with port := none } }) := hlink.kept ⟨fun _ => rfl, rfl, rfl, rfl⟩
    exact hentered.replied _ _ _
  · have hlink := hfreed (o := some l) (by rw [hb]; rfl)
    unfold endTableRead
    split
    · exact hlink.replied _ _ _
    · exact hlink.replied _ _ _

end Ledger

/-! ### The part's own events -/

/-- RESET# is released and the ledger stands. -/
def RepliesStand (s : State) : Prop := s.pins.resetAsserted = false ∧ Ledger 0 s

theorem RepliesStand.kept {s t : State} (h : RepliesStand s) (hpins : t.pins = s.pins) (hsame : SameDebts s t) :
    RepliesStand t :=
  ⟨by rw [hpins]; exact h.1, h.2.kept hsame⟩

theorem keptByEvents_repliesStand : KeptByEvents RepliesStand := by
  have hmatcher {s t : State} (hmoved : MovedInMatcher s t) (hposts : Posts s t) (h : RepliesStand s) :
      RepliesStand t :=
    h.kept (by rw [hmoved]) (hmoved.sameDebts hposts)
  have htiming {s t : State} (hmoved : t = { s with timing := t.timing, links := t.links }) (hposts : Posts s t)
      (h : RepliesStand s) : RepliesStand t :=
    h.kept (by rw [hmoved]) (sameDebts_of_timing s hmoved hposts)
  have hscan {s t : State} (hmoved : MovedInScan s t) (hposts : Posts s t) (h : RepliesStand s) : RepliesStand t :=
    h.kept (by rw [hmoved]) (hmoved.sameDebts hposts)
  exact
    { input := fun r f s h => htiming (onInput_frame s r f) (posts_onInput s r f) h
      lockLeft := fun s _ _ h => htiming (setRef_frame s _) (posts_setRef s _) h
      holdOver := fun s _ h => htiming (setRef_frame s _) (posts_setRef s _) h
      boundary := fun begun cause s _ h => ⟨by simpa using h.1, h.2.boundary begun cause⟩
      reachStopped := fun begun s _ h => ⟨by simpa using h.1, h.2.reachStopped begun⟩
      applyCommit := fun begun s _ _ h => ⟨by simpa using h.1, h.2.applyWhileStopped begun⟩
      applyTimecode := fun begun s _ h => ⟨by simpa using h.1, h.2.applyPendingTimecode begun⟩
      stray := fun e s h => hmatcher (strayReturn_movedInMatcher s e) (posts_strayReturn s e) h
      assign := fun e s _ h => hmatcher (assignReturn_movedInMatcher s e) (posts_assignReturn s e) h
      synth := fun e s h => hmatcher (handSynth_movedInMatcher s e) (posts_handSynth s e) h
      decide := fun e s h => hmatcher (decideTrigger_movedInMatcher s e) (posts_decideTrigger s e) h
      pulseEnd := fun e s h => hmatcher (onEyeTrigger_movedInMatcher s e _) (posts_of_links rfl) h
      close := fun n s h => hmatcher (closeSlot_movedInMatcher s n) (posts_closeSlot s n) h
      lapseEdit := fun s hdue h => by
        have hstage : s.plan.stage ≠ .committing := by
          intro hc
          simp [editLapseDue, hc] at hdue
        have hmoved := lapseEdit_frame s
        refine h.kept (by rw [hmoved]) ((posts_lapseEdit s).sameDebts ?_ (by rw [hmoved]) (by rw [hmoved]))
        rw [PlanUnit.committer_of_not_committing hstage]
        unfold lapseEdit
        dsimp only
        split <;> rfl
      lapseTable := fun c s _ h => by
        have hmoved := lapseTable_frame s c
        exact h.kept (by rw [hmoved])
          ((posts_lapseTable s c).sameDebts (by rw [hmoved]) (by rw [hmoved]) (by rw [hmoved]))
      grant := fun s hdue h => by
        have hport : s.memory.port = none := by
          rw [grantDue, Bool.and_eq_true] at hdue
          simpa using hdue.1
        exact ⟨by rw [grant_frame]; exact h.1, h.2.grant hport⟩
      burstEnd := fun b s hport _ h => by
        refine ⟨?_, h.2.endBurst hport⟩
        rcases endBurst_owner s b with hb | hb
        · rw [hb]; exact h.1
        · rw [hb]; simpa [endRecord] using h.1
      scanDue := fun s _ h => hscan (scanTimer_movedInScan s) (posts_scanTimer s) h
      conversions := fun s _ h => hscan (endConversions_movedInScan s) (posts_endConversions s) h }

end Sys2Proof.Machine
end

section
/-!
PROOFS. The replies owed at each command, and the invariant of the replies (R154, R168, R171).
-/

namespace Sys2Proof.Machine

/-- The link that the reply to a command of link `l` is due to: none for a broadcast (R172). -/
def dueTo (l : Link) : Addressing → Option Link
  | .unicast => some l
  | .broadcast => none

namespace Ledger

variable {d : Link → Nat} {s u : State} {l : Link} {cast : Addressing}

/-- A command of a ready link is one reply to give. -/
theorem taken (hready : Ready l s) (h : Ledger 0 s) : Ledger (owedBy (dueTo l cast)) (s.taken l cast) := by
  obtain ⟨-, hbusy⟩ := hready
  intro k
  have hk := h k
  rw [Pi.zero_apply, Nat.zero_add] at hk
  have howed : (s.taken l cast).owedReplies k = s.owedReplies k := rfl
  rw [howed]
  by_cases hkl : k = l
  · subst hkl
    have hne : (s.links.get k).state ≠ .executing := fun he => by simp [LinkState.busy, he] at hbusy
    rw [hk, if_neg hne]
    cases cast <;> simp [State.taken, dueTo, owedBy]
  · rw [taken_get_ne cast hkl, hk]
    cases cast <;> simp [dueTo, owedBy, Ne.symm hkl]

/-- A debt due to a link is the only one to it. -/
theorem owes_eq_zero (h : Ledger (d + owedBy (some l)) s) : s.memory.owes l = 0 := by
  have hl := h l
  rw [owedReplies_eq, Pi.add_apply, show owedBy (some l) l = 1 from if_pos rfl] at hl
  split at hl <;> omega

theorem answer (h : Ledger (d + owedBy (dueTo l cast)) s) (st : Status) (data : List Byte) :
    Ledger d (answer l cast st data s) := by
  cases cast with
  | unicast => exact h.replied _ _ _
  | broadcast => exact h

theorem answerDuring (h : Ledger (d + owedBy (dueTo l cast)) s) (before : State) (st : Status) (data : List Byte) :
    Ledger d (answerDuring before l cast st data s) := by
  cases cast with
  | unicast => exact h.replied _ _ _
  | broadcast => exact h

/-- A reply on a state with the same receivers and debts. -/
theorem replied_after (h : Ledger (owedBy (some l)) s) (hsame : SameDebts s u) (st : Status) (data : List Byte)
    (evt : Bool) : Ledger 0 (replyWith l st data evt u) :=
  replied (d := 0) (by rw [zero_add]; exact h.kept hsame) st data evt

theorem replied_same (h : Ledger (owedBy (some l)) s) (st : Status) (data : List Byte) : Ledger 0 (reply l st data s) :=
  h.replied_after (.refl s) _ _ _

/-- A request left waiting takes the reply to the command on itself. -/
theorem withRequest (h : Ledger (owedBy (some l)) s) (q : LinkRequest) : Ledger 0 (withRequest l q s) := by
  have hsum : Ledger (0 + owedBy (some l)) s := by rwa [zero_add]
  have hnone : s.memory.linkRequests.get l = none := by
    have hzero := hsum.owes_eq_zero
    rw [RecordMemory.owes] at hzero
    cases hq : s.memory.linkRequests.get l with
    | none => rfl
    | some q' => simp [hq] at hzero
  refine h.moved (fun _ => rfl) fun k => ?_
  have hmemory : (Machine.withRequest l q s).memory.owes k = s.memory.owes k + owedBy (some l) k := owes_requested hnone q k
  rw [owedReplies_eq, owedReplies_eq, hmemory, Pi.zero_apply]
  dsimp only [Machine.withRequest]
  omega

end Ledger

/-! ### What a command of the plan, the tables, the lenses or the status does with replies -/

/-- Between `s` and `t` no receiver changed its state, no source its debts, and no link its LOG_READY. -/
structure Quiet (s t : State) : Prop extends SameDebts s t where
  ready : ∀ l, holds (t.links.get l).events .logReady = holds (s.links.get l).events .logReady
  log : t.log = s.log

theorem Quiet.refl (s : State) : Quiet s s := ⟨.refl s, fun _ => rfl, rfl⟩

theorem quiet_of_links {s t : State} (hlinks : t.links = s.links) (hplan : t.plan.committer = s.plan.committer)
    (htc : t.tc.owed = s.tc.owed) (hmemory : t.memory.owes = s.memory.owes) (hlog : t.log = s.log) : Quiet s t :=
  ⟨⟨fun l => by rw [hlinks], hplan, htc, hmemory⟩, fun l => by rw [hlinks], hlog⟩

/-- A change of one link that leaves its receiver's state and its LOG_READY. -/
theorem quiet_onLink (s : State) (l : Link) {f : LinkState → LinkState} (hstate : ∀ x, (f x).state = x.state)
    (hready : ∀ x, holds (f x).events .logReady = holds x.events .logReady) : Quiet s (s.onLink l f) := by
  refine ⟨⟨fun k => ?_, rfl, rfl, rfl⟩, fun k => ?_, rfl⟩ <;> by_cases hk : k = l
  · rw [hk, onLink_get_self, hstate]
  · rw [onLink_get_ne _ _ hk]
  · rw [hk, onLink_get_self, hready]
  · rw [onLink_get_ne _ _ hk]

/-- What a command of link `l` does but for its own blocks: it is answered, its commit waits, or it leaves a request. -/
inductive CommandMove (l : Link) (s : State) : State → Prop
  | replied {u : State} : Quiet s u → ∀ st data evt, CommandMove l s (replyWith l st data evt u)
  | committing : s.plan.committer = none → s.plan.editor = some l →
      CommandMove l s { s with plan := { s.plan with stage := .committing, lapse := none } }
  | requested {u : State} : Quiet s u → ∀ q, CommandMove l s (withRequest l q u)

namespace CommandMove

variable {s : State}

theorem same (l : Link) (st : Status) (data : List Byte) : CommandMove l s (reply l st data s) :=
  .replied (.refl s) _ _ _

theorem takePlan {i : Instr} {m : Message} (ho : commandOwner i = .plan) (hm : i.message = some m) :
    CommandMove m.l s (takeCommand i s) := by
  cases i with
  | planSet l field value =>
    cases hm
    simp only [takeCommand, takePlanSet]
    split
    · exact same _ _ _
    split
    · exact same _ _ _
    · next hstage =>
      refine .replied ?_ _ _ _
      exact quiet_of_links rfl (by simp [PlanUnit.committer, hstage]) rfl rfl rfl
    · next hstage =>
      split
      · refine .replied ?_ _ _ _
        exact quiet_of_links rfl (by simp [PlanUnit.committer, hstage]) rfl rfl rfl
      · exact same _ _ _
  | planCommit l =>
    cases hm
    simp only [takeCommand, takePlanCommit]
    split
    · exact same _ _ _
    · exact same _ _ _
    next hstage =>
    have hnone : s.plan.committer = none := PlanUnit.committer_of_not_committing (by rw [hstage]; decide)
    split
    · next heditor =>
      split
      · refine .replied ?_ _ _ _
        exact quiet_of_links rfl (by simp [PlanUnit.committer, hstage]) rfl rfl rfl
      split
      · have hposts := (posts_applyStaged s false).trans (posts_settleReference (applyStaged false s) s.plan)
        have happlied : Quiet s (settleReference s.plan (applyStaged false s)) :=
          ⟨hposts.sameDebts (by simp [hnone]) (by simp) (by simp), hposts.2, by simp⟩
        exact .replied happlied _ _ _
      · exact .committing hnone heditor
    · exact same _ _ _
  | planDiscard l =>
    cases hm
    simp only [takeCommand, takePlanDiscard]
    split
    · exact same _ _ _
    · exact same _ _ _
    · next hstage =>
      split
      · refine .replied ?_ _ _ _
        exact quiet_of_links rfl (by simp [PlanUnit.committer, PlanUnit.freed, hstage]) rfl rfl rfl
      · exact same _ _ _
  | _ => cases ho

theorem takeTable {i : Instr} {m : Message} (ho : commandOwner i = .table) (hm : i.message = some m) :
    CommandMove m.l s (takeCommand i s) := by
  rcases takeTable_moves ho hm s with ⟨u, st, data, hmove, htake⟩ | hrequest
  · rw [htake]
    have hquiet : Quiet s u := by cases hmove <;> exact quiet_of_links rfl rfl rfl rfl rfl
    exact .replied hquiet _ _ _
  · generalize takeCommand i s = t at hrequest ⊢
    cases hrequest with
    | entry c first points _ _ _ _ =>
      have hquiet : Quiet s (editTable c (fun x => { x with lapse := none }) s) := quiet_of_links rfl rfl rfl rfl rfl
      exact .requested hquiet _
    | read c index => exact .requested (.refl s) _

theorem setScanMode_quiet (mode : ScanMode) (s : State) : Quiet s (setScanMode mode s) := by
  unfold setScanMode
  split
  · exact .refl s
  · dsimp only
    split <;> exact quiet_of_links rfl rfl rfl rfl rfl
  · exact quiet_of_links rfl rfl rfl rfl rfl
  · exact quiet_of_links rfl rfl rfl rfl rfl

theorem setDrive_quiet (c : ChannelId) (on : Bool) (s : State) : Quiet s (setDrive c on s) := by
  unfold setDrive
  dsimp only
  split
  · exact .refl s
  · exact quiet_of_links rfl rfl rfl rfl rfl

theorem takeLens {i : Instr} {m : Message} (ho : commandOwner i = .lens) (hm : i.message = some m) :
    CommandMove m.l s (takeCommand i s) := by
  have haxis (x : Axis) (f : AxisState → AxisState) : Quiet s (onAxis x f s) := quiet_of_links rfl rfl rfl rfl rfl
  have hchannel (c : ChannelId) (f : Channel → Channel) : Quiet s (onChannel c f s) :=
    quiet_of_links rfl rfl rfl rfl rfl
  cases i with
  | lensSource l axis source =>
    cases hm
    simp only [takeCommand, takeLensSource]
    split
    · exact .replied (haxis _ _) _ _ _
    · exact same _ _ _
  | lensDemand l axis value =>
    cases hm
    simp only [takeCommand, takeLensDemand]
    split
    · exact same _ _ _
    · split
      · exact .replied (haxis _ _) _ _ _
      · exact same _ _ _
  | lensTrim l eye axis trim =>
    cases hm
    simp only [takeCommand, takeLensTrim]
    split
    · exact same _ _ _
    · split
      · exact .replied (hchannel _ _) _ _ _
      · exact same _ _ _
  | lensTol l axis tolerance settle =>
    cases hm
    simp only [takeCommand, takeLensTol]
    split
    · exact same _ _ _
    · split
      · exact same _ _ _
      · exact .replied (haxis _ _) _ _ _
  | lensDrive l eye axis drive =>
    cases hm
    simp only [takeCommand, takeLensDrive]
    split
    · exact .replied (setDrive_quiet _ _ s) _ _ _
    · exact same _ _ _
  | lensRun l mode =>
    cases hm
    simp only [takeCommand, takeLensRun]
    split
    · exact .replied (setScanMode_quiet _ s) _ _ _
    · exact same _ _ _
  | _ => cases ho

theorem takeStatus {i : Instr} {m : Message} (ho : commandOwner i = .status) (hm : i.message = some m) :
    CommandMove m.l s (takeCommand i s) := by
  cases i with
  | planGet l which =>
    cases hm
    simp only [takeCommand, takePlanGet]
    split <;> exact same _ _ _
  | logStatus l =>
    cases hm
    simp only [takeCommand, takeLogStatus]
    split <;> exact same _ _ _
  | eventMask l mask =>
    cases hm
    simp only [takeCommand, takeEventMask]
    split
    · exact same _ _ _
    · refine .replied ?_ _ _ _
      exact quiet_onLink s l (by intro; rfl) (by intro; rfl)
  | eventRead l =>
    cases hm
    simp only [takeCommand, takeEventRead]
    refine .replied ?_ _ _ _
    exact quiet_onLink s l (by intro; rfl) fun x => by simp [holds_and_mask]
  | timingStatus l => cases hm; exact same _ _ _
  | pairStatus l => cases hm; exact same _ _ _
  | tcGet l => cases hm; exact same _ _ _
  | identify l => cases hm; exact same _ _ _
  | lensStatus l => cases hm; exact same _ _ _
  | _ => simp [Instr.message, commandOwner] at hm ho

/-- Only the run commands and TC_SET may be broadcast (R172). -/
theorem unicast_of_message {i : Instr} {m : Message} (hm : i.message = some m)
    (howner : commandOwner i ≠ .run ∧ commandOwner i ≠ .timecode) : m.cast = .unicast := by
  cases hcast : m.cast with
  | unicast => rfl
  | broadcast =>
    have hbroadcasts := broadcasts_of_message hm hcast
    cases i with
    | run _ _ _ | stop _ _ | restart _ _ | tcSet _ _ _ _ _ => simp [commandOwner] at howner
    | _ => cases hbroadcasts

end CommandMove

namespace Ledger

variable {d : Link → Nat} {s u : State} {l : Link} {cast : Addressing}

/-- The moves of a command leave no reply to give but those its sources hold. -/
theorem commandMove {t : State} (h : Ledger (owedBy (some l)) s) (hmove : CommandMove l s t) : Ledger 0 t := by
  cases hmove with
  | replied hquiet st data evt => exact h.replied_after hquiet.toSameDebts st data evt
  | committing hnone heditor =>
    refine h.moved (fun _ => rfl) fun k => ?_
    have hwaiting : ({ s.plan with stage := .committing, lapse := none } : PlanUnit).committer = some l := by
      simp [PlanUnit.committer, heditor]
    rw [owedReplies_eq, owedReplies_eq, hnone, hwaiting, Pi.zero_apply, owedBy_none]
    dsimp only
    omega
  | requested hquiet q => exact (h.kept hquiet.toSameDebts).withRequest q

/-! ### TC_SET and the log commands -/

theorem takeTcSet (h : Ledger (owedBy (dueTo l cast)) s) (value : Timecode) (base drop : Byte) :
    Ledger 0 (takeTcSet l cast value base drop s) := by
  have hdue : Ledger (0 + owedBy (dueTo l cast)) s := by rwa [zero_add]
  unfold Machine.takeTcSet
  split
  · exact hdue.answer _ _
  · next dropMode _ =>
    split
    · split
      · exact hdue.answer _ _
      · next hwaiting =>
        split
        · have hset : Ledger (0 + owedBy (dueTo l cast))
              { s with tc := { s.tc with current := value, base := base.toNat, drop := dropMode } } :=
            hdue.kept ⟨fun _ => rfl, rfl, rfl, rfl⟩
          exact hset.answer _ _
        · refine h.moved (fun _ => rfl) fun k => ?_
          have hnone : s.tc.owed = none := by
            simp only [TimecodeCounter.owed]
            cases hw : s.tc.waiting with
            | none => rfl
            | some w => simp [hw] at hwaiting
          rw [owedReplies_eq, owedReplies_eq, hnone, Pi.zero_apply, owedBy_none]
          cases cast <;> simp only [TimecodeCounter.owed, dueTo] <;> omega
    · exact hdue.answer _ _

theorem takeLog {i : Instr} {m : Message} (ho : commandOwner i = .log) (hm : i.message = some m)
    (h : Ledger (owedBy (some m.l)) s) : Ledger 0 (takeCommand i s) := by
  cases i with
  | logAttach l =>
    cases hm
    refine h.replied_after ?_ _ _ _
    exact ⟨reformReady_state _ _, rfl, rfl, rfl⟩
  | logDetach l =>
    cases hm
    simp only [takeCommand, takeLogDetach]
    split
    · refine h.replied_after ?_ _ _ _
      exact ⟨reformReady_state _ _, rfl, rfl, rfl⟩
    · exact h.replied_same _ _
  | logRead l maximum =>
    cases hm
    simp only [takeCommand, takeLogRead]
    split
    · exact h.replied_same _ _
    · split
      · exact h.replied_same _ _
      · split
        · exact readNothing (d := 0) (by rwa [zero_add])
        · exact h.withRequest _
  | _ => cases ho

/-! ### RUN, STOP and RESTART -/

theorem takeBoundary (begun : State) (cause : Cause) (h : Ledger 0 s) : Ledger 0 (takeBoundary begun cause s) := by
  unfold Machine.takeBoundary
  split
  · exact h.boundary begun cause
  · exact h

theorem takeRun (h : Ledger (owedBy (dueTo l cast)) s) (start : Option (BitVec 32)) : Ledger 0 (takeRun l cast start s) := by
  have hdue : Ledger (0 + owedBy (dueTo l cast)) s := by rwa [zero_add]
  unfold Machine.takeRun
  split
  · have hstarted : Ledger (0 + owedBy (dueTo l cast)) (startRun start s) := by
      have hmoved := startRun_frame s start
      refine hdue.kept ((posts_startRun s start).sameDebts ?_ ?_ ?_) <;> rw [hmoved]
      rfl
    have hanswered := hstarted.answerDuring s .ok []
    dsimp only
    split
    · exact hanswered.takeBoundary s .schedule
    · exact hanswered
  · exact hdue.answer _ _

theorem takeStop (h : Ledger (owedBy (dueTo l cast)) s) : Ledger 0 (takeStop l cast s) := by
  have hdue : Ledger (0 + owedBy (dueTo l cast)) s := by rwa [zero_add]
  unfold Machine.takeStop
  split
  · have hdraining : Ledger (0 + owedBy (dueTo l cast))
        { s with timing := { s.timing with run := .draining, rephase := none } } := hdue.kept ⟨fun _ => rfl, rfl, rfl, rfl⟩
    exact (hdraining.stopIfDrained s).answerDuring s .ok []
  · exact hdue.answer _ _

end Ledger

/-- The link whose LOG_READ a RESTART cuts (R104, R159). -/
def RecordMemory.cutReader (m : RecordMemory) : Option Link :=
  match m.port with
  | some ⟨.logRead l _ _ _, _, _, _⟩ => some l
  | _ => none

theorem owes_restarted (m : RecordMemory) (k : Link) : m.restarted.owes k + owedBy m.cutReader k = m.owes k := by
  cases hport : m.port with
  | none => simp [RecordMemory.restarted, RecordMemory.owes, RecordMemory.linkServed, RecordMemory.cutReader, hport]
  | some b =>
    obtain ⟨holder, n, left, got⟩ := b
    cases holder <;>
      simp [RecordMemory.restarted, RecordMemory.owes, RecordMemory.linkServed, RecordMemory.cutReader, hport,
        Burst.restartCuts, Holder.link, Option.filter]

theorem restartBlocks_state (s : State) (k : Link) :
    ((restartBlocks s).links.get k).state = (s.links.get k).state := by
  have hposted (u : State) : ((recomputeRef (reformReadyAll u)).links.get k).state = (u.links.get k).state := by
    rw [recomputeRef, (posts_setRef (reformReadyAll u) _).state k, reformReadyAll, onLinks_get]
  unfold restartBlocks
  dsimp only
  split
  · rw [hposted]
  · rw [(posts_postAll (by simp) _).state k, hposted]

namespace Ledger

variable {d : Link → Nat} {s : State} {l : Link} {cast : Addressing}

theorem abortCommit {before : State} (h : Ledger (d + owedBy before.plan.committer) s) :
    Ledger d (abortCommit before s) := by
  unfold Machine.abortCommit
  split
  · next l hl =>
    rw [hl] at h
    exact h.replied _ _ _
  · next hnone =>
    rw [hnone] at h
    exact h

theorem answerCutRead {before : State} (h : Ledger (d + owedBy before.memory.cutReader) s) :
    Ledger d (answerCutRead before s) := by
  unfold Machine.answerCutRead
  unfold RecordMemory.cutReader at h
  split
  · next l gap start k n left got hport =>
    rw [hport] at h
    exact h.replied _ _ _
  · next hnot =>
    split at h
    · next hport => exact absurd hport (hnot _ _ _ _ _ _ _)
    · exact h

theorem takeRestart (h : Ledger (owedBy (dueTo l cast)) s) : Ledger 0 (takeRestart l cast s) := by
  have hmoved := restartBlocks_frame s
  have hrestarted : Ledger (((0 + owedBy (dueTo l cast)) + owedBy s.memory.cutReader) + owedBy s.tc.owed +
      owedBy s.plan.committer) (restartBlocks s) := by
    refine h.moved (restartBlocks_state s) fun k => ?_
    have hplan : (restartBlocks s).plan.committer = none := by rw [hmoved]; rfl
    have htc : (restartBlocks s).tc.owed = none := by rw [hmoved]; rfl
    have hmemory : (restartBlocks s).memory = s.memory.restarted := by rw [hmoved]
    rw [owedReplies_eq, owedReplies_eq, hplan, htc, hmemory, ← owes_restarted s.memory k]
    simp only [Pi.add_apply, Pi.zero_apply, owedBy_none]
    omega
  exact ((hrestarted.abortCommit.answerOwed s .abrt).answerCutRead).answerDuring s .ok []

/-- A unicast command's reply is due to its link. -/
theorem unicast {i : Instr} {m : Message} (hm : i.message = some m)
    (howner : commandOwner i ≠ .run ∧ commandOwner i ≠ .timecode) (h : Ledger (owedBy (dueTo m.l m.cast)) s) :
    Ledger (owedBy (some m.l)) s := by
  rwa [CommandMove.unicast_of_message hm howner] at h

/-- A command of a ready link leaves no reply to give but those its sources hold. -/
theorem takeCommand {i : Instr} {m : Message} (hm : i.message = some m) (h : Ledger (owedBy (dueTo m.l m.cast)) s) :
    Ledger 0 (takeCommand i s) := by
  cases howner : commandOwner i with
  | run =>
    cases i with
    | run l cast start => cases start <;> cases hm <;> exact takeRun h _
    | stop l cast => cases hm; exact takeStop h
    | restart l cast => cases hm; exact takeRestart h
    | _ => cases howner
  | timecode =>
    cases i with
    | tcSet l cast value base drop => cases hm; exact takeTcSet h value base drop
    | _ => cases howner
  | plan => exact (h.unicast hm (by simp [howner])).commandMove (.takePlan howner hm)
  | log => exact (h.unicast hm (by simp [howner])).takeLog howner hm
  | table => exact (h.unicast hm (by simp [howner])).commandMove (.takeTable howner hm)
  | lens => exact (h.unicast hm (by simp [howner])).commandMove (.takeLens howner hm)
  | status => exact (h.unicast hm (by simp [howner])).commandMove (.takeStatus howner hm)

end Ledger

/-! ### The invariant of the replies -/

/-- A command leaves the straps and RESET# as they are. -/
theorem keptByLens_released : KeptByLens fun b _ _ => b = false where
  table _ _ _ _ _ h := h
  editTable _ _ _ _ _ _ h := h
  begun _ _ _ _ h := h
  due _ _ _ _ h := h
  targets _ _ _ _ _ h := h
  demands _ _ _ _ _ _ _ h := h
  completed _ _ _ _ _ h := h
  axis _ _ _ _ _ _ h := h
  trim _ _ _ _ _ _ _ h := h
  drive _ _ _ _ _ _ h := h
  started _ _ _ _ _ _ h := h
  stopped _ _ _ _ h := h
  mode _ _ _ _ _ _ h := h

theorem takeCommand_released (i : Instr) {s : State} (h : s.pins.resetAsserted = false) :
    (takeCommand i s).pins.resetAsserted = false :=
  keptByLens_released.keptByRuns.takeCommand i h

theorem RepliesStand.replyInv {s : State} (h : RepliesStand s) : ReplyInv s :=
  (replyInv_iff s).2 ⟨h.2, fun hreset => by rw [h.1] at hreset; cases hreset⟩

theorem ReplyInv.repliesStand {s : State} (hpins : s.pins.resetAsserted = false) (h : ReplyInv s) : RepliesStand s :=
  ⟨hpins, ((replyInv_iff s).1 h).1⟩

theorem accessWord_owes (s : State) : (accessWord s).memory.owes = s.memory.owes := by
  rcases accessWord_memory_cases s with hsame | ⟨b, a, hport, -, -, -, ⟨d, -, hwrote⟩ | ⟨-, hread⟩⟩
  · rw [hsame]
  · rw [hwrote]
    funext k
    simp [RecordMemory.owes, RecordMemory.linkServed, RecordMemory.wrote, hport]
    rfl
  · rw [hread]
    funext k
    simp [RecordMemory.owes, RecordMemory.linkServed, RecordMemory.readOne, hport]
    rfl

theorem passTick_sameDebts (s : State) : SameDebts s (passTick s) := by
  have hmemory : (passTick s).memory.owes = s.memory.owes := accessWord_owes s
  refine ⟨fun k => ?_, ?_, ?_, hmemory⟩ <;> rw [passTick_frame]

theorem keptByParts_replyInv : KeptByParts ReplyInv where
  queue s pending ties h := h
  reset s _ := by
    refine (replyInv_iff _).2 ⟨fun l => ?_, fun _ => rfl⟩
    cases l <;> rfl
  release sel rate s hpins h := by
    obtain ⟨hledger, hport⟩ := (replyInv_iff s).1 h
    refine (replyInv_iff _).2 ⟨hledger.kept ⟨fun _ => rfl, rfl, rfl, funext fun k => ?_⟩, fun hreset => by cases hreset⟩
    simp [releaseReset, RecordMemory.owes, RecordMemory.linkServed, hport hpins, Holder.link, Burst.sweep]
    rfl
  receiver l s t hmove h := by
    obtain ⟨x, rfl, hstate, -⟩ := hmove
    obtain ⟨hledger, hport⟩ := (replyInv_iff s).1 h
    refine (replyInv_iff _).2 ⟨fun k => ?_, hport⟩
    have hk := hledger k
    have howed : ({ s with links := s.links.set l x } : State).owedReplies k = s.owedReplies k := rfl
    rw [howed, hk]
    by_cases hkl : k = l
    · subst hkl
      simp [hstate]
    · simp [PerLink.get_set_ne _ _ hkl]
  command i m s hm hready h := by
    have htaken : Ledger (owedBy (dueTo m.l m.cast)) (s.taken m.l m.cast) := ((replyInv_iff s).1 h).1.taken hready
    exact RepliesStand.replyInv
      ⟨takeCommand_released (s := s.taken m.l m.cast) i hready.1, htaken.takeCommand hm⟩
  event i s hpins h := (keptByEvents_repliesStand.event i (h.repliesStand hpins)).replyInv
  tick s hpins _ _ h := by
    refine RepliesStand.replyInv ((h.repliesStand hpins).kept ?_ (passTick_sameDebts s))
    rw [passTick_frame]

/-- Settles O56. -/
theorem everyStepKeepsRepliesOwed : Obligations.EveryStepKeepsRepliesOwed :=
  fun _ _ hstep => keptByParts_replyInv.step hstep

end Sys2Proof.Machine
end

section
/-!
PROOFS. The calibration tables and the entries in flight (R110, R114 to R119).
-/

namespace Sys2Proof.Machine

/-! ### Tables -/

section TableEdits

variable {t : Table}

theorem tableInv_begun (l : Link) (lapse : Option Time) (h : tableInv t) : tableInv (t.begun l lapse) :=
  ⟨Nat.zero_le _, h.2.1, by simp [Table.begun], fun _ => rfl, fun hv => (by cases hv)⟩

theorem tableInv_invalid (h : tableInv t) : tableInv (t.ended .invalid) :=
  ⟨h.1, h.2.1, by simp [Table.ended], fun hl => (by cases hl), fun hv => (by cases hv)⟩

/-- A loaded table that passes its check has 2 breakpoints or more, and they rise (R117). -/
theorem rising_of_fault_eq_none (h : t.fault = none) :
    2 ≤ t.count ∧ ∀ i, i + 1 < t.count → t.demandAt i < t.demandAt (i + 1) := by
  unfold Table.fault at h
  split at h
  · cases h
  · next hcount =>
    refine ⟨Nat.not_lt.1 hcount, fun i hi => ?_⟩
    have hpass := List.find?_eq_none.1 (Option.map_eq_none_iff.1 h) (i + 1) (List.mem_range.2 hi)
    simpa [Table.offends] using hpass

theorem tableInv_valid (h : tableInv t) (hfault : t.fault = none) : tableInv (t.ended .valid) :=
  ⟨h.1, h.2.1, by simp [Table.ended], fun hl => (by cases hl), fun _ => rising_of_fault_eq_none hfault⟩

theorem tableInv_faulted (h : tableInv t) (hvalid : t.state = .valid) : tableInv { t with state := .faulted } := by
  obtain ⟨hcount, hlength, hloader, hlapse, -⟩ := h
  have hnone : t.loader.isSome ≠ true := fun hl => by
    rw [hloader.2 hl] at hvalid
    cases hvalid
  refine ⟨hcount, hlength, ⟨fun hs => (by cases hs), fun hl => absurd hl hnone⟩, fun hl => ?_, fun hv => (by cases hv)⟩
  rw [hlapse hl] at hvalid
  cases hvalid

theorem length_writeDemands (first : Nat) (points : List (BitVec 16 × BitVec 16)) (demands : List (BitVec 16)) :
    (writeDemands first points demands).length = demands.length := by
  induction points generalizing first demands with
  | nil => rfl
  | cons p ps ih => rw [writeDemands, ih, List.length_set]

theorem tableInv_entered {first : Nat} {points : List (BitVec 16 × BitVec 16)} {lapse : Option Time} (h : tableInv t)
    (hloading : t.state = .loading) (hfits : first + points.length ≤ 32) :
    tableInv (t.entered first points lapse) := by
  obtain ⟨hcount, hlength, hloader, -, -⟩ := h
  refine ⟨Nat.max_le.2 ⟨hcount, hfits⟩, ?_, hloader, fun _ => hloading, fun hv => ?_⟩
  · rw [Table.entered, length_writeDemands, hlength]
  · have hvalid : t.state = .valid := hv
    rw [hloading] at hvalid
    cases hvalid

theorem tableInv_unlapsed (h : tableInv t) : tableInv { t with lapse := none } :=
  ⟨h.1, h.2.1, h.2.2.1, fun hl => (by cases hl), h.2.2.2.2⟩

end TableEdits

/-! ### Entries in flight -/

/-- A TABLE_ENTRY of link `l` is waiting or under way. -/
def EntryInFlight (m : RecordMemory) (l : Link) (c : ChannelId) (first : Nat) (points : List (BitVec 16 × BitVec 16)) :
    Prop :=
  m.linkRequests.get l = some (.tableEntry c first points) ∨
    ∃ n left got, m.port = some ⟨.tableEntry l c first points, n, left, got⟩

/-- Between `m` and `m'` no work for a link began: every request and every burst of a link stood before. -/
def NoNewWork (m m' : RecordMemory) : Prop :=
  (∀ l q, m'.linkRequests.get l = some q → m.linkRequests.get l = some q) ∧
    ∀ h n left got, m'.port = some ⟨h, n, left, got⟩ → h.link.isSome →
      ∃ n' left' got', m.port = some ⟨h, n', left', got'⟩

theorem NoNewWork.entry {m m' : RecordMemory} (h : NoNewWork m m') {l : Link} {c : ChannelId} {first : Nat}
    {points : List (BitVec 16 × BitVec 16)} (hentry : EntryInFlight m' l c first points) :
    EntryInFlight m l c first points := by
  rcases hentry with hrequest | ⟨n, left, got, hport⟩
  · exact .inl (h.1 _ _ hrequest)
  · exact .inr (h.2 _ _ _ _ hport rfl)

theorem tableInv_iff (s : State) :
    TableInv s ↔ (∀ c, tableInv (channelGet s.lens.tables c)) ∧
      ∀ l c first points, EntryInFlight s.memory l c first points → entryFits s l c first points := by
  constructor
  · rintro ⟨htables, hrequests, hport⟩
    refine ⟨htables, fun l c first points h => ?_⟩
    rcases h with h | ⟨n, left, got, h⟩
    · exact hrequests l c first points h
    · exact hport l c first points n left got h
  · rintro ⟨htables, hflight⟩
    exact ⟨htables, fun l c first points h => hflight l c first points (.inl h),
      fun l c first points n left got h => hflight l c first points (.inr ⟨n, left, got, h⟩)⟩

section NoNewWork

variable {m m' : RecordMemory}

theorem noNewWork_of_eq (h : m' = m) : NoNewWork m m' := by
  subst h
  exact ⟨fun _ _ h => h, fun _ n left got h _ => ⟨n, left, got, h⟩⟩

theorem noNewWork_of_port (hrequests : m'.linkRequests = m.linkRequests) (hport : m'.port = m.port) :
    NoNewWork m m' :=
  ⟨fun l q h => by rwa [hrequests] at h, fun _ n left got h _ => ⟨n, left, got, by rwa [hport] at h⟩⟩

theorem noNewWork_freed (m : RecordMemory) : NoNewWork m { m with port := none } :=
  ⟨fun _ _ h => h, fun _ _ _ _ h => nomatch h⟩

/-- A grant to the Pair Matcher or the Lens Control Unit. -/
theorem noNewWork_granted (m : RecordMemory) {b : Burst} (h : b.holder.link = none) :
    NoNewWork m { m with port := some b } := by
  refine ⟨fun _ _ h => h, fun _ _ _ _ hport hlink => ?_⟩
  cases hport
  rw [h] at hlink
  cases hlink

theorem noNewWork_cleared (m : RecordMemory) (l last : Link) :
    NoNewWork m { m with linkRequests := m.linkRequests.set l none, lastServed := last } := by
  refine ⟨fun k q h => ?_, fun _ n left got h _ => ⟨n, left, got, h⟩⟩
  by_cases hk : k = l
  · subst hk
    simp at h
  · simpa [PerLink.get_set_ne _ _ hk] using h

theorem noNewWork_scanAbandoned (m : RecordMemory) : NoNewWork m m.scanAbandoned := by
  refine ⟨fun _ _ h => h, fun h n left got hport hlink => ?_⟩
  obtain ⟨⟨holder, n', left', got'⟩, hb, horphan⟩ := Option.map_eq_some_iff.1 hport
  refine ⟨n', left', got', ?_⟩
  cases holder with
  | segment c lower trim isLive =>
    cases horphan
    cases hlink
  | _ =>
    cases horphan
    exact hb

theorem noNewWork_frameScan (s : State) : NoNewWork s.memory (frameScan s).memory := by
  by_cases h : s.lens.mode = .frame
  · rw [frameScan_of_frame s h]
    dsimp only
    split
    · exact noNewWork_scanAbandoned s.memory
    · exact noNewWork_of_eq rfl
  · rw [frameScan_of_not_frame s h]
    exact noNewWork_of_eq rfl

theorem noNewWork_restarted (m : RecordMemory) : NoNewWork m m.restarted :=
  ⟨fun _ _ h => h, fun _ n left got h _ => ⟨n, left, got, (Option.filter_eq_some_iff.1 h).1⟩⟩

theorem noNewWork_passTick (s : State) : NoNewWork s.memory (passTick s).memory := by
  have hmemory : (passTick s).memory = (accessWord s).memory := rfl
  rw [hmemory]
  rcases accessWord_memory_cases s with h | ⟨b, a, hport, -, -, -, ⟨d, -, h⟩ | ⟨-, h⟩⟩ <;> rw [h]
  · exact noNewWork_of_eq rfl
  all_goals
    refine ⟨fun _ _ h => h, fun holder n left got hb _ => ?_⟩
    cases hb
    exact ⟨_, _, _, hport⟩

theorem MovedInScan.noNewWork {s t : State} (h : MovedInScan s t) : NoNewWork s.memory t.memory := by
  have hmemory : t.memory = { s.memory with lensRequest := t.memory.lensRequest } := by
    rw [h]
  rw [hmemory]
  exact noNewWork_of_port rfl rfl

end NoNewWork

/-! ### Moves of the tables -/

namespace TableInv

variable {s t : State}

/-- No table moved, and no work for a link began. -/
theorem of_work (h : TableInv s) (htables : t.lens.tables = s.lens.tables) (hwork : NoNewWork s.memory t.memory) :
    TableInv t := by
  obtain ⟨hok, hflight⟩ := (tableInv_iff s).1 h
  refine (tableInv_iff t).2 ⟨fun c => by rw [htables]; exact hok c, fun l c first points hentry => ?_⟩
  rw [entryFits, htables]
  exact hflight l c first points (hwork.entry hentry)

theorem of_frame (h : TableInv s) (htables : t.lens.tables = s.lens.tables) (hmemory : t.memory = s.memory) :
    TableInv t :=
  h.of_work htables (noNewWork_of_eq hmemory)

/-- One table moved, and no entry for it is in flight. -/
theorem onTable (h : TableInv s) (c : ChannelId) {f : Table → Table} (hf : tableInv (f (channelGet s.lens.tables c)))
    (hc : ∀ l first points, ¬ EntryInFlight s.memory l c first points) : TableInv (onTable c f s) := by
  obtain ⟨hok, hflight⟩ := (tableInv_iff s).1 h
  have hother {d : ChannelId} (hd : d ≠ c) :
      channelGet (Machine.onTable c f s).lens.tables d = channelGet s.lens.tables d :=
    channelGet_set_ne s.lens.tables _ hd
  refine (tableInv_iff _).2 ⟨fun d => ?_, fun l d first points hentry => ?_⟩
  · by_cases hd : d = c
    · rw [hd, onTable_get_self]
      exact hf
    · rw [hother hd]
      exact hok d
  · by_cases hd : d = c
    · rw [hd] at hentry
      exact absurd hentry (hc l first points)
    · rw [entryFits, hother hd]
      exact hflight l d first points hentry

theorem editTable (h : TableInv s) (c : ChannelId) {f : Table → Table} (hf : tableInv (f (channelGet s.lens.tables c)))
    (hc : ∀ l first points, ¬ EntryInFlight s.memory l c first points) : TableInv (editTable c f s) := by
  obtain ⟨hok, hflight⟩ := (tableInv_iff _).1 (h.onTable c hf hc)
  exact (tableInv_iff _).2 ⟨hok, hflight⟩

/-- Record Memory's entries are for LOADING tables with the timer stopped. -/
theorem no_entry (h : TableInv s) {c : ChannelId} (hc : ∀ l, (channelGet s.lens.tables c).loader = some l →
    (channelGet s.lens.tables c).state = .loading → (channelGet s.lens.tables c).lapse = none →
      ∀ first points, ¬ EntryInFlight s.memory l c first points) (l : Link) (first : Nat)
    (points : List (BitVec 16 × BitVec 16)) : ¬ EntryInFlight s.memory l c first points := by
  intro hentry
  obtain ⟨hstate, hloader, hlapse, -⟩ := ((tableInv_iff s).1 h).2 l c first points hentry
  exact hc l hloader hstate hlapse first points hentry

theorem completeScan (h : TableInv s) : TableInv (completeScan s) := by
  cases hscan : s.lens.scan with
  | none => rwa [completeScan_of_none hscan]
  | some sc =>
    obtain ⟨hok, hflight⟩ := (tableInv_iff s).1 h
    have htable (c : ChannelId) : channelGet (Machine.completeScan s).lens.tables c =
        if s.lens.faults sc c then { channelGet s.lens.tables c with state := .faulted }
        else channelGet s.lens.tables c := by
      rw [completeScan_lens hscan, completed_tables, settleFaults_table]
    have hvalid {c : ChannelId} (hf : s.lens.faults sc c = true) : (channelGet s.lens.tables c).state = .valid := by
      simpa using (Bool.and_eq_true_iff.1 hf).2
    refine (tableInv_iff _).2 ⟨fun c => ?_, fun l c first points hentry => ?_⟩
    · rw [htable]
      split
      · next hf => exact tableInv_faulted (hok c) (hvalid hf)
      · exact hok c
    · rw [completeScan_memory] at hentry
      have hfits := hflight l c first points hentry
      rw [entryFits, htable, if_neg fun hf => ?_]
      · exact hfits
      · have hloading := hfits.1
        rw [hvalid hf] at hloading
        cases hloading

theorem requestSegment (h : TableInv s) (c : ChannelId) (rest : List ChannelId) :
    TableInv (requestSegment c rest s) :=
  h.of_work rfl (noNewWork_of_port rfl rfl)

theorem continueTargets (h : TableInv s) : TableInv (continueTargets s) :=
  continueTargets_rule (fun c rest _ => h.requestSegment c rest) h.completeScan h

theorem nextSegment (h : TableInv s) (cs : List ChannelId) : TableInv (nextSegment cs s) :=
  nextSegment_rule (fun c rest _ => h.requestSegment c rest) h.completeScan

theorem endSegment (h : TableInv s) (c : ChannelId) (trim : Int) (isLive : Bool) (words : List MemWord) :
    TableInv (endSegment c trim isLive words s) := by
  unfold Machine.endSegment
  split
  · split
    · exact continueTargets (s := onScan _ s) h
    · exact continueTargets (s := onScan _ s) h
  · exact h

theorem grant (h : TableInv s) : TableInv (grant s) := by
  rcases grant_cases s with ⟨-, hg⟩ | ⟨q, -, hg⟩ | ⟨l, q, -, -, hq, hg⟩ | hg <;> rw [hg]
  · exact h.of_work rfl (noNewWork_granted s.memory rfl)
  · have hwithdrawn : TableInv { s with memory := { s.memory with lensRequest := none } } :=
      h.of_work rfl (noNewWork_of_port rfl rfl)
    unfold grantSegment
    dsimp only
    split
    · exact hwithdrawn.of_work rfl (noNewWork_granted _ rfl)
    · exact hwithdrawn.continueTargets
  · have hserved : TableInv
        { s with memory := { s.memory with linkRequests := s.memory.linkRequests.set l none, lastServed := l } } :=
      h.of_work rfl (noNewWork_cleared s.memory l l)
    have hserve {u : State} {b : Burst} (hu : TableInv u)
        (hb : ∀ c first points, b.holder ≠ .tableEntry l c first points) (hl : b.holder.link = some l) :
        TableInv { u with memory := { u.memory with port := some b } } := by
      obtain ⟨hok, hflight⟩ := (tableInv_iff u).1 hu
      refine (tableInv_iff _).2 ⟨hok, fun k c first points hentry => ?_⟩
      rcases hentry with hrequest | ⟨n, left, got, hport⟩
      · exact hflight k c first points (.inl hrequest)
      · cases hport
        cases hl
        exact absurd rfl (hb c first points)
    unfold grantLink
    dsimp only
    split
    · split
      · exact hserved
      · exact hserve (u := clearGap l _) hserved (fun _ _ _ => nofun) rfl
    · next c' first' points' =>
      obtain ⟨hok, hflight⟩ := (tableInv_iff _).1 hserved
      refine (tableInv_iff _).2 ⟨hok, fun k c first points hentry => ?_⟩
      rcases hentry with hrequest | ⟨n, left, got, hport⟩
      · exact hflight k c first points (.inl hrequest)
      · cases hport
        exact h.2.1 l c' first' points' hq
    · split
      · exact hserved
      · exact hserve hserved (fun _ _ _ => nofun) rfl
  · exact h

end TableInv

/-! ### With the replies owed as they should be -/

section Owed

variable {d : Link → Nat} {s : State} {l : Link}

/-- The replies owed to a link are one at most. -/
theorem Ledger.owes_le_one (h : Ledger d s) (l : Link) : d l + s.memory.owes l ≤ 1 := by
  have hl := h l
  rw [owedReplies_eq] at hl
  split at hl <;> omega

theorem one_le_owes_of_request {m : RecordMemory} {q : LinkRequest} (h : m.linkRequests.get l = some q) :
    1 ≤ m.owes l := by
  simp [RecordMemory.owes, h]

theorem one_le_owes_of_port {m : RecordMemory} {b : Burst} (h : m.port = some b) (hlink : b.holder.link = some l) :
    1 ≤ m.owes l := by
  simp [RecordMemory.owes, RecordMemory.linkServed, h, hlink, owedBy]

/-- A link with a reply still to be given has no work in Record Memory. -/
theorem Ledger.no_work (h : Ledger (owedBy (some l)) s) :
    s.memory.linkRequests.get l = none ∧ ∀ b, s.memory.port = some b → b.holder.link ≠ some l := by
  have hle := h.owes_le_one l
  rw [show owedBy (some l) l = 1 from if_pos rfl] at hle
  refine ⟨?_, fun b hb hlink => ?_⟩
  · cases hq : s.memory.linkRequests.get l with
    | none => rfl
    | some q =>
      have := one_le_owes_of_request hq
      omega
  · have := one_le_owes_of_port hb hlink
    omega

theorem Ledger.no_entry (h : Ledger (owedBy (some l)) s) (c : ChannelId) (first : Nat)
    (points : List (BitVec 16 × BitVec 16)) : ¬ EntryInFlight s.memory l c first points := by
  obtain ⟨hrequest, hport⟩ := h.no_work
  rintro (hq | ⟨n, left, got, hb⟩)
  · rw [hrequest] at hq
    cases hq
  · exact hport _ hb rfl

/-- The link whose burst is under way has no request waiting. -/
theorem Ledger.no_request (h : Ledger 0 s) {b : Burst} (hport : s.memory.port = some b)
    (hlink : b.holder.link = some l) : s.memory.linkRequests.get l = none := by
  have hle := h.owes_le_one l
  cases hq : s.memory.linkRequests.get l with
  | none => rfl
  | some q =>
    rw [RecordMemory.owes, RecordMemory.linkServed, hport, hq] at hle
    simp [hlink, owedBy] at hle

end Owed

namespace TableInv

variable {s : State}

theorem freed (h : TableInv s) : TableInv { s with memory := { s.memory with port := none } } :=
  h.of_work rfl (noNewWork_freed s.memory)

theorem lapseTable (h : TableInv s) {c : ChannelId} (hdue : tableLapseDue c s = true) : TableInv (lapseTable c s) := by
  have hended : TableInv (Machine.onTable c (Table.ended .invalid) s) := by
    refine h.onTable c (tableInv_invalid (h.1 c)) (h.no_entry fun l _ _ hlapse => ?_)
    simp [tableLapseDue, hlapse] at hdue
  unfold Machine.lapseTable
  dsimp only
  split <;> exact hended

theorem endBurst {b : Burst} (hledger : Ledger 0 s) (hport : s.memory.port = some b) (h : TableInv s) :
    TableInv (endBurst b s) := by
  rcases endBurst_cases b s with ⟨-, hend⟩ | ⟨-, hend⟩ | ⟨c, lower, trim, isLive, -, hend⟩ |
    ⟨l, gap, start, k, -, hend⟩ | ⟨l, c, first, points, hholder, hend⟩ | ⟨l, c, index, state, count, -, hend⟩ <;>
    rw [hend]
  · exact h.freed
  · refine h.freed.of_frame ?_ ?_
    · rw [endRecord, stopIfDrained_lens, appendRecord_lens]
    · rw [endRecord, stopIfDrained_memory, appendRecord_memory]
  · exact h.freed.endSegment c trim isLive b.got
  · exact h.freed
  · have hentry : EntryInFlight s.memory l c first points :=
      .inr ⟨b.length, b.left, b.got, by rw [hport, ← hholder]⟩
    obtain ⟨hstate, hloader, -, -, hfits⟩ := ((tableInv_iff s).1 h).2 l c first points hentry
    have hnone := hledger.no_request (l := l) hport (by rw [hholder]; rfl)
    refine h.freed.editTable (f := Table.entered first points _) c (tableInv_entered (h.1 c) hstate hfits)
      (h.freed.no_entry fun l' hloader' _ _ first' points' hentry' => ?_)
    have hlink : l' = l := Option.some.inj (hloader'.symm.trans hloader)
    subst hlink
    rcases hentry' with hq | ⟨n, left, got, hb⟩
    · rw [show s.memory.linkRequests.get l' = _ from hq] at hnone
      cases hnone
    · cases hb
  · unfold endTableRead
    split
    · exact h.freed
    · exact h.freed

/-! ### Commands -/

theorem withRequest (h : TableInv s) (l : Link) {q : LinkRequest}
    (hq : ∀ c first points, q = .tableEntry c first points → entryFits s l c first points) :
    TableInv (withRequest l q s) := by
  obtain ⟨hok, hflight⟩ := (tableInv_iff s).1 h
  refine (tableInv_iff _).2 ⟨hok, fun k c first points hentry => ?_⟩
  rcases hentry with hrequest | hport
  · by_cases hk : k = l
    · subst hk
      simp only [Machine.withRequest, PerLink.get_set_self, Option.some.injEq] at hrequest
      exact hq c first points hrequest
    · exact hflight k c first points (.inl (by simpa [Machine.withRequest, PerLink.get_set_ne _ _ hk] using hrequest))
  · exact hflight k c first points (.inr hport)

/-- The timer of a load stops: the entries in flight are as before. -/
theorem unlapse (h : TableInv s) (c : ChannelId) : TableInv (Machine.editTable c (fun x => { x with lapse := none }) s) := by
  obtain ⟨hok, hflight⟩ := (tableInv_iff s).1 h
  have hother {d : ChannelId} (hd : d ≠ c) :
      channelGet (Machine.editTable c (fun x => { x with lapse := none }) s).lens.tables d =
        channelGet s.lens.tables d :=
    channelGet_set_ne s.lens.tables _ hd
  refine (tableInv_iff _).2 ⟨fun d => ?_, fun l d first points hentry => ?_⟩
  · by_cases hd : d = c
    · rw [hd, editTable_get_self]
      exact tableInv_unlapsed (hok c)
    · rw [hother hd]
      exact hok d
  · by_cases hd : d = c
    · obtain ⟨hstate, hloader, -, hfits⟩ := hflight l d first points hentry
      rw [hd] at hstate hloader hfits
      rw [entryFits, hd, editTable_get_self]
      exact ⟨hstate, hloader, rfl, hfits⟩
    · rw [entryFits, hother hd]
      exact hflight l d first points hentry

theorem takeTable {i : Instr} {m : Message} (ho : commandOwner i = .table) (hm : i.message = some m)
    (hledger : Ledger (owedBy (some m.l)) s) (h : TableInv s) : TableInv (takeCommand i s) := by
  have hown {c : ChannelId} (hloader : (channelGet s.lens.tables c).loader = some m.l) :
      ∀ l first points, ¬ EntryInFlight s.memory l c first points :=
    h.no_entry fun l hl _ _ => by
      have hlink : m.l = l := Option.some.inj (hloader.symm.trans hl)
      rw [← hlink]
      exact hledger.no_entry c
  rcases takeTable_moves ho hm s with ⟨u, st, data, hmove, ht⟩ | hrequest
  · rw [ht]
    cases hmove with
    | none => exact h
    | begun c hc =>
      refine h.onTable c (f := Table.begun m.l (tableLapse s)) (tableInv_begun _ _ (h.1 c)) ?_
      rcases hc with hstate | hloader
      · exact h.no_entry fun _ _ hloading => absurd hloading hstate
      · exact hown hloader
    | aborted c _ hloader => exact h.onTable c (f := Table.ended .invalid) (tableInv_invalid (h.1 c)) (hown hloader)
    | passed c _ hloader hfault =>
      exact h.onTable c (f := Table.ended .valid) (tableInv_valid (h.1 c) hfault) (hown hloader)
  · generalize takeCommand i s = t at hrequest
    cases hrequest with
    | entry c first points hstate hloader hfirst hfits =>
      refine (h.unlapse c).withRequest m.l fun c' first' points' hq => ?_
      cases hq
      rw [entryFits, editTable_get_self]
      exact ⟨hstate, hloader, rfl, hfirst, hfits⟩
    | read c index => exact h.withRequest m.l fun c' first' points' hq => nomatch hq

theorem takeLog {i : Instr} (ho : commandOwner i = .log) (h : TableInv s) : TableInv (takeCommand i s) := by
  cases i with
  | logAttach l => exact h
  | logDetach l =>
    simp only [takeCommand, takeLogDetach]
    split <;> exact h
  | logRead l maximum =>
    simp only [takeCommand, takeLogRead]
    repeat' split
    any_goals exact h
    exact h.withRequest l fun c first points hq => nomatch hq
  | _ => cases ho

theorem boundary (h : TableInv s) (begun : State) (cause : Cause) : TableInv (boundary begun cause s) := by
  have hscan : TableInv (frameScan s) := h.of_work (frameScan_tables s) (noNewWork_frameScan s)
  exact hscan.of_frame (by rw [boundary_lens]) (boundary_memory s begun cause)

theorem stopIfDrained (h : TableInv s) (begun : State) : TableInv (stopIfDrained begun s) :=
  h.of_frame (by rw [stopIfDrained_lens]) (stopIfDrained_memory s begun)

theorem restart (h : TableInv s) : TableInv (restartBlocks s) := by
  rw [restartBlocks_frame]
  exact h.of_work rfl (noNewWork_restarted s.memory)

theorem takeRun (h : TableInv s) (l : Link) (cast : Addressing) (start : Option (BitVec 32)) :
    TableInv (takeRun l cast start s) := by
  unfold Machine.takeRun
  split
  · have hstarted : TableInv (startRun start s) :=
      h.of_frame (block_of_frame (·.lens.tables) (startRun_frame s start) rfl)
        (block_of_frame State.memory (startRun_frame s start) rfl)
    have hanswered : TableInv (answerDuring s l cast .ok [] (startRun start s)) := hstarted.of_frame (by simp) (by simp)
    dsimp only
    split
    · unfold takeBoundary
      split
      · exact hanswered.boundary s .schedule
      · exact hanswered
    · exact hanswered
  · cases cast <;> exact h

theorem takeStop (h : TableInv s) (l : Link) (cast : Addressing) : TableInv (takeStop l cast s) := by
  unfold Machine.takeStop
  split
  · have hdraining : TableInv { s with timing := { s.timing with run := .draining, rephase := none } } := h
    exact (hdraining.stopIfDrained s).of_frame (by simp) (by simp)
  · cases cast <;> exact h

theorem takeRestart (h : TableInv s) (l : Link) (cast : Addressing) : TableInv (takeRestart l cast s) := by
  unfold Machine.takeRestart
  exact h.restart.of_frame (by simp) (by simp)

theorem takeCommand {i : Instr} {m : Message} (hm : i.message = some m) (hledger : Ledger (owedBy (dueTo m.l m.cast)) s)
    (h : TableInv s) : TableInv (takeCommand i s) := by
  have hframe := takeCommand_frame i s
  cases ho : commandOwner i <;> rw [ho] at hframe
  case run =>
    cases i with
    | run l cast start => exact h.takeRun l cast start
    | stop l cast => exact h.takeStop l cast
    | restart l cast => exact h.takeRestart l cast
    | _ => cases ho
  case log => exact h.takeLog ho
  case table => exact h.takeTable ho hm (hledger.unicast hm (by simp [ho]))
  case lens => exact h.of_frame (takeLens_tables ho s) (block_of_frame State.memory hframe rfl)
  all_goals exact h.of_frame (block_of_frame (·.lens.tables) hframe rfl) (block_of_frame State.memory hframe rfl)

end TableInv

/-! ### The invariant -/

theorem keptByEvents_tableInv : KeptByEvents fun s => RepliesStand s ∧ TableInv s := by
  have hr := keptByEvents_repliesStand
  exact
    { input := fun r f s ⟨h, ht⟩ => ⟨hr.input r f s h,
        ht.of_frame (block_of_frame (·.lens.tables) (onInput_frame s r f) rfl)
          (block_of_frame State.memory (onInput_frame s r f) rfl)⟩
      lockLeft := fun s hrun hmode ⟨h, ht⟩ =>
        ⟨hr.lockLeft s hrun hmode h, ht.of_frame (by rw [setRef_lens]) (setRef_memory s _)⟩
      holdOver := fun s hdue ⟨h, ht⟩ => ⟨hr.holdOver s hdue h, ht.of_frame (by rw [setRef_lens]) (setRef_memory s _)⟩
      boundary := fun begun cause s hrun ⟨h, ht⟩ => ⟨hr.boundary begun cause s hrun h, ht.boundary begun cause⟩
      reachStopped := fun begun s hdue ⟨h, ht⟩ => ⟨hr.reachStopped begun s hdue h,
        ht.of_frame (by rw [reachStopped_lens]) (reachStopped_memory s begun)⟩
      applyCommit := fun begun s hrun hstage ⟨h, ht⟩ => ⟨hr.applyCommit begun s hrun hstage h,
        ht.of_frame (by rw [applyWhileStopped_lens]) (applyWhileStopped_memory s begun _)⟩
      applyTimecode := fun begun s hrun ⟨h, ht⟩ => ⟨hr.applyTimecode begun s hrun h,
        ht.of_frame (by rw [applyPendingTimecode_lens]) (applyPendingTimecode_memory s begun)⟩
      stray := fun e s ⟨h, ht⟩ => ⟨hr.stray e s h, ht⟩
      assign := fun e s hrun ⟨h, ht⟩ => ⟨hr.assign e s hrun h,
        ht.of_frame (by rw [assignReturn_lens]) (assignReturn_memory s e)⟩
      synth := fun e s ⟨h, ht⟩ => ⟨hr.synth e s h, ht.of_frame (by rw [handSynth_lens]) (handSynth_memory s e)⟩
      decide := fun e s ⟨h, ht⟩ => ⟨hr.decide e s h,
        ht.of_frame (by rw [decideTrigger_lens]) (decideTrigger_memory s e)⟩
      pulseEnd := fun e s ⟨h, ht⟩ => ⟨hr.pulseEnd e s h, ht⟩
      close := fun n s ⟨h, ht⟩ => ⟨hr.close n s h, ht.of_frame (by rw [closeSlot_lens]) (closeSlot_memory s n)⟩
      lapseEdit := fun s hdue ⟨h, ht⟩ => ⟨hr.lapseEdit s hdue h,
        ht.of_frame (block_of_frame (·.lens.tables) (lapseEdit_frame s) rfl)
          (block_of_frame State.memory (lapseEdit_frame s) rfl)⟩
      lapseTable := fun c s hdue ⟨h, ht⟩ => ⟨hr.lapseTable c s hdue h, ht.lapseTable hdue⟩
      grant := fun s hdue ⟨h, ht⟩ => ⟨hr.grant s hdue h, ht.grant⟩
      burstEnd := fun b s hport hleft ⟨h, ht⟩ => ⟨hr.burstEnd b s hport hleft h, ht.endBurst h.2 hport⟩
      scanDue := fun s hdue ⟨h, ht⟩ => ⟨hr.scanDue s hdue h, by
        unfold scanTimer
        dsimp only
        split <;> exact ht⟩
      conversions := fun s hdue ⟨h, ht⟩ =>
        ⟨hr.conversions s hdue h, TableInv.nextSegment (s := onScan _ s) ht channelOrder⟩ }

/-- A table at reset is EMPTY (R109). -/
theorem tableInv_of_pinReset {s : State} (hlens : s.lens = .pinReset)
    (hmemory : ∀ l c first points, ¬ EntryInFlight s.memory l c first points) : TableInv s := by
  refine (tableInv_iff s).2 ⟨fun c => ?_, fun l c first points h => absurd h (hmemory l c first points)⟩
  rw [hlens, show channelGet LensUnit.pinReset.tables c = _ from channelGet_build _ c]
  exact ⟨by decide, rfl, by decide, fun h => (by cases h), fun h => (by cases h)⟩

theorem keptByParts_tableInv : KeptByParts fun s => ReplyInv s ∧ TableInv s := by
  have hr := keptByParts_replyInv
  exact
    { queue := fun s pending ties h => h
      reset := fun s h => ⟨hr.reset s h.1, tableInv_of_pinReset rfl fun l c first points hentry => by
        rcases hentry with hq | ⟨n, left, got, hb⟩
        · cases l <;> cases hq
        · cases hb⟩
      release := fun sel rate s hpins ⟨h, ht⟩ => ⟨hr.release sel rate s hpins h,
        ht.of_work (t := releaseReset sel rate s) rfl (noNewWork_granted s.memory rfl)⟩
      receiver := fun l s t hmove ⟨h, ht⟩ => ⟨hr.receiver l s t hmove h, by
        obtain ⟨x, rfl, -, -⟩ := hmove
        exact ht⟩
      command := fun i m s hm hready ⟨h, ht⟩ => ⟨hr.command i m s hm hready h,
        TableInv.takeCommand (s := s.taken m.l m.cast) hm (((replyInv_iff s).1 h).1.taken hready) ht⟩
      event := fun i s hpins ⟨h, ht⟩ => by
        obtain ⟨hnext, htable⟩ := keptByEvents_tableInv.event i ⟨h.repliesStand hpins, ht⟩
        exact ⟨hnext.replyInv, htable⟩
      tick := fun s hpins hdue hmissing ⟨h, ht⟩ =>
        ⟨hr.tick s hpins hdue hmissing h, ht.of_work (by rw [passTick_frame]; rfl) (noNewWork_passTick s)⟩ }

/-- Settles O58. -/
theorem everyStepKeepsTheTables : Obligations.EveryStepKeepsTheTables :=
  fun _ _ hstep hreply htable => (keptByParts_tableInv.step hstep ⟨hreply, htable⟩).2

end Sys2Proof.Machine
end

section
/-!
PROOFS. LOG_READY and the readers of the log (R96 to R108, R175).
-/

namespace Sys2Proof.Machine

/-! ### LOG_READY as it stands -/

/-- Between `s` and `t` LOG_READY moved in no link, neither as shown nor as its condition stands. -/
structure ReadyKept (s t : State) : Prop where
  shown : ∀ l, holds (t.links.get l).events .logReady = holds (s.links.get l).events .logReady
  condition : ∀ l, t.log.ready l = s.log.ready l

section ReadyKept

variable {s t u : State}

theorem ReadyKept.refl (s : State) : ReadyKept s s := ⟨fun _ => rfl, fun _ => rfl⟩

theorem ReadyKept.trans (hst : ReadyKept s t) (htu : ReadyKept t u) : ReadyKept s u :=
  ⟨fun l => (htu.shown l).trans (hst.shown l), fun l => (htu.condition l).trans (hst.condition l)⟩

theorem Posts.readyKept (h : Posts s t) (hlog : t.log = s.log) : ReadyKept s t := ⟨h.2, fun l => by rw [hlog]⟩

theorem Quiet.readyKept (h : Quiet s t) : ReadyKept s t := ⟨h.ready, fun l => by rw [h.log]⟩

theorem readyKept_replyWith (l : Link) (st : Status) (data : List Byte) (evt : Bool) (s : State) :
    ReadyKept s (replyWith l st data evt s) := by
  refine ⟨fun k => ?_, fun _ => rfl⟩
  by_cases hk : k = l
  · rw [hk, replyWith, onLink_get_self]
  · rw [replyWith, onLink_get_ne _ _ hk]

theorem readyKept_answer (l : Link) (cast : Addressing) (st : Status) (data : List Byte) (s : State) :
    ReadyKept s (answer l cast st data s) := by
  cases cast with
  | unicast => exact readyKept_replyWith _ _ _ _ _
  | broadcast => exact .refl s

theorem readyKept_answerDuring (before : State) (l : Link) (cast : Addressing) (st : Status) (data : List Byte)
    (s : State) : ReadyKept s (answerDuring before l cast st data s) := by
  cases cast with
  | unicast => exact readyKept_replyWith _ _ _ _ _
  | broadcast => exact .refl s

theorem readyKept_answerOwed (before : State) (o : Option Link) (st : Status) (s : State) :
    ReadyKept s (answerOwed before o st s) := by
  cases o with
  | none => exact .refl s
  | some l => exact readyKept_replyWith _ _ _ _ _

theorem readyKept_answerBoundaryCommit (begun before s : State) :
    ReadyKept s (answerBoundaryCommit begun before s) := by
  unfold answerBoundaryCommit
  split
  · exact readyKept_replyWith _ _ _ _ _
  · exact .refl s

theorem readyKept_abortCommit (before s : State) : ReadyKept s (abortCommit before s) := by
  unfold abortCommit
  split
  · exact readyKept_replyWith _ _ _ _ _
  · exact .refl s

theorem readyKept_answerCutRead (before s : State) : ReadyKept s (answerCutRead before s) := by
  unfold answerCutRead
  split
  · exact readyKept_replyWith _ _ _ _ _
  · exact .refl s

theorem CommandMove.readyKept {l : Link} (h : CommandMove l s t) : ReadyKept s t := by
  cases h with
  | replied hquiet st data evt => exact hquiet.readyKept.trans (readyKept_replyWith _ _ _ _ _)
  | committing _ _ => exact ⟨fun _ => rfl, fun _ => rfl⟩
  | requested hquiet q => exact hquiet.readyKept.trans ⟨fun _ => rfl, fun _ => rfl⟩

theorem readyKept_boundary (begun : State) (cause : Cause) (s : State) : ReadyKept s (boundary begun cause s) := by
  have hbody := (posts_boundaryBody s cause).readyKept (by simp [boundaryBody])
  rw [boundary_eq]
  exact hbody.trans ((readyKept_answerBoundaryCommit begun s _).trans (readyKept_answerOwed begun _ .ok _))

theorem readyKept_applyWhileStopped (begun : State) (o : Option Link) (s : State) :
    ReadyKept s (applyWhileStopped begun o s) := by
  have happlied := ((posts_applyStaged s false).trans (posts_settleReference _ s.plan)).readyKept (by simp)
  unfold applyWhileStopped
  dsimp only
  split
  · exact happlied.trans (readyKept_replyWith _ _ _ _ _)
  · exact happlied

theorem readyKept_applyPendingTimecode (begun s : State) : ReadyKept s (applyPendingTimecode begun s) := by
  have happlied : ReadyKept s { s with tc := s.tc.applyWaiting } := ⟨fun _ => rfl, fun _ => rfl⟩
  exact happlied.trans (readyKept_answerOwed begun s.tc.owed .ok _)

theorem readyKept_reachStopped (begun s : State) : ReadyKept s (reachStopped begun s) := by
  have hentered : ReadyKept s (enterStopped s) := (posts_enterStopped s).readyKept (by simp [enterStopped, recomputeRef])
  have hsplit : reachStopped begun s =
      applyPendingTimecode begun
        (if s.plan.stage = .committing then applyWhileStopped begun s.plan.committer (enterStopped s)
          else enterStopped s) := rfl
  rw [hsplit]
  refine ReadyKept.trans ?_ (readyKept_applyPendingTimecode begun _)
  split
  · exact hentered.trans (readyKept_applyWhileStopped begun _ _)
  · exact hentered

theorem readyKept_stopIfDrained (begun s : State) : ReadyKept s (stopIfDrained begun s) := by
  unfold stopIfDrained
  split
  · exact readyKept_reachStopped begun s
  · exact .refl s

end ReadyKept

/-! ### LOG_READY re-formed -/

theorem holds_showReady (ready : Bool) (events : EventSet) : holds (showReady ready events) .logReady = ready := by
  cases ready with
  | true => simp [showReady, holds, EventKind.getLsbD_mask]
  | false => simp [showReady, holds, EventKind.mask, EventKind.bit]

namespace LogReadyInv

variable {s t : State}

theorem kept (h : LogReadyInv s) (hkept : ReadyKept s t) : LogReadyInv t :=
  fun l => by rw [hkept.shown l, hkept.condition l, h l]

theorem reformed_all (s : State) : LogReadyInv (reformReadyAll s) := by
  intro l
  rw [reformReadyAll, onLinks_get, holds_showReady]
  rfl

/-- One reader moves, and its LOG_READY is re-formed. -/
theorem reformed (h : LogReadyInv s) (l : Link) (f : Reader → Reader) : LogReadyInv (reformReady l (onReader l f s)) := by
  intro k
  by_cases hk : k = l
  · subst hk
    rw [reformReady, onLink_get_self, holds_showReady]
    rfl
  · have hready : (reformReady l (onReader l f s)).log.ready k = s.log.ready k := by
      have hreader : (reformReady l (onReader l f s)).log.readers.get k = s.log.readers.get k :=
        onReader_get_ne s f hk
      rw [PairLog.ready, PairLog.ready, PairLog.unread, PairLog.unread, hreader]
      rfl
    rw [hready, reformReady, onLink_get_ne _ _ hk]
    exact h k

theorem finishLogRead (h : LogReadyInv s) (l : Link) (gap k : Nat) (start : BitVec 32) (words : List MemWord) :
    LogReadyInv (finishLogRead l gap k start words s) :=
  (h.reformed l _).kept (readyKept_replyWith _ _ _ _ _)

/-- The gap count is no part of the condition. -/
theorem readyKept_clearGap (l : Link) (s : State) : ReadyKept s (clearGap l s) := by
  refine ⟨fun _ => rfl, fun k => ?_⟩
  by_cases hk : k = l
  · subst hk
    rw [PairLog.ready, PairLog.ready, PairLog.unread, PairLog.unread, clearGap, onReader_get_self]
    rfl
  · rw [PairLog.ready, PairLog.ready, PairLog.unread, PairLog.unread, clearGap, onReader_get_ne s _ hk]
    rfl

theorem readNothing (h : LogReadyInv s) (l : Link) : LogReadyInv (readNothing l s) :=
  (h.kept (readyKept_clearGap l s)).finishLogRead _ _ _ _ _

theorem grant (h : LogReadyInv s) : LogReadyInv (grant s) := by
  have hmemory {u : State} (m : RecordMemory) : ReadyKept u { u with memory := m } := ⟨fun _ => rfl, fun _ => rfl⟩
  rcases grant_cases s with ⟨-, hg⟩ | ⟨q, -, hg⟩ | ⟨l, q, -, -, -, hg⟩ | hg <;> rw [hg]
  · exact h.kept (hmemory _)
  · unfold grantSegment
    dsimp only
    split
    · exact (h.kept (hmemory _)).kept (hmemory _)
    · exact (h.kept (hmemory _)).kept
        ((posts_continueTargets _).readyKept (block_of_frame State.log (movedInScan_continueTargets _) rfl))
  · have hserved := h.kept
      (hmemory { s.memory with linkRequests := s.memory.linkRequests.set l none, lastServed := l })
    unfold grantLink
    dsimp only
    split
    · split
      · exact hserved.readNothing l
      · exact (hserved.kept (readyKept_clearGap l _)).kept (hmemory _)
    · exact hserved.kept (hmemory _)
    · split
      · exact hserved.kept (readyKept_replyWith _ _ _ _ _)
      · exact hserved.kept (hmemory _)
  · exact h

theorem endBurst (h : LogReadyInv s) (b : Burst) : LogReadyInv (endBurst b s) := by
  have hfreed : LogReadyInv { s with memory := { s.memory with port := none } } :=
    h.kept ⟨fun _ => rfl, fun _ => rfl⟩
  rcases endBurst_cases b s with ⟨-, hend⟩ | ⟨-, hend⟩ | ⟨c, lower, trim, isLive, -, hend⟩ |
    ⟨l, gap, start, k, -, hend⟩ | ⟨l, c, first, points, -, hend⟩ | ⟨l, c, index, state, count, -, hend⟩ <;>
    rw [hend]
  · exact hfreed
  · exact LogReadyInv.kept (reformed_all _) (readyKept_stopIfDrained _ _)
  · have hmoved := endSegment_movedInScan { s with memory := { s.memory with port := none } } c trim isLive b.got
    exact hfreed.kept ((posts_endSegment _ _ _ _ _).readyKept (by rw [hmoved]))
  · exact hfreed.finishLogRead _ _ _ _ _
  · have hedited : ReadyKept { s with memory := { s.memory with port := none } }
        (editTable c (Table.entered first points (tableLapse s)) { s with memory := { s.memory with port := none } }) :=
      ⟨fun _ => rfl, fun _ => rfl⟩
    exact hfreed.kept (hedited.trans (readyKept_replyWith _ _ _ _ _))
  · unfold endTableRead
    split
    · exact hfreed.kept (readyKept_replyWith _ _ _ _ _)
    · exact hfreed.kept (readyKept_replyWith _ _ _ _ _)

/-! ### Commands -/

theorem takeRun (h : LogReadyInv s) (l : Link) (cast : Addressing) (start : Option (BitVec 32)) :
    LogReadyInv (takeRun l cast start s) := by
  unfold Machine.takeRun
  split
  · have hmoved := startRun_frame s start
    have hstarted := h.kept ((posts_startRun s start).readyKept (by rw [hmoved]))
    have hanswered := hstarted.kept (readyKept_answerDuring s l cast .ok [] _)
    dsimp only
    split
    · unfold takeBoundary
      split
      · exact hanswered.kept (readyKept_boundary s .schedule _)
      · exact hanswered
    · exact hanswered
  · exact h.kept (readyKept_answer l cast _ _ s)

theorem takeStop (h : LogReadyInv s) (l : Link) (cast : Addressing) : LogReadyInv (takeStop l cast s) := by
  unfold Machine.takeStop
  split
  · have hdraining : LogReadyInv { s with timing := { s.timing with run := .draining, rephase := none } } := h
    exact hdraining.kept ((readyKept_stopIfDrained s _).trans (readyKept_answerDuring s l cast .ok [] _))
  · exact h.kept (readyKept_answer l cast _ _ s)

theorem restartBlocks (s : State) : LogReadyInv (restartBlocks s) := by
  have hposted {u : State} : LogReadyInv (recomputeRef (reformReadyAll u)) := by
    rw [recomputeRef]
    exact LogReadyInv.kept (reformed_all u) ((posts_setRef _ _).readyKept (by simp))
  unfold Machine.restartBlocks
  dsimp only
  split
  · exact hposted
  · exact hposted.kept ((posts_postAll (by simp) _).readyKept rfl)

theorem takeRestart (s : State) (l : Link) (cast : Addressing) : LogReadyInv (takeRestart l cast s) := by
  have habort := (restartBlocks s).kept (readyKept_abortCommit s _)
  exact ((habort.kept (readyKept_answerOwed s s.tc.owed .abrt _)).kept (readyKept_answerCutRead s _)).kept
    (readyKept_answerDuring s l cast .ok [] _)

theorem takeTcSet (h : LogReadyInv s) (l : Link) (cast : Addressing) (value : Timecode) (base drop : Byte) :
    LogReadyInv (takeTcSet l cast value base drop s) := by
  unfold Machine.takeTcSet
  split
  · exact h.kept (readyKept_answer l cast _ _ s)
  · next dropMode _ =>
    split
    · split
      · exact h.kept (readyKept_answer l cast _ _ s)
      · split
        · have hset : LogReadyInv { s with tc := { s.tc with current := value, base := base.toNat, drop := dropMode } } := h
          exact hset.kept (readyKept_answer l cast _ _ _)
        · exact h
    · exact h.kept (readyKept_answer l cast _ _ s)

theorem takeLog {i : Instr} (ho : commandOwner i = .log) (h : LogReadyInv s) : LogReadyInv (takeCommand i s) := by
  cases i with
  | logAttach l => exact (h.reformed l _).kept (readyKept_replyWith _ _ _ _ _)
  | logDetach l =>
    simp only [takeCommand, takeLogDetach]
    split
    · exact (h.reformed l _).kept (readyKept_replyWith _ _ _ _ _)
    · exact h.kept (readyKept_replyWith _ _ _ _ _)
  | logRead l maximum =>
    simp only [takeCommand, takeLogRead]
    split
    · exact h.kept (readyKept_replyWith _ _ _ _ _)
    split
    · exact h.kept (readyKept_replyWith _ _ _ _ _)
    split
    · exact h.readNothing l
    · exact h
  | _ => cases ho

theorem takeCommand {i : Instr} {m : Message} (hm : i.message = some m) (h : LogReadyInv s) :
    LogReadyInv (takeCommand i s) := by
  cases howner : commandOwner i with
  | run =>
    cases i with
    | run l cast start => exact h.takeRun l cast start
    | stop l cast => exact h.takeStop l cast
    | restart l cast => exact takeRestart s l cast
    | _ => cases howner
  | timecode =>
    cases i with
    | tcSet l cast value base drop => exact h.takeTcSet l cast value base drop
    | _ => cases howner
  | log => exact h.takeLog howner
  | plan => exact h.kept (CommandMove.takePlan howner hm).readyKept
  | table => exact h.kept (CommandMove.takeTable howner hm).readyKept
  | lens => exact h.kept (CommandMove.takeLens howner hm).readyKept
  | status => exact h.kept (CommandMove.takeStatus howner hm).readyKept

theorem taken (h : LogReadyInv s) (l : Link) (cast : Addressing) : LogReadyInv (s.taken l cast) :=
  h.kept ⟨fun k => by rw [taken_events], fun _ => rfl⟩

end LogReadyInv

theorem keptByEvents_logReadyInv : KeptByEvents LogReadyInv where
  input r f s h := h.kept ((posts_onInput s r f).readyKept (block_of_frame State.log (onInput_frame s r f) rfl))
  lockLeft s _ _ h := h.kept ((posts_setRef s _).readyKept (by simp))
  holdOver s _ h := h.kept ((posts_setRef s _).readyKept (by simp))
  boundary begun cause s _ h := h.kept (readyKept_boundary begun cause s)
  reachStopped begun s _ h := h.kept (readyKept_reachStopped begun s)
  applyCommit begun s _ _ h := h.kept (readyKept_applyWhileStopped begun _ s)
  applyTimecode begun s _ h := h.kept (readyKept_applyPendingTimecode begun s)
  stray e s h := h.kept ((posts_strayReturn s e).readyKept rfl)
  assign e s _ h := h.kept ((posts_assignReturn s e).readyKept (by simp))
  synth e s h := h.kept ((posts_handSynth s e).readyKept (by simp))
  decide e s h := h.kept ((posts_decideTrigger s e).readyKept (by simp))
  pulseEnd e s h := h
  close n s h := h.kept ((posts_closeSlot s n).readyKept (by simp))
  lapseEdit s _ h := h.kept ((posts_lapseEdit s).readyKept (block_of_frame State.log (lapseEdit_frame s) rfl))
  lapseTable c s _ h := h.kept ((posts_lapseTable s c).readyKept (block_of_frame State.log (lapseTable_frame s c) rfl))
  grant s _ h := h.grant
  burstEnd b s _ _ h := h.endBurst b
  scanDue s _ h := h.kept ((posts_scanTimer s).readyKept (block_of_frame State.log (scanTimer_movedInScan s) rfl))
  conversions s _ h :=
    h.kept ((posts_endConversions s).readyKept (block_of_frame State.log (endConversions_movedInScan s) rfl))

theorem logReadyInv_reset : LogReadyInv .reset := by
  intro l
  cases l <;> decide

theorem keptByParts_logReadyInv : KeptByParts LogReadyInv where
  queue s pending ties h := h
  reset s _ := logReadyInv_reset
  release sel rate s _ h := h
  receiver := by
    rintro l s t ⟨x, rfl, -, hevents⟩ h
    refine h.kept ⟨fun k => ?_, fun _ => rfl⟩
    by_cases hk : k = l
    · subst hk
      simpa using hevents
    · simp [PerLink.get_set_ne _ _ hk]
  command i m s hm _ h := (h.taken m.l m.cast).takeCommand hm
  event i s _ h := keptByEvents_logReadyInv.event i h
  tick s _ _ _ h := h.kept (t := passTick s) ⟨fun l => by rw [passTick_frame], fun l => by rw [passTick_frame]⟩

end Sys2Proof.Machine
end

section
/-!
PROOFS. The readers of the log within the ring (R96 to R104).
-/

namespace Sys2Proof.Machine

/-! ### The ring and its readers -/

/-- A reader of a log that holds `count` records before LSN `next` (R99). -/
def Reader.Ok (next : BitVec 32) (count : Nat) (r : Reader) : Prop :=
  r.gap ≤ 255 ∧ (r.attached = true → (next - r.cursor).toNat ≤ count)

/-- The ring holds at most 64 records, and every attached cursor lies within it or at its end. -/
def PairLog.Ok (g : PairLog) : Prop := g.count ≤ 64 ∧ ∀ l, (g.readers.get l).Ok g.next g.count

/-- The LOG_READs that wait are of attached links, and one under way reads records that are there (R102, R103). -/
def ReadsOk (m : RecordMemory) (g : PairLog) : Prop :=
  (∀ l maximum, m.linkRequests.get l = some (.logRead maximum) → (g.readers.get l).attached = true) ∧
    ∀ l gap start k n left got, m.port = some ⟨.logRead l gap start k, n, left, got⟩ →
      (g.readers.get l).attached = true ∧ (g.readers.get l).cursor = start ∧ k ≤ g.unread l

theorem logInv_iff (s : State) : LogInv s ↔ s.log.Ok ∧ ReadsOk s.memory s.log := by
  constructor
  · rintro ⟨hcount, hreaders, hrequests, hport⟩
    exact ⟨⟨hcount, hreaders⟩, hrequests, hport⟩
  · rintro ⟨⟨hcount, hreaders⟩, hrequests, hport⟩
    exact ⟨hcount, hreaders, hrequests, hport⟩

theorem bump_le (m n : Nat) : bump m n ≤ m := by
  unfold bump
  split <;> omega

section Ring

variable {g : PairLog} {next : BitVec 32} {count : Nat} {r : Reader}

/-- One record more. -/
theorem Reader.Ok.appended (h : r.Ok next count) (hcount : count ≤ 64) : r.Ok (next + 1) (count + 1) := by
  obtain ⟨hgap, hunread⟩ := h
  refine ⟨hgap, fun hattached => ?_⟩
  have := hunread hattached
  bv_omega

/-- The oldest record dropped and one appended: a reader at the oldest moves on (R98). -/
theorem Reader.Ok.dropped (h : r.Ok next 64) :
    (if r.losesAt (next - 64#32) then r.moved else r).Ok (next + 1) 64 := by
  obtain ⟨hgap, hunread⟩ := h
  by_cases hloses : r.losesAt (next - 64#32) = true
  · rw [if_pos hloses]
    obtain ⟨hattached, hcursor⟩ := Bool.and_eq_true_iff.1 hloses
    have hat : r.cursor = next - 64#32 := by simpa using hcursor
    refine ⟨bump_le _ _, fun _ => ?_⟩
    show (next + 1 - (r.cursor + 1)).toNat ≤ 64
    rw [hat]
    bv_omega
  · rw [if_neg hloses]
    refine ⟨hgap, fun hattached => ?_⟩
    have hle := hunread hattached
    have hne : r.cursor ≠ next - 64#32 := fun hat => hloses (by simp [Reader.losesAt, hattached, hat])
    have hlt : (next - r.cursor).toNat ≠ 64 := fun heq => hne (by bv_omega)
    bv_omega

/-- A reader moved on by records that were unread. -/
theorem Reader.Ok.advanced (h : r.Ok next count) {k : Nat} (hk : k ≤ (next - r.cursor).toNat) :
    ({ r with cursor := r.cursor + BitVec.ofNat 32 k } : Reader).Ok next count := by
  obtain ⟨hgap, hunread⟩ := h
  refine ⟨hgap, fun hattached => ?_⟩
  have hle := hunread hattached
  have hlt : k < 2 ^ 32 := lt_of_le_of_lt hk (next - r.cursor).isLt
  have hnat : (BitVec.ofNat 32 k).toNat = k := Nat.mod_eq_of_lt hlt
  show (next - (r.cursor + BitVec.ofNat 32 k)).toNat ≤ count
  bv_omega

end Ring

/-! ### The log's moves -/

/-- The log with its oldest record dropped (R98). -/
def PairLog.dropped (g : PairLog) : PairLog :=
  { g with
    count := g.count - 1
    readers := PerLink.build fun l =>
      if (g.readers.get l).losesAt g.oldest then (g.readers.get l).moved else g.readers.get l }

/-- The log with one record appended (R97). -/
def PairLog.appended (g : PairLog) : PairLog :=
  let g1 := if 64 ≤ g.count then g.dropped else g
  { g1 with next := g1.next + 1, count := g1.count + 1 }

theorem appendRecord_log (s : State) : (appendRecord s).log = s.log.appended := by
  unfold appendRecord PairLog.appended
  dsimp only
  split <;> rfl

/-- The log with one reader moved. -/
def PairLog.withReader (l : Link) (f : Reader → Reader) (g : PairLog) : PairLog :=
  { g with readers := g.readers.set l (f (g.readers.get l)) }

theorem withReader_get_self (g : PairLog) (l : Link) (f : Reader → Reader) :
    (g.withReader l f).readers.get l = f (g.readers.get l) := by
  simp [PairLog.withReader]

theorem withReader_get_ne (g : PairLog) {l k : Link} (f : Reader → Reader) (h : k ≠ l) :
    (g.withReader l f).readers.get k = g.readers.get k := by
  simp [PairLog.withReader, PerLink.get_set_ne _ _ h]

section PairLogOk

variable {g : PairLog}

theorem PairLog.Ok.appended (h : g.Ok) : g.appended.Ok := by
  obtain ⟨hcount, hreaders⟩ := h
  unfold PairLog.appended
  dsimp only
  split
  · next hfull =>
    have h64 : g.count = 64 := Nat.le_antisymm hcount hfull
    refine ⟨by simp [PairLog.dropped, h64], fun l => ?_⟩
    have hreader := (hreaders l)
    rw [h64] at hreader
    simpa [PairLog.dropped, PairLog.oldest, h64] using hreader.dropped
  · next hfull => exact ⟨by dsimp only; omega, fun l => (hreaders l).appended hcount⟩

theorem PairLog.Ok.withReader (h : g.Ok) {l : Link} {f : Reader → Reader}
    (hf : (f (g.readers.get l)).Ok g.next g.count) : (g.withReader l f).Ok := by
  obtain ⟨hcount, hreaders⟩ := h
  refine ⟨hcount, fun k => ?_⟩
  by_cases hk : k = l
  · rw [hk, withReader_get_self]
    exact hf
  · rw [withReader_get_ne g f hk]
    exact hreaders k

theorem PairLog.Ok.emptied (g : PairLog) : g.emptied.Ok := by
  refine ⟨Nat.zero_le _, fun l => ?_⟩
  rw [show g.emptied.readers.get l = _ from PerLink.get_build _ l]
  refine ⟨Nat.zero_le _, fun _ => ?_⟩
  simp [PairLog.emptied]

/-- A drop or an append leaves every link attached or not. -/
theorem appended_attached (l : Link) : (g.appended.readers.get l).attached = (g.readers.get l).attached := by
  unfold PairLog.appended
  dsimp only
  split
  · rw [PairLog.dropped, show (PerLink.build _).get l = _ from PerLink.get_build _ l]
    split <;> rfl
  · rfl

end PairLogOk

/-! ### LOG_READs that wait or are under way -/

section ReadsOk

variable {m m' : RecordMemory} {g g' : PairLog}

theorem ReadsOk.of_work (h : ReadsOk m g) (hwork : NoNewWork m m') : ReadsOk m' g := by
  obtain ⟨hrequests, hport⟩ := hwork
  refine ⟨fun l maximum hq => h.1 l maximum (hrequests l _ hq), fun l gap start k n left got hb => ?_⟩
  obtain ⟨n', left', got', hb'⟩ := hport _ n left got hb rfl
  exact h.2 l gap start k n' left' got' hb'

/-- With no burst of a link under way, only who is attached matters. -/
theorem ReadsOk.of_free (h : ReadsOk m g) (hport : ∀ b, m.port = some b → b.holder.link = none)
    (hattached : ∀ l, (g.readers.get l).attached = true → (g'.readers.get l).attached = true) : ReadsOk m g' := by
  refine ⟨fun l maximum hq => hattached l (h.1 l maximum hq), fun l gap start k n left got hb => ?_⟩
  have hlink := hport _ hb
  cases hlink

/-- A link without work in Record Memory may move its reader. -/
theorem ReadsOk.withReader (h : ReadsOk m g) {l : Link} (f : Reader → Reader) (hrequest : m.linkRequests.get l = none)
    (hport : ∀ b, m.port = some b → b.holder.link ≠ some l) : ReadsOk m (g.withReader l f) := by
  refine ⟨fun k maximum hq => ?_, fun k gap start n' n left got hb => ?_⟩
  · have hk : k ≠ l := by
      rintro rfl
      rw [hrequest] at hq
      cases hq
    rw [withReader_get_ne g f hk]
    exact h.1 k maximum hq
  · have hk : k ≠ l := by
      rintro rfl
      exact hport _ hb rfl
    have hread := h.2 k gap start n' n left got hb
    rw [PairLog.unread, withReader_get_ne g f hk]
    exact hread

end ReadsOk

/-! ### The invariant's moves -/

namespace LogInv

variable {s t : State}

theorem of_parts (hlog : t.log.Ok) (hreads : ReadsOk t.memory t.log) : LogInv t := (logInv_iff t).2 ⟨hlog, hreads⟩

theorem of_work (h : LogInv s) (hlog : t.log = s.log) (hwork : NoNewWork s.memory t.memory) : LogInv t := by
  obtain ⟨hok, hreads⟩ := (logInv_iff s).1 h
  exact of_parts (by rwa [hlog]) (by rw [hlog]; exact hreads.of_work hwork)

theorem of_frame (h : LogInv s) (hlog : t.log = s.log) (hmemory : t.memory = s.memory) : LogInv t :=
  h.of_work hlog (noNewWork_of_eq hmemory)

theorem boundary (h : LogInv s) (begun : State) (cause : Cause) : LogInv (boundary begun cause s) := by
  refine h.of_work (boundary_log s begun cause) ?_
  rw [boundary_memory]
  exact noNewWork_frameScan s

theorem stopIfDrained (h : LogInv s) (begun : State) : LogInv (stopIfDrained begun s) :=
  h.of_frame (by simp) (stopIfDrained_memory s begun)

/-- A LOG_READ of `k` records moves its reader past them, the memory free of its work. -/
theorem finishLogRead (h : LogInv s) {l : Link} (hrequest : s.memory.linkRequests.get l = none)
    (hport : ∀ b, s.memory.port = some b → b.holder.link ≠ some l) {k : Nat} (hk : k ≤ s.log.unread l) (gap : Nat) (start : BitVec 32)
    (words : List MemWord) : LogInv (finishLogRead l gap k start words s) := by
  obtain ⟨hok, hreads⟩ := (logInv_iff s).1 h
  have hlog : (Machine.finishLogRead l gap k start words s).log =
      s.log.withReader l (fun r => { r with cursor := r.cursor + BitVec.ofNat 32 k }) := rfl
  refine of_parts ?_ ?_
  · rw [hlog]
    exact hok.withReader ((hok.2 l).advanced hk)
  · rw [hlog]
    exact hreads.withReader _ hrequest hport

theorem clearGap (h : LogInv s) {l : Link} (hrequest : s.memory.linkRequests.get l = none)
    (hport : ∀ b, s.memory.port = some b → b.holder.link ≠ some l) : LogInv (clearGap l s) := by
  obtain ⟨hok, hreads⟩ := (logInv_iff s).1 h
  have hlog : (Machine.clearGap l s).log = s.log.withReader l (fun r => { r with gap := 0 }) := rfl
  refine of_parts ?_ ?_
  · rw [hlog]
    exact hok.withReader ⟨Nat.zero_le _, (hok.2 l).2⟩
  · rw [hlog]
    exact hreads.withReader _ hrequest hport

theorem readNothing (h : LogInv s) {l : Link} (hrequest : s.memory.linkRequests.get l = none)
    (hport : ∀ b, s.memory.port = some b → b.holder.link ≠ some l) : LogInv (readNothing l s) :=
  (h.clearGap hrequest hport).finishLogRead hrequest hport (Nat.zero_le _) _ _ _

theorem grant (h : LogInv s) (hfree : s.memory.port = none) : LogInv (grant s) := by
  rcases grant_cases s with ⟨-, hg⟩ | ⟨q, -, hg⟩ | ⟨l, q, -, -, hq, hg⟩ | hg <;> rw [hg]
  · exact h.of_work rfl (noNewWork_granted s.memory rfl)
  · have hwithdrawn : LogInv { s with memory := { s.memory with lensRequest := none } } :=
      h.of_work rfl (noNewWork_of_port rfl rfl)
    unfold grantSegment
    dsimp only
    split
    · exact hwithdrawn.of_work rfl (noNewWork_granted _ rfl)
    · have hmoved := movedInScan_continueTargets { s with memory := { s.memory with lensRequest := none } }
      exact hwithdrawn.of_work (block_of_frame State.log hmoved rfl) hmoved.noNewWork
  · have hserved : LogInv
        { s with memory := { s.memory with linkRequests := s.memory.linkRequests.set l none, lastServed := l } } :=
      h.of_work rfl (noNewWork_cleared s.memory l l)
    have hserve {u : State} {b : Burst} (hu : LogInv u)
        (hb : ∀ gap start k, b.holder ≠ .logRead l gap start k) (hl : b.holder.link = some l) :
        LogInv { u with memory := { u.memory with port := some b } } := by
      obtain ⟨hok, hreads⟩ := (logInv_iff u).1 hu
      refine of_parts hok ⟨hreads.1, fun k gap start n n' left got hport => ?_⟩
      cases hport
      cases hl
      exact absurd rfl (hb gap start n)
    have hrequest : (s.memory.linkRequests.set l none).get l = none := PerLink.get_set_self _ _ _
    have hnowork : ∀ b, s.memory.port = some b → b.holder.link ≠ some l := fun b hb => by
      rw [hfree] at hb
      cases hb
    unfold grantLink
    dsimp only
    split
    · next maximum =>
      split
      · exact hserved.readNothing hrequest hnowork
      · obtain ⟨hok, hreads⟩ := (logInv_iff _).1 (hserved.clearGap hrequest hnowork)
        refine of_parts hok ⟨hreads.1, fun k gap start n n' left got hport => ?_⟩
        cases hport
        have hattached := h.2.2.1 l maximum hq
        have hreader : (Machine.clearGap l s).log.readers.get l = { s.log.readers.get l with gap := 0 } :=
          onReader_get_self _ _ _
        have hgoal : ((Machine.clearGap l s).log.readers.get l).attached = true ∧
            ((Machine.clearGap l s).log.readers.get l).cursor = (s.log.readers.get l).cursor ∧
            s.log.readCount l maximum ≤ (Machine.clearGap l s).log.unread l := by
          rw [PairLog.unread, hreader]
          exact ⟨hattached, rfl, Nat.min_le_right _ _⟩
        exact hgoal
    · exact hserve hserved (fun _ _ _ => nofun) rfl
    · split
      · exact hserved
      · exact hserve hserved (fun _ _ _ => nofun) rfl
  · exact h

theorem freed (h : LogInv s) : LogInv { s with memory := { s.memory with port := none } } :=
  h.of_work rfl (noNewWork_freed s.memory)

theorem endBurst {b : Burst} (hledger : Ledger 0 s) (hport : s.memory.port = some b) (h : LogInv s) :
    LogInv (endBurst b s) := by
  rcases endBurst_cases b s with ⟨-, hend⟩ | ⟨-, hend⟩ | ⟨c, lower, trim, isLive, -, hend⟩ |
    ⟨l, gap, start, k, hholder, hend⟩ | ⟨l, c, first, points, -, hend⟩ | ⟨l, c, index, state, count, -, hend⟩ <;>
    rw [hend]
  · exact h.freed
  · obtain ⟨hok, hreads⟩ := (logInv_iff _).1 h.freed
    refine stopIfDrained (s := appendRecord _) ?_ _
    refine of_parts ?_ ?_
    · rw [appendRecord_log]
      exact hok.appended
    · rw [appendRecord_log, appendRecord_memory]
      exact hreads.of_free (fun b hb => nomatch hb) fun l hl => by rwa [appended_attached]
  · have hmoved := endSegment_movedInScan { s with memory := { s.memory with port := none } } c trim isLive b.got
    exact h.freed.of_work (block_of_frame State.log hmoved rfl) hmoved.noNewWork
  · have hread := h.2.2.2 l gap start k b.length b.left b.got (by rw [hport, ← hholder])
    exact h.freed.finishLogRead (hledger.no_request hport (by rw [hholder]; rfl)) (fun _ hb => nomatch hb) hread.2.2 _ _ _
  · exact h.freed
  · unfold endTableRead
    split
    · exact h.freed
    · exact h.freed

/-! ### Commands -/

theorem withRequest (h : LogInv s) (l : Link) {q : LinkRequest}
    (hq : ∀ maximum, q = .logRead maximum → (s.log.readers.get l).attached = true) : LogInv (withRequest l q s) := by
  obtain ⟨hok, hrequests, hport⟩ := (logInv_iff s).1 h
  refine of_parts hok ⟨fun k maximum hk => ?_, hport⟩
  by_cases hkl : k = l
  · subst hkl
    simp only [Machine.withRequest, PerLink.get_set_self, Option.some.injEq] at hk
    exact hq maximum hk
  · exact hrequests k maximum (by simpa [Machine.withRequest, PerLink.get_set_ne _ _ hkl] using hk)

theorem takeLog {i : Instr} {m : Message} (ho : commandOwner i = .log) (hm : i.message = some m)
    (hledger : Ledger (owedBy (some m.l)) s) (h : LogInv s) : LogInv (takeCommand i s) := by
  obtain ⟨hok, hreads⟩ := (logInv_iff s).1 h
  obtain ⟨hrequest, hport⟩ := hledger.no_work
  cases i with
  | logAttach l =>
    cases hm
    have hlog : (takeCommand (.logAttach l) s).log = s.log.withReader l fun _ => ⟨true, s.log.oldest, 0⟩ := rfl
    refine of_parts ?_ ?_
    · rw [hlog]
      refine hok.withReader ⟨Nat.zero_le _, fun _ => ?_⟩
      have hcount := hok.1
      simp only [PairLog.oldest]
      have hnat : (BitVec.ofNat 32 s.log.count).toNat = s.log.count := Nat.mod_eq_of_lt (by omega)
      bv_omega
    · rw [hlog]
      exact hreads.withReader _ hrequest hport
  | logDetach l =>
    cases hm
    simp only [takeCommand, takeLogDetach]
    split
    · have hdetached := hok.withReader (l := l) (f := fun r => { r with attached := false })
        ⟨(hok.2 l).1, fun hfalse => nomatch hfalse⟩
      exact of_parts hdetached (hreads.withReader (l := l) (fun r => { r with attached := false }) hrequest hport)
    · exact h
  | logRead l maximum =>
    cases hm
    simp only [takeCommand, takeLogRead]
    split
    · exact h
    next hattached =>
    split
    · exact h
    split
    · exact h.readNothing hrequest hport
    · exact h.withRequest l fun _ _ => by simpa using hattached
  | _ => cases ho

theorem takeTable {i : Instr} {m : Message} (ho : commandOwner i = .table) (hm : i.message = some m) (h : LogInv s) :
    LogInv (takeCommand i s) := by
  rcases takeTable_moves ho hm s with ⟨u, st, data, hmove, ht⟩ | hrequest
  · rw [ht]
    cases hmove <;> exact h
  · generalize takeCommand i s = t at hrequest
    cases hrequest with
    | entry c first points _ _ _ _ =>
      have hedited : LogInv (editTable c (fun x => { x with lapse := none }) s) := h
      exact hedited.withRequest m.l fun maximum hq => nomatch hq
    | read c index => exact h.withRequest m.l fun maximum hq => nomatch hq

theorem restart (h : LogInv s) : LogInv (restartBlocks s) := by
  obtain ⟨-, hreads⟩ := (logInv_iff s).1 h
  rw [restartBlocks_frame]
  refine of_parts (PairLog.Ok.emptied s.log) ⟨fun l maximum hq => ?_, fun l gap start k n left got hb => ?_⟩
  · rw [show s.log.emptied.readers.get l = _ from PerLink.get_build _ l]
    exact hreads.1 l maximum hq
  · have hcut := (Option.filter_eq_some_iff.1 hb).2
    simp [Burst.restartCuts] at hcut

theorem takeRun (h : LogInv s) (l : Link) (cast : Addressing) (start : Option (BitVec 32)) :
    LogInv (takeRun l cast start s) := by
  unfold Machine.takeRun
  split
  · have hstarted : LogInv (startRun start s) :=
      h.of_frame (block_of_frame State.log (startRun_frame s start) rfl)
        (block_of_frame State.memory (startRun_frame s start) rfl)
    have hanswered : LogInv (answerDuring s l cast .ok [] (startRun start s)) := hstarted.of_frame (by simp) (by simp)
    dsimp only
    split
    · unfold takeBoundary
      split
      · exact hanswered.boundary s .schedule
      · exact hanswered
    · exact hanswered
  · cases cast <;> exact h

theorem takeStop (h : LogInv s) (l : Link) (cast : Addressing) : LogInv (takeStop l cast s) := by
  unfold Machine.takeStop
  split
  · have hdraining : LogInv { s with timing := { s.timing with run := .draining, rephase := none } } := h
    exact (hdraining.stopIfDrained s).of_frame (by simp) (by simp)
  · cases cast <;> exact h

theorem takeRestart (h : LogInv s) (l : Link) (cast : Addressing) : LogInv (takeRestart l cast s) := by
  unfold Machine.takeRestart
  exact h.restart.of_frame (by simp) (by simp)

theorem takeCommand {i : Instr} {m : Message} (hm : i.message = some m) (hledger : Ledger (owedBy (dueTo m.l m.cast)) s)
    (h : LogInv s) : LogInv (takeCommand i s) := by
  have hframe := takeCommand_frame i s
  cases ho : commandOwner i <;> rw [ho] at hframe
  case run =>
    cases i with
    | run l cast start => exact h.takeRun l cast start
    | stop l cast => exact h.takeStop l cast
    | restart l cast => exact h.takeRestart l cast
    | _ => cases ho
  case log => exact h.takeLog ho hm (hledger.unicast hm (by simp [ho]))
  case table => exact h.takeTable ho hm
  all_goals exact h.of_frame (block_of_frame State.log hframe rfl) (block_of_frame State.memory hframe rfl)

end LogInv

/-! ### The invariant -/

theorem keptByEvents_logInv : KeptByEvents fun s => RepliesStand s ∧ LogInv s := by
  have hr := keptByEvents_repliesStand
  exact
    { input := fun r f s ⟨h, hl⟩ => ⟨hr.input r f s h,
        hl.of_frame (block_of_frame State.log (onInput_frame s r f) rfl)
          (block_of_frame State.memory (onInput_frame s r f) rfl)⟩
      lockLeft := fun s hrun hmode ⟨h, hl⟩ =>
        ⟨hr.lockLeft s hrun hmode h, hl.of_frame (by simp) (setRef_memory s _)⟩
      holdOver := fun s hdue ⟨h, hl⟩ => ⟨hr.holdOver s hdue h, hl.of_frame (by simp) (setRef_memory s _)⟩
      boundary := fun begun cause s hrun ⟨h, hl⟩ => ⟨hr.boundary begun cause s hrun h, hl.boundary begun cause⟩
      reachStopped := fun begun s hdue ⟨h, hl⟩ => ⟨hr.reachStopped begun s hdue h,
        hl.of_frame (by simp) (reachStopped_memory s begun)⟩
      applyCommit := fun begun s hrun hstage ⟨h, hl⟩ => ⟨hr.applyCommit begun s hrun hstage h,
        hl.of_frame (by simp) (applyWhileStopped_memory s begun _)⟩
      applyTimecode := fun begun s hrun ⟨h, hl⟩ => ⟨hr.applyTimecode begun s hrun h,
        hl.of_frame (by simp) (applyPendingTimecode_memory s begun)⟩
      stray := fun e s ⟨h, hl⟩ => ⟨hr.stray e s h, hl⟩
      assign := fun e s hrun ⟨h, hl⟩ => ⟨hr.assign e s hrun h, hl.of_frame (by simp) (assignReturn_memory s e)⟩
      synth := fun e s ⟨h, hl⟩ => ⟨hr.synth e s h, hl.of_frame (by simp) (handSynth_memory s e)⟩
      decide := fun e s ⟨h, hl⟩ => ⟨hr.decide e s h, hl.of_frame (by simp) (decideTrigger_memory s e)⟩
      pulseEnd := fun e s ⟨h, hl⟩ => ⟨hr.pulseEnd e s h, hl⟩
      close := fun n s ⟨h, hl⟩ => ⟨hr.close n s h, hl.of_frame (by simp) (closeSlot_memory s n)⟩
      lapseEdit := fun s hdue ⟨h, hl⟩ => ⟨hr.lapseEdit s hdue h,
        hl.of_frame (block_of_frame State.log (lapseEdit_frame s) rfl)
          (block_of_frame State.memory (lapseEdit_frame s) rfl)⟩
      lapseTable := fun c s hdue ⟨h, hl⟩ => ⟨hr.lapseTable c s hdue h,
        hl.of_frame (block_of_frame State.log (lapseTable_frame s c) rfl)
          (block_of_frame State.memory (lapseTable_frame s c) rfl)⟩
      grant := fun s hdue ⟨h, hl⟩ => ⟨hr.grant s hdue h, hl.grant (by
        rw [grantDue, Bool.and_eq_true] at hdue
        simpa using hdue.1)⟩
      burstEnd := fun b s hport hleft ⟨h, hl⟩ => ⟨hr.burstEnd b s hport hleft h, hl.endBurst h.2 hport⟩
      scanDue := fun s hdue ⟨h, hl⟩ => ⟨hr.scanDue s hdue h,
        hl.of_work (block_of_frame State.log (scanTimer_movedInScan s) rfl) (scanTimer_movedInScan s).noNewWork⟩
      conversions := fun s hdue ⟨h, hl⟩ => ⟨hr.conversions s hdue h,
        hl.of_work (block_of_frame State.log (endConversions_movedInScan s) rfl)
          (endConversions_movedInScan s).noNewWork⟩ }

/-- An empty log without readers, and without work for a link. -/
theorem logInv_of_pinReset {s : State} (hlog : s.log = .pinReset) (hrequests : ∀ l, s.memory.linkRequests.get l = none)
    (hport : ∀ b, s.memory.port = some b → b.holder.link = none) : LogInv s := by
  refine LogInv.of_parts ?_ ⟨fun l maximum hq => ?_, fun l gap start k n left got hb => ?_⟩
  · rw [hlog]
    refine ⟨Nat.zero_le _, fun l => ?_⟩
    rw [show PairLog.pinReset.readers.get l = _ from PerLink.get_build _ l]
    exact ⟨Nat.zero_le _, fun hfalse => nomatch hfalse⟩
  · rw [hrequests l] at hq
    cases hq
  · have hlink := hport _ hb
    cases hlink

theorem keptByParts_logInv : KeptByParts fun s => ReplyInv s ∧ LogInv s := by
  have hr := keptByParts_replyInv
  exact
    { queue := fun s pending ties h => h
      reset := fun s h => ⟨hr.reset s h.1,
        logInv_of_pinReset rfl (fun l => by cases l <;> rfl) fun b hb => nomatch hb⟩
      release := fun sel rate s hpins ⟨h, hl⟩ => ⟨hr.release sel rate s hpins h,
        hl.of_work (t := releaseReset sel rate s) rfl (noNewWork_granted s.memory rfl)⟩
      receiver := fun l s t hmove ⟨h, hl⟩ => ⟨hr.receiver l s t hmove h, by
        obtain ⟨x, rfl, -, -⟩ := hmove
        exact hl⟩
      command := fun i m s hm hready ⟨h, hl⟩ => ⟨hr.command i m s hm hready h,
        LogInv.takeCommand (s := s.taken m.l m.cast) hm (((replyInv_iff s).1 h).1.taken hready) hl⟩
      event := fun i s hpins ⟨h, hl⟩ => by
        obtain ⟨hnext, hlog⟩ := keptByEvents_logInv.event i ⟨h.repliesStand hpins, hl⟩
        exact ⟨hnext.replyInv, hlog⟩
      tick := fun s hpins hdue hmissing ⟨h, hl⟩ =>
        ⟨hr.tick s hpins hdue hmissing h, hl.of_work (by rw [passTick_frame]) (noNewWork_passTick s)⟩ }

/-- Settles O57. -/
theorem everyStepKeepsTheLogReaders : Obligations.EveryStepKeepsTheLogReaders :=
  fun _ _ hstep =>
    ⟨keptByParts_logReadyInv.step hstep, fun hreply hlog => (keptByParts_logInv.step hstep ⟨hreply, hlog⟩).2⟩

end Sys2Proof.Machine
end

section
/-!
PROOFS. The state after reset meets every invariant (R24, R25, R83, R95, R109, R128, R129, R149, R153, R179).
-/

namespace Sys2Proof.Machine

theorem replyInv_reset : ReplyInv .reset := by
  refine ⟨fun l => ?_, fun hreset => nomatch hreset⟩
  cases l <;> decide

theorem requests_reset (l : Link) : State.reset.memory.linkRequests.get l = none := by
  cases l <;> rfl

theorem tableInv_reset : TableInv .reset := by
  refine tableInv_of_pinReset rfl fun l c first points hentry => ?_
  rcases hentry with hq | ⟨n, left, got, hb⟩
  · rw [requests_reset] at hq
    cases hq
  · cases hb

theorem logInv_reset : LogInv .reset := by
  refine logInv_of_pinReset rfl requests_reset fun b hb => ?_
  cases hb
  rfl

theorem burstInv_reset : BurstInv .reset := by
  refine ⟨fun c => ?_, fun b hb => ?_, fun q hq => (by cases hq), fun l c first points hq => ?_⟩
  · rw [show channelGet State.reset.lens.tables c = _ from channelGet_build _ c]
    exact Nat.zero_le _
  · cases hb
    exact ⟨Nat.le_refl _, Nat.le_refl _⟩
  · rw [requests_reset] at hq
    cases hq

theorem sweepInv_reset : SweepInv .reset := by
  refine ⟨Memory.wf_reset, fun n left got hport a ha => ?_⟩
  cases hport
  exact absurd ha (by omega)

theorem memoryInv_reset : MemoryInv .reset := ⟨Memory.wf_reset, fun _ _ => rfl⟩

theorem timecodeInv_reset : TimecodeInv .reset := ⟨⟨rfl, legalTimecode_pinReset⟩, fun _ hw => nomatch hw⟩

/-- Settles O50. -/
theorem resetMeetsEveryInvariant : Obligations.ResetMeetsEveryInvariant := by
  have hslots : RunInv .reset ∧ SlotInv .reset ∧ TriggerInv .reset :=
    (consistent_iff .reset).1 (consistent_pinReset rfl rfl rfl)
  obtain ⟨hrun, hslot, htrigger⟩ := hslots
  exact ⟨memoryInv_reset, sweepInv_reset, planInv_reset, rfl, hrun, hslot, htrigger, timecodeInv_reset, replyInv_reset,
    logReadyInv_reset, logInv_reset, tableInv_reset, statusInv_reset, outputInv_reset, conversionInv_of_scan_none rfl,
    burstInv_reset⟩

end Sys2Proof.Machine
end

section
/-!
PROOFS. LOG_ATTACH, LOG_DETACH and LOG_READ at its taking (R99 to R104, R107).
-/

namespace Sys2Proof.Machine

theorem holds_showReady_eq (ready : Bool) (events : EventSet) (k : EventKind) :
    holds (showReady ready events) k = if k = .logReady then ready else holds events k := by
  split
  · next hk => rw [hk, holds_showReady]
  · next hk =>
    cases ready with
    | true =>
      rw [Bool.eq_iff_iff]
      exact holds_or_mask.trans (or_iff_left hk)
    | false =>
      have hbit : EventKind.logReady.mask.getLsbD k.bit = false := by rw [EventKind.getLsbD_mask, decide_eq_false hk]
      have hlt : k.bit < 13 := by cases k <;> decide
      simp only [showReady, holds, Bool.false_eq_true, if_false, BitVec.getLsbD_and, BitVec.getLsbD_not, hbit, hlt]
      simp

theorem unread_eq_zero_iff {g : PairLog} {l : Link} : g.unread l = 0 ↔ g.next = (g.readers.get l).cursor := by
  rw [PairLog.unread]
  bv_omega

/-- The state after a command of link `l` moved its reader and re-formed its LOG_READY. -/
def readerMoved (l : Link) (f : Reader → Reader) (s : State) : State := reformReady l (onReader l f (s.taken l .unicast))

section ReaderMoved

variable (l : Link) (f : Reader → Reader) (s : State)

theorem readerMoved_log :
    (readerMoved l f s).log = { s.log with readers := s.log.readers.set l (f (s.log.readers.get l)) } := rfl

theorem readerMoved_ovr : ((readerMoved l f s).links.get l).ovr = (s.links.get l).ovr := by
  simp [readerMoved, reformReady]

theorem readerMoved_events :
    ((readerMoved l f s).links.get l).events = showReady ((readerMoved l f s).log.ready l) (s.links.get l).events := by
  simp [readerMoved, reformReady]

theorem otherLinks_readerMoved (st : Status) (data : List Byte) (evt : Bool) :
    OtherLinks l s (replyWith l st data evt (readerMoved l f s)) := by
  intro k hk
  rw [replyWith_get_ne _ st data evt hk, readerMoved, reformReady, onLink_get_ne _ _ hk]
  exact taken_get_ne .unicast hk

theorem readerMoved_ready {r : Reader} (hr : f (s.log.readers.get l) = r) :
    (readerMoved l f s).log.ready l = (r.attached && decide (0 < (s.log.next - r.cursor).toNat)) := by
  rw [readerMoved_log, PairLog.ready, PairLog.unread, PerLink.get_set_self, hr]

end ReaderMoved

/-- A reader that can read nothing shows no LOG_READY. -/
theorem holds_readerMoved_of_not_ready {l : Link} {f : Reader → Reader} {s : State}
    (h : (readerMoved l f s).log.ready l = false) (k : EventKind) :
    holds ((readerMoved l f s).links.get l).events k = (holds (s.links.get l).events k && decide (k ≠ .logReady)) := by
  rw [readerMoved_events, h, holds_showReady_eq]
  by_cases hk : k = .logReady <;> simp [hk]

theorem takeLogDetach_of_attached {l : Link} {s : State} (h : (s.log.readers.get l).attached = true) :
    takeLogDetach l (s.taken l .unicast) =
      replyDuring (s.taken l .unicast) l .ok [] (readerMoved l (fun r => { r with attached := false }) s) :=
  if_pos h

theorem takeLogDetach_of_detached {l : Link} {s : State} (h : (s.log.readers.get l).attached = false) :
    takeLogDetach l s = reply l .state [] s :=
  if_neg (by simp [h])

section LogRead

variable {l : Link} {maximum : Byte} {s : State}

theorem takeLogRead_of_detached (h : (s.log.readers.get l).attached = false) :
    takeLogRead l maximum s = reply l .state [] s := by
  rw [takeLogRead, h]
  rfl

theorem takeLogRead_of_out_of_range (h : (s.log.readers.get l).attached = true)
    (hrange : maximum.toNat < 1 ∨ 4 < maximum.toNat) : takeLogRead l maximum s = reply l .val [] s := by
  rw [takeLogRead, h, if_neg (by decide), if_pos hrange]

theorem takeLogRead_of_unread (h : (s.log.readers.get l).attached = true) (hlo : 1 ≤ maximum.toNat)
    (hhi : maximum.toNat ≤ 4) (hunread : s.log.unread l ≠ 0) :
    takeLogRead l maximum s = withRequest l (.logRead maximum.toNat) s := by
  rw [takeLogRead, h, if_neg (by decide), if_neg (by omega), if_neg hunread]
  rfl

theorem takeLogRead_of_nothing (h : (s.log.readers.get l).attached = true) (hlo : 1 ≤ maximum.toNat)
    (hhi : maximum.toNat ≤ 4) (hunread : s.log.unread l = 0) : takeLogRead l maximum s = readNothing l s := by
  rw [takeLogRead, h, if_neg (by decide), if_neg (by omega), if_pos hunread]

/-- The end of a LOG_READ that finds nothing unread. -/
theorem readNothing_taken :
    readNothing l (s.taken l .unicast) =
      reply l .ok
        ([BitVec.ofNat 8 (s.log.readers.get l).gap, 0] ++ bytesOf 4 (s.log.readers.get l).cursor.toNat)
        (readerMoved l (fun r => { r with gap := 0 }) s) := by
  have hreader : onReader l (fun r => { r with cursor := r.cursor + BitVec.ofNat 32 0 })
      (clearGap l (s.taken l .unicast)) = onReader l (fun r => { r with gap := 0 }) (s.taken l .unicast) := by
    simp [onReader, clearGap]
  rw [readNothing, finishLogRead, hreader]
  simp [logReadReport, carriedRecords, readerMoved]
  rfl

end LogRead

/-- Settles O38: the reader is moved first, and its LOG_READY follows from where it then stands. -/
theorem logCommandsMoveTheirOwnReader : Obligations.LogCommandsMoveTheirOwnReader := by
  intro l s hready
  refine ⟨⟨takeLogAttach l (s.taken l .unicast), handOver_ready hready .unicast _, ?_⟩,
    ⟨takeLogDetach l (s.taken l .unicast), handOver_ready hready .unicast _, ?_⟩,
    fun maximum => ⟨takeLogRead l maximum (s.taken l .unicast), handOver_ready hready .unicast _, ?_⟩⟩
  · refine ⟨?_, rfl, fun hcount k => ?_, otherLinks_readerMoved l _ s _ _ _, rfl⟩
    · exact replyDuring_answered .ok _ rfl (readerMoved_ovr l _ s) (taken_attention l l .unicast)
    · have hoffset : (s.log.next - (s.log.next - BitVec.ofNat 32 s.log.count)).toNat = s.log.count := by
        have hnat : (BitVec.ofNat 32 s.log.count).toNat = s.log.count := Nat.mod_eq_of_lt (by omega)
        bv_omega
      have hsmall : s.log.count % 4294967296 = s.log.count := Nat.mod_eq_of_lt (by omega)
      have hshown : ((takeLogAttach l (s.taken l .unicast)).links.get l).events =
          ((readerMoved l (fun _ => ⟨true, s.log.oldest, 0⟩) s).links.get l).events := replyWith_events _ l _ _ _
      rw [hshown, readerMoved_events, holds_showReady_eq, readerMoved_ready l _ s rfl]
      simp [PairLog.oldest, hsmall]
  · refine ⟨fun hdetached => ?_, fun hattached => ?_⟩
    · rw [takeLogDetach_of_detached (s := s.taken l .unicast) hdetached]
      exact reply_taken l .state []
    · rw [takeLogDetach_of_attached hattached]
      refine ⟨?_, rfl, fun k => ?_, otherLinks_readerMoved l _ s _ _ _, rfl⟩
      · exact replyDuring_answered .ok _ rfl (readerMoved_ovr l _ s) (taken_attention l l .unicast)
      · rw [replyDuring, replyWith_events]
        exact holds_readerMoved_of_not_ready (readerMoved_ready l _ s rfl) k
  · refine ⟨fun hdetached => ?_, fun hattached hrange => ?_, fun hattached hlo hhi => ?_⟩
    · rw [takeLogRead_of_detached (s := s.taken l .unicast) hdetached]
      exact reply_taken l .state []
    · rw [takeLogRead_of_out_of_range (s := s.taken l .unicast) hattached hrange]
      exact reply_taken l .val []
    · refine ⟨fun hnone => ?_, fun hsome => ?_⟩
      · rw [takeLogRead_of_nothing (s := s.taken l .unicast) hattached hlo hhi (unread_eq_zero_iff.2 hnone),
          readNothing_taken]
        refine ⟨reply_answered .ok _ rfl (readerMoved_ovr l _ s), rfl, fun k => ?_,
          otherLinks_readerMoved l _ s _ _ _, rfl⟩
        rw [reply, replyWith_events]
        refine holds_readerMoved_of_not_ready ?_ k
        rw [readerMoved_ready l _ s rfl]
        simp [hnone]
      · rw [takeLogRead_of_unread (s := s.taken l .unicast) hattached hlo hhi
          fun hzero => hsome (unread_eq_zero_iff.1 hzero)]
        exact ⟨leftExecuting_of_links rfl, rfl⟩

end Sys2Proof.Machine
end

section
/-!
PROOFS. The table commands (R113 to R120) and the lens commands (R131 to R139).
-/

namespace Sys2Proof.Machine

/-! ### Operand codes (R181) -/

section Codes

variable {b eye axis : Byte}

theorem eyeOfCode_of_ge (h : 2 ≤ b.toNat) : eyeOfCode b = none := by
  unfold eyeOfCode
  split
  · omega
  · omega
  · rfl

theorem axisOfCode_of_ge (h : 3 ≤ b.toNat) : axisOfCode b = none := by
  unfold axisOfCode
  split
  · omega
  · omega
  · omega
  · rfl

/-- The sources in the order of their codes. -/
theorem sourceOfCode_eq (b : Byte) : sourceOfCode b = [Source.link .a, .link .b, .link .c, .wheel][b.toNat]? := by
  unfold sourceOfCode
  split
  · next h => rw [h]; rfl
  · next h => rw [h]; rfl
  · next h => rw [h]; rfl
  · next h => rw [h]; rfl
  · next h0 h1 h2 h3 =>
    have hne : b.toNat ≠ 0 ∧ b.toNat ≠ 1 ∧ b.toNat ≠ 2 ∧ b.toNat ≠ 3 := ⟨h0, h1, h2, h3⟩
    exact (List.getElem?_eq_none (by simp only [List.length_cons, List.length_nil]; omega)).symm

/-- The scan modes in the order of their codes. -/
theorem scanModeOfCode_eq (b : Byte) : scanModeOfCode b = [ScanMode.off, .free, .frame][b.toNat]? := by
  unfold scanModeOfCode
  split
  · next h => rw [h]; rfl
  · next h => rw [h]; rfl
  · next h => rw [h]; rfl
  · next h0 h1 h2 =>
    have hne : b.toNat ≠ 0 ∧ b.toNat ≠ 1 ∧ b.toNat ≠ 2 := ⟨h0, h1, h2⟩
    exact (List.getElem?_eq_none (by simp only [List.length_cons, List.length_nil]; omega)).symm

theorem boolOfCode_of_code {on : Bool} (h : b.toNat = if on = true then 1 else 0) : boolOfCode b = some on := by
  unfold boolOfCode
  cases on <;> simp_all

theorem channelOfCodes_of_eye (h : eyeOfCode eye = none) : channelOfCodes eye axis = none := by
  simp [channelOfCodes, h]

theorem channelOfCodes_of_axis (h : axisOfCode axis = none) : channelOfCodes eye axis = none := by
  unfold channelOfCodes
  rw [h]
  split
  · next he => cases he
  · rfl

theorem channelOfCodes_of_out (h : 2 ≤ eye.toNat ∨ 3 ≤ axis.toNat) : channelOfCodes eye axis = none :=
  h.elim (fun he => channelOfCodes_of_eye (eyeOfCode_of_ge he)) fun ha => channelOfCodes_of_axis (axisOfCode_of_ge ha)

theorem channelOfCodes_of_some {e : Eye} {x : Axis} (he : eyeOfCode eye = some e) (hx : axisOfCode axis = some x) :
    channelOfCodes eye axis = some ⟨e, x⟩ := by
  simp [channelOfCodes, he, hx]

/-- The codes that name a channel. -/
theorem channelOfCodes_of_codes {c : ChannelId} (he : eye.toNat = if c.eye = .left then 0 else 1)
    (hx : axis.toNat = match c.axis with | .focus => 0 | .iris => 1 | .zoom => 2) :
    channelOfCodes eye axis = some c := by
  obtain ⟨e, x⟩ := c
  refine channelOfCodes_of_some ?_ ?_
  · cases e <;> simp_all [eyeOfCode]
  · cases x <;> simp_all [axisOfCode]

end Codes

/-! ### TABLE_ENTRY and TABLE_READ (R115, R116, R120) -/

section TableRequests

variable {l : Link} {eye axis first : Byte} {points : List (BitVec 16 × BitVec 16)} {c : ChannelId} {s : State}

theorem withTable_of_none {own : ChannelId → State → State} (h : channelOfCodes eye axis = none) :
    withTable l eye axis own s = reply l .val [] s := by
  unfold withTable
  rw [h]

theorem withTable_of_some {own : ChannelId → State → State} (h : channelOfCodes eye axis = some c) :
    withTable l eye axis own s = own c s := by
  unfold withTable
  rw [h]

theorem withLoad_of_state {own : State → State} (h : (channelGet s.lens.tables c).state ≠ .loading) :
    withLoad l c own s = reply l .state [] s :=
  if_pos h

theorem withLoad_of_held {own : State → State} (h : (channelGet s.lens.tables c).state = .loading)
    (hl : (channelGet s.lens.tables c).loader ≠ some l) : withLoad l c own s = reply l .held [] s :=
  (if_neg (not_not.2 h)).trans (if_pos hl)

theorem withLoad_of_loader {own : State → State} (h : (channelGet s.lens.tables c).state = .loading)
    (hl : (channelGet s.lens.tables c).loader = some l) : withLoad l c own s = own s :=
  (if_neg (not_not.2 h)).trans (if_neg (not_not.2 hl))

theorem takeTableEntry_of_bad_count (h : points.length = 0 ∨ 4 < points.length) :
    takeTableEntry l eye axis first points s = reply l .len [] s :=
  if_pos (by omega)

/-- What TABLE_ENTRY does for a table's loader (R115, R116). -/
def loadEntry (l : Link) (c : ChannelId) (first : Byte) (points : List (BitVec 16 × BitVec 16)) (s : State) : State :=
  if (channelGet s.lens.tables c).count < first.toNat ∨ 32 < first.toNat + points.length ∨
      points.any (fun p => 4095 < p.2.toNat) then
    reply l .val [] s
  else withRequest l (.tableEntry c first.toNat points) (editTable c (fun t => { t with lapse := none }) s)

theorem takeTableEntry_of_count (hlo : 1 ≤ points.length) (hhi : points.length ≤ 4) :
    takeTableEntry l eye axis first points s =
      withTable l eye axis (fun c => withLoad l c (loadEntry l c first points)) s :=
  if_neg (by omega)

theorem loadEntry_of_bad (h : (channelGet s.lens.tables c).count < first.toNat ∨ 32 < first.toNat + points.length ∨
    ∃ p ∈ points, 4095 < p.2.toNat) : loadEntry l c first points s = reply l .val [] s :=
  if_pos (by simpa using h)

theorem loadEntry_of_good (hcount : first.toNat ≤ (channelGet s.lens.tables c).count)
    (hfits : first.toNat + points.length ≤ 32) (hcodes : ∀ p ∈ points, p.2.toNat ≤ 4095) :
    loadEntry l c first points s =
      withRequest l (.tableEntry c first.toNat points) (editTable c (fun t => { t with lapse := none }) s) := by
  refine if_neg ?_
  simp only [List.any_eq_true, decide_eq_true_eq, not_or, Nat.not_lt]
  refine ⟨hcount, hfits, ?_⟩
  rintro ⟨p, hp, hlt⟩
  exact absurd (hcodes p hp) (Nat.not_le.2 hlt)

theorem takeTableRead_of_beyond (hc : channelOfCodes eye axis = some c)
    (h : (channelGet s.lens.tables c).count ≤ first.toNat) : takeTableRead l eye axis first s = reply l .val [] s :=
  (withTable_of_some hc).trans (if_pos h)

theorem takeTableRead_of_within (hc : channelOfCodes eye axis = some c)
    (h : first.toNat < (channelGet s.lens.tables c).count) :
    takeTableRead l eye axis first s = withRequest l (.tableRead c first.toNat) s :=
  (withTable_of_some hc).trans (if_neg (Nat.not_le.2 h))

end TableRequests

/-- Settles O40: the count of breakpoints, the codes, the state, the loader and the ranges decide in this order. -/
theorem tableEntryAndReadLeaveARequest : Obligations.TableEntryAndReadLeaveARequest := by
  intro l eye axis first points s hready
  refine ⟨⟨takeTableEntry l eye axis first points (s.taken l .unicast), handOver_ready hready .unicast _,
    fun hbad => ?_, fun hlo hhi => ?_⟩, ⟨takeTableRead l eye axis first (s.taken l .unicast),
    handOver_ready hready .unicast _, fun hout => ?_, fun c he hx => ?_⟩⟩
  · rw [takeTableEntry_of_bad_count hbad]
    exact reply_taken l .len []
  · rw [takeTableEntry_of_count hlo hhi]
    refine ⟨fun hout => ?_, fun c he hx T hT => ?_⟩
    · rw [withTable_of_none (channelOfCodes_of_out hout)]
      exact reply_taken l .val []
    · subst hT
      rw [withTable_of_some (channelOfCodes_of_codes he hx)]
      refine ⟨fun hstate => ?_, fun hstate hloader => ?_, fun hstate hloader => ?_⟩
      · rw [withLoad_of_state (s := s.taken l .unicast) hstate]
        exact reply_taken l .state []
      · rw [withLoad_of_held (s := s.taken l .unicast) hstate hloader]
        exact reply_taken l .held []
      · rw [withLoad_of_loader (s := s.taken l .unicast) hstate hloader]
        refine ⟨fun hbad => ?_, fun hcount hfits hcodes => ?_⟩
        · rw [loadEntry_of_bad (s := s.taken l .unicast) hbad]
          exact reply_taken l .val []
        · rw [loadEntry_of_good (s := s.taken l .unicast) hcount hfits hcodes]
          exact ⟨leftExecuting_of_links rfl, rfl⟩
  · rw [show takeTableRead l eye axis first (s.taken l .unicast) = _ from
      withTable_of_none (channelOfCodes_of_out hout)]
    exact reply_taken l .val []
  · have hc := channelOfCodes_of_codes he hx
    refine ⟨fun hbeyond => ?_, fun hwithin => ?_⟩
    · rw [takeTableRead_of_beyond (s := s.taken l .unicast) hc hbeyond]
      exact reply_taken l .val []
    · rw [takeTableRead_of_within (s := s.taken l .unicast) hc hwithin]
      exact ⟨leftExecuting_of_links rfl, rfl⟩

/-! ### TABLE_BEGIN, TABLE_END, TABLE_ABORT and the lapse (R114, R117 to R119) -/

/-- Entering the status that the table of R137 gives is re-forming (R111). -/
theorem formedStatus_eq (u : LensUnit) (c : ChannelId) :
    formedStatus (channelGet u.channels c).drive (channelGet u.tables c).state.holdReason u.scanning = u.statusGiven c := by
  unfold LensUnit.statusGiven LensUnit.statusWhenOn formedStatus LensUnit.scanning
  cases hdrive : (channelGet u.channels c).drive with
  | false => rfl
  | true =>
    cases hstate : (channelGet u.tables c).state <;> simp [TableState.holdReason]

theorem reformedTo_enter {st : ChannelStatus} (hst : st = .settling ∨ st = .off ∨ ∃ r, st = .hold r) (settle : Nat)
    (ch : Channel) : ReformedTo st settle ch (ch.enter st settle) := by
  unfold ReformedTo Channel.enter
  rcases hst with rfl | rfl | ⟨r, rfl⟩ <;> rfl

/-- The status that the table of R137 gives is OFF, a hold or SETTLING. -/
theorem statusGiven_cases (u : LensUnit) (c : ChannelId) :
    u.statusGiven c = .settling ∨ u.statusGiven c = .off ∨ ∃ r, u.statusGiven c = .hold r := by
  unfold LensUnit.statusGiven LensUnit.statusWhenOn
  split
  · split
    · exact .inr (.inr ⟨_, rfl⟩)
    · exact .inr (.inr ⟨_, rfl⟩)
    · exact .inr (.inr ⟨_, rfl⟩)
    · exact .inr (.inr ⟨_, rfl⟩)
    · split
      · exact .inr (.inr ⟨_, rfl⟩)
      · exact .inl rfl
  · exact .inr (.inl rfl)

theorem reformedTo_reformed (u : LensUnit) (c : ChannelId) :
    ReformedTo (u.statusGiven c) (u.axes.get c.axis).settle (channelGet u.channels c) (u.reformed c) := by
  unfold LensUnit.reformed
  dsimp only
  rw [formedStatus_eq]
  exact reformedTo_enter (statusGiven_cases u c) _ _

/-- The status given goes by the drive, the table and the mode alone. -/
theorem statusGiven_congr {u v : LensUnit} {c : ChannelId}
    (hdrive : (channelGet v.channels c).drive = (channelGet u.channels c).drive)
    (htable : (channelGet v.tables c).state = (channelGet u.tables c).state) (hmode : v.mode = u.mode) :
    v.statusGiven c = u.statusGiven c := by
  rw [LensUnit.statusGiven, LensUnit.statusGiven, LensUnit.statusWhenOn, LensUnit.statusWhenOn, hdrive, htable, hmode]

/-- Re-forming a channel leaves the status that it is given. -/
theorem statusGiven_reform (u : LensUnit) (c : ChannelId) : (u.reform c).statusGiven c = u.statusGiven c := by
  refine statusGiven_congr ?_ rfl rfl
  rw [reform_channel_self, LensUnit.reformed, enter_drive]

/-- A change of a table's state moves that table and re-forms its channel (R111). -/
theorem tableMoved_onTable {c : ChannelId} {f : Table → Table} {T : Table} {s u t : State}
    (hT : f (channelGet s.lens.tables c) = T) (hu : u = { s with links := u.links })
    (ht : t = { onTable c f u with links := t.links }) : TableMoved c T s t := by
  have hlens : t.lens = (s.lens.withTableOf c f).reform c := by rw [ht, hu]; rfl
  refine ⟨?_, ?_⟩
  · rw [ht, hu, ← hT]
    simp [onTable, LensUnit.reform, LensUnit.withTableOf]
  · rw [hlens, statusGiven_reform, reform_channel_self]
    exact reformedTo_reformed (s.lens.withTableOf c f) c

/-- A table command that is answered after its table moved. -/
theorem answered_onTable {l : Link} {c : ChannelId} {f : Table → Table} {T : Table} {s : State} (st : Status)
    (data : List Byte) (hT : f (channelGet s.lens.tables c) = T) :
    AnsweredAlone l st data s (reply l st data (onTable c f (s.taken l .unicast))) ∧
      TableMoved c T s (reply l st data (onTable c f (s.taken l .unicast))) :=
  ⟨reply_answeredAlone st data rfl rfl, tableMoved_onTable hT (u := s.taken l .unicast) rfl rfl⟩

section TableFault

variable {t : Table}

theorem fault_of_few (h : t.count < 2) : t.fault = some [1] := if_pos h

theorem offends_iff (i : Nat) : t.offends i = true ↔ 1 ≤ i ∧ t.demandAt i ≤ t.demandAt (i - 1) := by
  simp [Table.offends, Nat.succ_le_iff]

theorem fault_of_first {j : Nat} (h : 2 ≤ t.count) (hj : 1 ≤ j) (hlt : j < t.count)
    (hoffends : t.demandAt j ≤ t.demandAt (j - 1)) (hbefore : ∀ k, 1 ≤ k → k < j → t.demandAt (k - 1) < t.demandAt k) :
    t.fault = some [2, BitVec.ofNat 8 j] := by
  have hfind : (List.range t.count).find? t.offends = some j := by
    rw [List.find?_range_eq_some]
    refine ⟨(offends_iff j).2 ⟨hj, hoffends⟩, List.mem_range.2 hlt, fun k hk => ?_⟩
    rw [Bool.not_eq_true', ← Bool.not_eq_true, offends_iff]
    rintro ⟨hk1, hle⟩
    exact absurd (hbefore k hk1 hk) (Nat.not_lt.2 hle)
  rw [Table.fault, if_neg (Nat.not_lt.2 h), hfind]
  rfl

theorem fault_of_rising (h : 2 ≤ t.count) (hrising : ∀ k, 1 ≤ k → k < t.count → t.demandAt (k - 1) < t.demandAt k) :
    t.fault = none := by
  have hfind : (List.range t.count).find? t.offends = none := by
    refine List.find?_eq_none.2 fun k hk => ?_
    rw [offends_iff]
    rintro ⟨hk1, hle⟩
    exact absurd (hrising k hk1 (List.mem_range.1 hk)) (Nat.not_lt.2 hle)
  rw [Table.fault, if_neg (Nat.not_lt.2 h), hfind]
  rfl

end TableFault

section TableLoads

variable {l : Link} {eye axis : Byte} {c : ChannelId} {s : State}

theorem takeTableBegin_of_held (hc : channelOfCodes eye axis = some c)
    (h : (channelGet s.lens.tables c).state = .loading) (hl : (channelGet s.lens.tables c).loader ≠ some l) :
    takeTableBegin l eye axis s = reply l .held [] s :=
  (withTable_of_some hc).trans (if_pos ⟨h, hl⟩)

theorem takeTableBegin_of_free (hc : channelOfCodes eye axis = some c)
    (h : (channelGet s.lens.tables c).state ≠ .loading ∨ (channelGet s.lens.tables c).loader = some l) :
    takeTableBegin l eye axis s = reply l .ok [] (onTable c (Table.begun l (tableLapse s)) s) :=
  (withTable_of_some hc).trans (if_neg fun hheld => h.elim (fun hs => hs hheld.1) fun hl => hheld.2 hl)

/-- What TABLE_END does for a table's loader (R117). -/
def loadEnd (l : Link) (c : ChannelId) (s : State) : State :=
  match (channelGet s.lens.tables c).fault with
  | some data => reply l .tbl data (onTable c (Table.ended .invalid) s)
  | none => reply l .ok [] (onTable c (Table.ended .valid) s)

theorem takeTableEnd_eq (hc : channelOfCodes eye axis = some c) :
    takeTableEnd l eye axis s = withLoad l c (loadEnd l c) s :=
  withTable_of_some hc

theorem takeTableAbort_eq (hc : channelOfCodes eye axis = some c) :
    takeTableAbort l eye axis s = withLoad l c (fun s => reply l .ok [] (onTable c (Table.ended .invalid) s)) s :=
  withTable_of_some hc

theorem loadEnd_of_fault {data : List Byte} (h : (channelGet s.lens.tables c).fault = some data) :
    loadEnd l c s = reply l .tbl data (onTable c (Table.ended .invalid) s) := by
  rw [loadEnd, h]

theorem loadEnd_of_pass (h : (channelGet s.lens.tables c).fault = none) :
    loadEnd l c s = reply l .ok [] (onTable c (Table.ended .valid) s) := by
  rw [loadEnd, h]

end TableLoads

/-- A load command's refusals: STATE unless LOADING, HELD unless the sender is the loader. -/
theorem withLoad_refused (l : Link) (c : ChannelId) (own : State → State) (s : State) :
    ((channelGet s.lens.tables c).state ≠ .loading → AnsweredOnly l .state [] s (withLoad l c own (s.taken l .unicast))) ∧
      ((channelGet s.lens.tables c).state = .loading → (channelGet s.lens.tables c).loader ≠ some l →
        AnsweredOnly l .held [] s (withLoad l c own (s.taken l .unicast))) := by
  refine ⟨fun hstate => ?_, fun hstate hloader => ?_⟩
  · rw [withLoad_of_state (s := s.taken l .unicast) hstate]
    exact reply_taken l .state []
  · rw [withLoad_of_held (s := s.taken l .unicast) hstate hloader]
    exact reply_taken l .held []

section LoadOutcomes

variable {l : Link} {eye axis : Byte} {c : ChannelId} {s : State}

theorem tableBegin_free (hc : channelOfCodes eye axis = some c)
    (h : (channelGet s.lens.tables c).state ≠ .loading ∨ (channelGet s.lens.tables c).loader = some l) :
    AnsweredAlone l .ok [] s (takeTableBegin l eye axis (s.taken l .unicast)) ∧
      TableMoved c { channelGet s.lens.tables c with
          state := .loading, count := 0, loader := some l, lapse := some (s.timing.timebase + 20000000) }
        s (takeTableBegin l eye axis (s.taken l .unicast)) := by
  rw [takeTableBegin_of_free (s := s.taken l .unicast) hc h]
  exact answered_onTable .ok [] rfl

theorem tableAbort_loader (hc : channelOfCodes eye axis = some c)
    (hstate : (channelGet s.lens.tables c).state = .loading) (hloader : (channelGet s.lens.tables c).loader = some l) :
    AnsweredAlone l .ok [] s (takeTableAbort l eye axis (s.taken l .unicast)) ∧
      TableMoved c { channelGet s.lens.tables c with state := .invalid, loader := none, lapse := none }
        s (takeTableAbort l eye axis (s.taken l .unicast)) := by
  rw [takeTableAbort_eq hc, withLoad_of_loader (s := s.taken l .unicast) hstate hloader]
  exact answered_onTable .ok [] rfl

theorem tableEnd_fault {data : List Byte} (hc : channelOfCodes eye axis = some c)
    (hstate : (channelGet s.lens.tables c).state = .loading) (hloader : (channelGet s.lens.tables c).loader = some l)
    (hfault : (channelGet s.lens.tables c).fault = some data) :
    AnsweredAlone l .tbl data s (takeTableEnd l eye axis (s.taken l .unicast)) ∧
      TableMoved c { channelGet s.lens.tables c with state := .invalid, loader := none, lapse := none }
        s (takeTableEnd l eye axis (s.taken l .unicast)) := by
  rw [takeTableEnd_eq hc, withLoad_of_loader (s := s.taken l .unicast) hstate hloader,
    loadEnd_of_fault (s := s.taken l .unicast) hfault]
  exact answered_onTable .tbl data rfl

theorem tableEnd_pass (hc : channelOfCodes eye axis = some c)
    (hstate : (channelGet s.lens.tables c).state = .loading) (hloader : (channelGet s.lens.tables c).loader = some l)
    (hfault : (channelGet s.lens.tables c).fault = none) :
    AnsweredAlone l .ok [] s (takeTableEnd l eye axis (s.taken l .unicast)) ∧
      TableMoved c { channelGet s.lens.tables c with state := .valid, loader := none, lapse := none }
        s (takeTableEnd l eye axis (s.taken l .unicast)) := by
  rw [takeTableEnd_eq hc, withLoad_of_loader (s := s.taken l .unicast) hstate hloader,
    loadEnd_of_pass (s := s.taken l .unicast) hfault]
  exact answered_onTable .ok [] rfl

theorem tableLapse_due (hpins : s.pins.resetAsserted = false) (hstate : (channelGet s.lens.tables c).state = .loading)
    (hloader : (channelGet s.lens.tables c).loader = some l)
    (hlapse : (channelGet s.lens.tables c).lapse = some s.timing.timebase) :
    exec (.tableLapse c.eye c.axis) s = .next (post .tableLapsed l (onTable c (Table.ended .invalid) s)) := by
  have hdue : tableLapseDue c s = true := by simp [tableLapseDue, hstate, hlapse]
  have hlapsed : (if tableLapseDue c s then lapseTable c s else s) =
      post .tableLapsed l (onTable c (Table.ended .invalid) s) := by
    simp only [hdue, if_true, lapseTable, hloader]
  rw [← hlapsed]
  exact live_of_released hpins fun s => if tableLapseDue c s then lapseTable c s else s

end LoadOutcomes

/-- Settles O39: the codes, the state and the loader decide; an end goes by the first offending index. -/
theorem tableLoadsBeginEndAbortAndLapse : Obligations.TableLoadsBeginEndAbortAndLapse := by
  refine ⟨fun l eye axis i s hready hi => ?_, fun c l s hpins hstate hloader hlapse =>
    ⟨_, tableLapse_due hpins hstate hloader hlapse, tableMoved_onTable (u := s) rfl rfl rfl, rfl⟩⟩
  have hnone {own : ChannelId → State → State} (hout : 2 ≤ eye.toNat ∨ 3 ≤ axis.toNat) :
      AnsweredOnly l .val [] s (withTable l eye axis own (s.taken l .unicast)) := by
    rw [withTable_of_none (channelOfCodes_of_out hout)]
    exact reply_taken l .val []
  rcases hi with rfl | rfl | rfl
  · refine ⟨takeTableBegin l eye axis (s.taken l .unicast), handOver_ready hready .unicast _, hnone,
      fun c he hx T hT => ?_⟩
    subst hT
    have hc := channelOfCodes_of_codes he hx
    refine ⟨fun hne => absurd rfl hne, fun hstate hloader => ?_, fun _ => tableBegin_free hc,
      fun h => (by cases h), fun h => (by cases h)⟩
    rw [takeTableBegin_of_held (s := s.taken l .unicast) hc hstate hloader]
    exact reply_taken l .held []
  · refine ⟨takeTableEnd l eye axis (s.taken l .unicast), handOver_ready hready .unicast _, hnone,
      fun c he hx T hT => ?_⟩
    subst hT
    have hc := channelOfCodes_of_codes he hx
    have hrefused := withLoad_refused l c (loadEnd l c) s
    rw [← takeTableEnd_eq (s := s.taken l .unicast) hc] at hrefused
    refine ⟨fun _ => hrefused.1, hrefused.2, fun h => (by cases h), fun h => (by cases h), fun _ hstate hloader =>
      ⟨fun hfew => ?_, fun j hcount hj hlt hoffends hbefore => ?_, fun hcount hrising => ?_⟩⟩
    · exact tableEnd_fault hc hstate hloader (fault_of_few hfew)
    · exact tableEnd_fault hc hstate hloader (fault_of_first hcount hj hlt hoffends hbefore)
    · exact tableEnd_pass hc hstate hloader (fault_of_rising hcount hrising)
  · refine ⟨takeTableAbort l eye axis (s.taken l .unicast), handOver_ready hready .unicast _, hnone,
      fun c he hx T hT => ?_⟩
    subst hT
    have hc := channelOfCodes_of_codes he hx
    have hrefused := withLoad_refused l c (fun s => reply l .ok [] (onTable c (Table.ended .invalid) s)) s
    rw [← takeTableAbort_eq (s := s.taken l .unicast) hc] at hrefused
    exact ⟨fun _ => hrefused.1, hrefused.2, fun h => (by cases h), fun _ => tableAbort_loader hc,
      fun h => (by cases h)⟩

end Sys2Proof.Machine
end

section
/-!
PROOFS. The lens commands (R131 to R139).
-/

namespace Sys2Proof.Machine

/-! ### LENS_SOURCE, LENS_DEMAND, LENS_TRIM and LENS_TOL -/

/-- A lens command that is answered after its own items moved. -/
theorem answered_lens (l : Link) (s : State) (u : LensUnit) :
    AnsweredAlone l .ok [] s (reply l .ok [] { s.taken l .unicast with lens := u }) :=
  reply_answeredAlone .ok [] rfl rfl

section Settings

variable {l : Link} {eye axis code settle : Byte} {value : BitVec 16} {x : Axis} {c : ChannelId} {s : State}

theorem takeLensSource_of_none (h : axisOfCode axis = none ∨ sourceOfCode code = none) :
    takeLensSource l axis code s = reply l .val [] s := by
  unfold takeLensSource
  split
  · next hx hsrc => rcases h with h | h <;> simp_all
  · rfl

theorem takeLensSource_of_some {src : Source} (hx : axisOfCode axis = some x) (hsrc : sourceOfCode code = some src) :
    takeLensSource l axis code s = reply l .ok [] (onAxis x (AxisState.withSource src) s) := by
  simp only [takeLensSource, hx, hsrc]

theorem takeLensDemand_of_none (h : axisOfCode axis = none) : takeLensDemand l axis value s = reply l .val [] s := by
  simp only [takeLensDemand, h]

theorem takeLensDemand_of_other (hx : axisOfCode axis = some x) (h : (s.lens.axes.get x).source ≠ .link l) :
    takeLensDemand l axis value s = reply l .src [] s := by
  simp only [takeLensDemand, hx, if_neg h]

theorem takeLensDemand_of_source (hx : axisOfCode axis = some x) (h : (s.lens.axes.get x).source = .link l) :
    takeLensDemand l axis value s = reply l .ok [] (onAxis x (fun a => { a with requested := value.toNat }) s) := by
  simp only [takeLensDemand, hx, if_pos h]

theorem takeLensTrim_of_none (h : channelOfCodes eye axis = none) :
    takeLensTrim l eye axis value s = reply l .val [] s := by
  simp only [takeLensTrim, h]

theorem takeLensTrim_of_out (h : value.toInt < -2048 ∨ 2047 < value.toInt) :
    takeLensTrim l eye axis value s = reply l .val [] s := by
  unfold takeLensTrim
  split
  · rfl
  · exact if_neg (by omega)

theorem takeLensTrim_of_in (hc : channelOfCodes eye axis = some c) (hlo : -2048 ≤ value.toInt)
    (hhi : value.toInt ≤ 2047) :
    takeLensTrim l eye axis value s = reply l .ok [] (onChannel c (fun ch => { ch with trim := value.toInt }) s) := by
  simp only [takeLensTrim, hc, hlo, hhi, and_self, if_true]

theorem takeLensTol_of_none (h : axisOfCode axis = none) :
    takeLensTol l axis value settle s = reply l .val [] s := by
  simp only [takeLensTol, h]

theorem takeLensTol_of_out (h : 4095 < value.toNat) : takeLensTol l axis value settle s = reply l .val [] s := by
  unfold takeLensTol
  split
  · rfl
  · exact if_pos h

theorem takeLensTol_of_in (hx : axisOfCode axis = some x) (h : value.toNat ≤ 4095) :
    takeLensTol l axis value settle s =
      reply l .ok [] (onAxis x (fun a => { a with tolerance := value.toNat, settle := settle.toNat }) s) := by
  simp only [takeLensTol, hx, if_neg (Nat.not_lt.2 h)]

end Settings

/-- Settles O41: each command tests its codes and its value, and then sets its own items. -/
theorem lensSettingsAreTakenOrRefused : Obligations.LensSettingsAreTakenOrRefused := by
  intro l eye axis code settle value s hready
  refine ⟨⟨takeLensSource l axis code (s.taken l .unicast), handOver_ready hready .unicast _, fun hout => ?_,
      fun x src hx hsrc => ?_⟩,
    ⟨takeLensDemand l axis value (s.taken l .unicast), handOver_ready hready .unicast _, fun hout => ?_,
      fun x hx => ⟨fun hother => ?_, fun hsource => ?_⟩⟩,
    ⟨takeLensTrim l eye axis value (s.taken l .unicast), handOver_ready hready .unicast _, fun hout => ?_,
      fun e x he hx hlo hhi => ?_⟩,
    ⟨takeLensTol l axis value settle (s.taken l .unicast), handOver_ready hready .unicast _, fun hout => ?_,
      fun x hx hin => ?_⟩⟩
  · rw [takeLensSource_of_none (hout.imp axisOfCode_of_ge fun hcode => ?_)]
    · exact reply_taken l .val []
    · rw [sourceOfCode_eq]
      exact List.getElem?_eq_none hcode
  · rw [takeLensSource_of_some hx ((sourceOfCode_eq code).trans hsrc)]
    exact ⟨answered_lens l s _, rfl⟩
  · rw [takeLensDemand_of_none (axisOfCode_of_ge hout)]
    exact reply_taken l .val []
  · rw [takeLensDemand_of_other (s := s.taken l .unicast) hx hother]
    exact reply_taken l .src []
  · rw [takeLensDemand_of_source (s := s.taken l .unicast) hx hsource]
    exact ⟨answered_lens l s _, rfl⟩
  · have hrefused : takeLensTrim l eye axis value (s.taken l .unicast) = reply l .val [] (s.taken l .unicast) := by
      rcases hout with heye | haxis | hvalue
      · exact takeLensTrim_of_none (channelOfCodes_of_out (.inl heye))
      · exact takeLensTrim_of_none (channelOfCodes_of_out (.inr haxis))
      · exact takeLensTrim_of_out hvalue
    rw [hrefused]
    exact reply_taken l .val []
  · rw [takeLensTrim_of_in (channelOfCodes_of_some he hx) hlo hhi]
    exact ⟨answered_lens l s _, rfl⟩
  · have hrefused : takeLensTol l axis value settle (s.taken l .unicast) = reply l .val [] (s.taken l .unicast) :=
      hout.elim (fun haxis => takeLensTol_of_none (axisOfCode_of_ge haxis)) takeLensTol_of_out
    rw [hrefused]
    exact reply_taken l .val []
  · rw [takeLensTol_of_in hx hin]
    exact ⟨answered_lens l s _, rfl⟩

/-! ### LENS_DRIVE and LENS_RUN -/

section Drives

variable {l : Link} {eye axis code : Byte} {c : ChannelId} {on : Bool} {m : ScanMode} {s : State}

theorem takeLensDrive_of_none (h : channelOfCodes eye axis = none ∨ boolOfCode code = none) :
    takeLensDrive l eye axis code s = reply l .val [] s := by
  unfold takeLensDrive
  split
  · next hc hon => rcases h with h | h <;> simp_all
  · rfl

theorem takeLensDrive_of_some (hc : channelOfCodes eye axis = some c) (hon : boolOfCode code = some on) :
    takeLensDrive l eye axis code s = reply l .ok [] (setDrive c on s) := by
  simp only [takeLensDrive, hc, hon]

theorem takeLensRun_of_none (h : scanModeOfCode code = none) : takeLensRun l code s = reply l .val [] s := by
  simp only [takeLensRun, h]

theorem takeLensRun_of_some (h : scanModeOfCode code = some m) :
    takeLensRun l code s = reply l .ok [] (setScanMode m s) := by
  simp only [takeLensRun, h]

end Drives

theorem channelSet_channelSet {α : Type} (p : PerChannel α) (c : ChannelId) (v w : α) :
    channelSet (channelSet p c v) c w = channelSet p c w := by
  obtain ⟨e, x⟩ := c
  cases e <;> cases x <;> rfl

section DriveSet

variable (u : LensUnit) (c : ChannelId) (on : Bool)

/-- The channel with its drive set, before its status follows (R136). -/
def LensUnit.switched : Channel :=
  { channelGet u.channels c with drive := on, output := if on = true then (channelGet u.channels c).target else 0 }

/-- The unit with that channel. -/
def LensUnit.withSwitched : LensUnit := { u with channels := channelSet u.channels c (u.switched c on) }

theorem withSwitched_channel : channelGet (u.withSwitched c on).channels c = u.switched c on :=
  channelGet_set_self _ _ _

theorem statusGiven_withSwitched :
    (u.withSwitched c on).statusGiven c = if on = true then u.statusWhenOn c else .off := by
  rw [LensUnit.statusGiven, withSwitched_channel]
  rfl

/-- A channel whose drive is set is re-formed to the status its drive gives. -/
theorem reformedTo_driveSet :
    ReformedTo (if on = true then u.statusWhenOn c else .off) (u.axes.get c.axis).settle (u.switched c on)
      (channelGet (u.driveSet c on).channels c) := by
  have hreformed := reformedTo_reformed (u.withSwitched c on) c
  rw [statusGiven_withSwitched, withSwitched_channel] at hreformed
  have hchannel : channelGet (u.driveSet c on).channels c = (u.withSwitched c on).reformed c :=
    reform_channel_self (u.withSwitched c on) c
  rw [hchannel]
  exact hreformed

/-- Setting a drive moves its channel alone. -/
theorem driveSet_frame :
    u.driveSet c on =
      { u with channels := channelSet u.channels c (channelGet (u.driveSet c on).channels c) } := by
  have hchannel : channelGet (u.driveSet c on).channels c = (u.withSwitched c on).reformed c :=
    reform_channel_self (u.withSwitched c on) c
  rw [hchannel]
  simp [LensUnit.driveSet, LensUnit.reform, LensUnit.withSwitched, LensUnit.switched, channelSet_channelSet]

end DriveSet

section Scanning

variable (u : LensUnit)

/-- Re-forming every channel re-forms each to the status it is given. -/
theorem reformedTo_reformAll (c : ChannelId) :
    ReformedTo (u.reformAll.statusGiven c) (u.axes.get c.axis).settle (channelGet u.channels c)
      (channelGet u.reformAll.channels c) := by
  have hgiven : u.reformAll.statusGiven c = u.statusGiven c := by
    refine statusGiven_congr ?_ rfl rfl
    rw [reformAll_channel, LensUnit.reformed, enter_drive]
  rw [hgiven, reformAll_channel]
  exact reformedTo_reformed u c

theorem scanningStarted_frame (now : Time) (m : ScanMode) :
    u.scanningStarted now m =
      { u with
        mode := m, nextDue := some (now + 10000), channels := (u.scanningStarted now m).channels
        scan := if u.scan = none then some (Scan.begun now) else u.scan } := by
  cases hscan : u.scan <;> simp [LensUnit.scanningStarted, LensUnit.reformAll, hscan] <;> rfl

theorem scanningStopped_of_scan (h : u.scan ≠ none) :
    u.scanningStopped = { u with mode := .off, nextDue := none } :=
  if_pos (Option.isSome_iff_ne_none.2 h)

theorem scanningStopped_of_none (h : u.scan = none) :
    u.scanningStopped = ({ u with mode := .off, nextDue := none } : LensUnit).stopped :=
  if_neg (by simp [h])

theorem stopped_axis (x : Axis) : u.stopped.axes.get x = { u.axes.get x with matching := .unchecked } :=
  PerAxis.get_build _ x

end Scanning

/-- The scan mode set moves the Lens Control Unit alone. -/
theorem setScanMode_alone (m : ScanMode) (s : State) :
    setScanMode m s = { s with lens := (setScanMode m s).lens } := by
  by_cases hmode : s.lens.mode = .off <;> by_cases hm : m = .off
  · rw [hm, setScanMode_of_off hmode]
  · rw [setScanMode_of_started hmode hm]
  · rw [hm, setScanMode_of_stopped hmode]
  · rw [setScanMode_of_running hmode hm]

/-- What LENS_RUN does with the scan mode, by the mode in force and the mode given (R138, R139). -/
theorem setScanMode_outcome (l : Link) (m : ScanMode) (s t : State)
    (ht : t = reply l .ok [] (setScanMode m (s.taken l .unicast))) :
    (s.lens.mode = .off → m = .off → t = { s with links := t.links }) ∧
      (s.lens.mode = .off → m ≠ .off →
        t = { s with
              lens :=
                { s.lens with
                  mode := m, nextDue := some (s.timing.timebase + 10000), channels := t.lens.channels,
                  scan := if s.lens.scan = none then some (Scan.begun s.timing.timebase) else s.lens.scan }
              links := t.links } ∧
        ∀ c, ReformedTo (t.lens.statusGiven c) (s.lens.axes.get c.axis).settle
          (channelGet s.lens.channels c) (channelGet t.lens.channels c)) ∧
      (s.lens.mode ≠ .off → m ≠ .off → t = { s with lens := { s.lens with mode := m }, links := t.links }) ∧
      (s.lens.mode ≠ .off → m = .off → s.lens.scan ≠ none →
        t = { s with lens := { s.lens with mode := .off, nextDue := none }, links := t.links }) ∧
      (s.lens.mode ≠ .off → m = .off → s.lens.scan = none →
        t = { s with
              lens := { s.lens with mode := .off, nextDue := none, channels := t.lens.channels, axes := t.lens.axes }
              links := t.links } ∧
        (∀ x, t.lens.axes.get x = { s.lens.axes.get x with matching := .unchecked }) ∧
        ∀ c, ReformedTo (t.lens.statusGiven c) (s.lens.axes.get c.axis).settle
          (channelGet s.lens.channels c) (channelGet t.lens.channels c)) := by
  subst ht
  refine ⟨fun hmode hm => ?_, fun hmode hm => ?_, fun hmode hm => ?_, fun hmode hm hscan => ?_,
    fun hmode hm hscan => ?_⟩
  · rw [hm, setScanMode_of_off (s := s.taken l .unicast) hmode]
    rfl
  · rw [setScanMode_of_started (s := s.taken l .unicast) hmode hm]
    refine ⟨congrArg (fun u => { reply l .ok [] (s.taken l .unicast) with lens := u })
      (scanningStarted_frame s.lens s.now m), fun c => ?_⟩
    exact reformedTo_reformAll { s.lens with
      scan := some (s.lens.scan.getD (Scan.begun s.now)), mode := m, nextDue := scanDueAfter s.now } c
  · rw [setScanMode_of_running (s := s.taken l .unicast) hmode hm]
    rfl
  · rw [hm, setScanMode_of_stopped (s := s.taken l .unicast) hmode]
    exact congrArg (fun u => { reply l .ok [] (s.taken l .unicast) with lens := u }) (scanningStopped_of_scan s.lens hscan)
  · rw [hm, setScanMode_of_stopped (s := s.taken l .unicast) hmode,
      show (s.taken l .unicast).lens.scanningStopped = _ from scanningStopped_of_none s.lens hscan]
    exact ⟨rfl, stopped_axis { s.lens with mode := .off, nextDue := none },
      reformedTo_reformAll { s.lens with mode := .off, nextDue := none }⟩

/-- Settles O42: the drive and the mode in force decide, and each channel is re-formed from what is then in force. -/
theorem drivesAndScanningStartAndStop : Obligations.DrivesAndScanningStartAndStop := by
  intro l eye axis code s hready
  refine ⟨⟨takeLensDrive l eye axis code (s.taken l .unicast), handOver_ready hready .unicast _, fun hout => ?_,
      fun e x on he hx hcode ch hch => ?_⟩,
    ⟨takeLensRun l code (s.taken l .unicast), handOver_ready hready .unicast _, fun hout => ?_, fun m hm => ?_⟩⟩
  · have hnone : channelOfCodes eye axis = none ∨ boolOfCode code = none := by
      rcases hout with heye | haxis | hbool
      · exact .inl (channelOfCodes_of_out (.inl heye))
      · exact .inl (channelOfCodes_of_out (.inr haxis))
      · exact .inr (boolOfCode_of_ge hbool)
    rw [takeLensDrive_of_none hnone]
    exact reply_taken l .val []
  · subst hch
    rw [takeLensDrive_of_some (channelOfCodes_of_some he hx) (boolOfCode_of_code hcode)]
    by_cases hdrive : (channelGet s.lens.channels ⟨e, x⟩).drive = on
    · rw [setDrive_of_eq (s := s.taken l .unicast) hdrive]
      obtain ⟨hanswered, hsame, hother, hframe⟩ := reply_taken (s := s) l .ok []
      exact ⟨⟨hanswered, hsame, hother⟩, fun _ => hframe, fun hne => absurd hdrive hne⟩
    · rw [setDrive_of_ne (s := s.taken l .unicast) hdrive]
      refine ⟨answered_lens l s _, fun heq => absurd heq hdrive, fun _ => ⟨?_, reformedTo_driveSet s.lens ⟨e, x⟩ on⟩⟩
      exact congrArg (fun u => { reply l .ok [] (s.taken l .unicast) with lens := u }) (driveSet_frame s.lens ⟨e, x⟩ on)
  · have hnone : scanModeOfCode code = none := by
      rw [scanModeOfCode_eq]
      exact List.getElem?_eq_none hout
    rw [takeLensRun_of_none hnone]
    exact reply_taken l .val []
  · have htake : takeLensRun l code (s.taken l .unicast) = reply l .ok [] (setScanMode m (s.taken l .unicast)) :=
      takeLensRun_of_some ((scanModeOfCode_eq code).trans hm)
    refine ⟨?_, setScanMode_outcome l m s _ htake⟩
    rw [htake, setScanMode_alone]
    exact answered_lens l s _

end Sys2Proof.Machine
end

section
/-!
PROOFS. The target stage and the completion of a scan (R121 to R125, R144 to R147), and with them the events of the Lens
Control Unit.
-/

namespace Sys2Proof.Machine

/-! ### Segments (R122) -/

section Segment

variable {T : Table} {x : Nat}

theorem segment_of_below (h : x < T.demandAt 1) : T.segment x = 0 := if_pos h

/-- The demands of a table in its order rise over any distance. -/
theorem demandAt_lt_of_lt (hrising : ∀ i, i + 1 < T.count → T.demandAt i < T.demandAt (i + 1)) {i j : Nat} (hij : i < j)
    (hj : j < T.count) : T.demandAt i < T.demandAt j := by
  induction j with
  | zero => omega
  | succ j ih =>
    rcases Nat.lt_succ_iff_lt_or_eq.1 hij with h | h
    · exact (ih h (by omega)).trans (hrising j hj)
    · rw [h]
      exact hrising j hj

theorem segment_of_above (hcount : 2 ≤ T.count) (hrising : ∀ i, i + 1 < T.count → T.demandAt i < T.demandAt (i + 1))
    (h : T.demandAt (T.count - 2) ≤ x) : T.segment x = T.count - 2 := by
  unfold Table.segment
  split
  · next hbelow =>
    by_contra hne
    have hle : T.demandAt 1 ≤ T.demandAt (T.count - 2) := by
      rcases (by omega : 1 = T.count - 2 ∨ 1 < T.count - 2) with heq | hlt
      · rw [← heq]
      · exact (demandAt_lt_of_lt hrising hlt (by omega)).le
    omega
  · rfl

theorem segment_of_between (hcount : 2 ≤ T.count)
    (hrising : ∀ i, i + 1 < T.count → T.demandAt i < T.demandAt (i + 1)) (hlo : T.demandAt 1 ≤ x)
    (hhi : x < T.demandAt (T.count - 2)) :
    T.demandAt (T.segment x) ≤ x ∧ x < T.demandAt (T.segment x + 1) := by
  have hmany : 4 ≤ T.count := by
    by_contra hfew
    rcases (by omega : T.count - 2 = 0 ∨ T.count - 2 = 1) with h | h <;> rw [h] at hhi
    · have h01 : T.demandAt 0 < T.demandAt 1 := hrising 0 (by omega)
      omega
    · omega
  have hex : ∃ i, x < T.demandAt (i + 1) := ⟨T.count - 3, by rwa [show T.count - 3 + 1 = T.count - 2 by omega]⟩
  have hfirst : x < T.demandAt (Nat.find hex + 1) := Nat.find_spec hex
  have hle : Nat.find hex ≤ T.count - 3 := Nat.find_min' hex (by rwa [show T.count - 3 + 1 = T.count - 2 by omega])
  have hpos : Nat.find hex ≠ 0 := fun hzero => by
    have h1 : x < T.demandAt 1 := by simpa [hzero] using hfirst
    omega
  have hprev : T.demandAt (Nat.find hex) ≤ x := by
    have := Nat.find_min hex (show Nat.find hex - 1 < Nat.find hex by omega)
    rw [show Nat.find hex - 1 + 1 = Nat.find hex by omega] at this
    exact Nat.not_lt.1 this
  cases hfind : (List.range (T.count - 1)).find? fun i => decide (T.demandAt i ≤ x) && decide (x < T.demandAt (i + 1)) with
  | none =>
    have hmem : Nat.find hex ∈ List.range (T.count - 1) := List.mem_range.2 (by omega)
    exact absurd (by simp [hprev, hfirst]) (List.find?_eq_none.1 hfind _ hmem)
  | some i =>
    have hseg : T.segment x = i := by
      rw [Table.segment, if_neg (Nat.not_lt.2 hlo), if_neg (Nat.not_le.2 hhi), hfind]
      rfl
    have hi := List.find?_some hfind
    rw [hseg]
    simpa using hi

end Segment

/-! ### The target stage (R121) -/

theorem nextSegment_of_valid {before after : List ChannelId} {c : ChannelId} {s : State}
    (hbefore : ∀ d ∈ before, (channelGet s.lens.tables d).state ≠ .valid)
    (hc : (channelGet s.lens.tables c).state = .valid) :
    nextSegment (before ++ c :: after) s = requestSegment c after s := by
  induction before with
  | nil =>
    rw [List.nil_append, nextSegment, if_pos hc]
    rfl
  | cons d before ih =>
    rw [List.cons_append, nextSegment, if_neg (hbefore d List.mem_cons_self)]
    exact ih fun e he => hbefore e (List.mem_cons_of_mem d he)

theorem nextSegment_of_none_valid {cs : List ChannelId} {s : State}
    (h : ∀ d ∈ cs, (channelGet s.lens.tables d).state ≠ .valid) : nextSegment cs s = completeScan s := by
  induction cs with
  | nil => rw [nextSegment]
  | cons d cs ih =>
    rw [nextSegment, if_neg (h d List.mem_cons_self)]
    exact ih fun e he => h e (List.mem_cons_of_mem d he)

/-! ### The completion of a scan (R144 to R147) -/

theorem checkedTo_checked (tolerance settle before : Nat) (ch : Channel) :
    CheckedTo tolerance settle before ch (ch.checked tolerance settle before) := by
  refine ⟨fun hquiet => ?_, fun hoff hhold => ?_⟩
  · unfold Channel.checked
    rcases hquiet with h | ⟨r, h⟩ <;> rw [h]
  · unfold Channel.checked
    split
    · next h => exact absurd h hoff
    · next r h => exact absurd h (hhold r)
    · dsimp only [apart]
      by_cases hcounter : 0 < ch.counter
      · simp only [if_pos hcounter]
        split <;> rfl
      · have hzero : ch.counter = 0 := by omega
        simp only [hzero]
        by_cases hfar : tolerance < ((ch.encoder.toNat : Int) - before).natAbs <;>
          by_cases hmoved : tolerance < ((ch.target : Int) - before).natAbs <;> simp [hfar, hmoved]

section Completed

variable (u : LensUnit) (sc : Scan)

theorem faults_iff (c : ChannelId) (s : State) : s.lens.faults sc c = true ↔ FaultsTable sc s c := by
  simp [LensUnit.faults, FaultsTable]

theorem settleFaults_target (c : ChannelId) :
    (channelGet (u.settleFaults sc).channels c).target = (channelGet u.channels c).target := by
  rw [settleFaults_channel]
  split
  · rw [enter_frame]
  · rfl

theorem judged_axis (x : Axis) :
    (u.judged sc).axes.get x =
      { u.axes.get x with
        demand := sc.demands.get x
        matching := matchOf (channelGet (u.judged sc).channels ⟨.left, x⟩).status
          (channelGet (u.judged sc).channels ⟨.right, x⟩).status } := by
  simp [LensUnit.judged, LensUnit.formMatches, LensUnit.check, LensUnit.output, LensUnit.settleFaults]

theorem completed_axis (x : Axis) :
    (u.completed sc).axes.get x =
      { u.axes.get x with
        demand := sc.demands.get x
        matching := if u.mode = .off then .unchecked else ((u.judged sc).axes.get x).matching } := by
  unfold LensUnit.completed
  split
  · rw [stopped_axis]
    simp [judged_axis]
  · simp [judged_axis]

@[simp] theorem completed_nextDue : (u.completed sc).nextDue = u.nextDue := by
  unfold LensUnit.completed
  split <;> rfl

@[simp] theorem completed_conversions : (u.completed sc).conversions = sc.conversions := by
  unfold LensUnit.completed
  split <;> rfl

theorem holds_postFindings (s : State) (l : Link) (k : EventKind) :
    holds ((postFindings u sc s).links.get l).events k = true ↔
      holds (s.links.get l).events k = true ∨ (k = .tableFault ∧ ∃ c, u.faults sc c = true) ∨
        (k = .lensMismatch ∧ ∃ x, becameMismatched u (u.judged sc) x = true) := by
  have hfaults : channelOrder.any (u.faults sc) = true ↔ ∃ c, u.faults sc c = true := by
    simp only [List.any_eq_true]
    exact ⟨fun ⟨c, _, hc⟩ => ⟨c, hc⟩, fun ⟨c, hc⟩ => ⟨c, mem_channelOrder c, hc⟩⟩
  have haxes : [Axis.focus, .iris, .zoom].any (becameMismatched u (u.judged sc)) = true ↔
      ∃ x, becameMismatched u (u.judged sc) x = true := by
    simp only [List.any_eq_true]
    exact ⟨fun ⟨x, _, hx⟩ => ⟨x, hx⟩, fun ⟨x, hx⟩ => ⟨x, by cases x <;> simp, hx⟩⟩
  unfold postFindings
  rw [← hfaults, ← haxes]
  dsimp only
  split <;> split <;> simp_all [holds_or_mask, or_assoc]

theorem grew_postFindings (s : State) : Grew s (postFindings u sc s) := (posts_postFindings s u sc).1

/-- A channel whose table a scan faults is re-formed by its drive alone (R125). -/
theorem settleFaults_reformed {c : ChannelId} (h : u.faults sc c = true) :
    ReformedTo (if (channelGet u.channels c).drive then .hold .fault else .off) (u.axes.get c.axis).settle
      (channelGet u.channels c) (channelGet (u.settleFaults sc).channels c) := by
  rw [settleFaults_channel, if_pos h]
  cases hdrive : (channelGet u.channels c).drive
  · exact reformedTo_enter (.inr (.inl rfl)) _ _
  · exact reformedTo_enter (.inr (.inr ⟨.fault, rfl⟩)) _ _

theorem settleFaults_channel_of_not {c : ChannelId} (h : ¬ u.faults sc c = true) :
    channelGet (u.settleFaults sc).channels c = channelGet u.channels c := by
  rw [settleFaults_channel, if_neg h]

/-- What the output stage gives a channel (R144). -/
theorem written_of_computed {computed : Option Computed} {encoder : BitVec 12} {ch : Channel} {target : Nat} {sat : Bool}
    (hsome : ∀ k, computed = some k → target = k.target ∧ sat = k.sat)
    (hnone : computed = none → target = ch.target ∧ sat = ch.sat) :
    ch.written computed encoder =
      { ch with target := target, sat := sat, output := if ch.drive then target else 0, encoder := encoder } := by
  cases computed with
  | none =>
    obtain ⟨rfl, rfl⟩ := hnone rfl
    rfl
  | some k =>
    obtain ⟨rfl, rfl⟩ := hsome k rfl
    rfl

/-- With the mode OFF the stop re-forms the channels of the check (R139). -/
theorem completed_reformed (h : u.mode = .off) (c : ChannelId) :
    ReformedTo ((u.completed sc).statusGiven c) (u.axes.get c.axis).settle (channelGet (u.judged sc).channels c)
      (channelGet (u.completed sc).channels c) := by
  have hreformed := reformedTo_reformAll { u.judged sc with scan := none } c
  rw [show (({ u.judged sc with scan := none } : LensUnit).axes.get c.axis).settle = (u.axes.get c.axis).settle by
    rw [show ({ u.judged sc with scan := none } : LensUnit).axes = (u.judged sc).axes from rfl, judged_axis]] at hreformed
  rw [LensUnit.completed, if_pos h]
  exact hreformed

theorem becameMismatched_iff (x : Axis) :
    becameMismatched u (u.judged sc) x = true ↔
      ((u.judged sc).axes.get x).matching = .mismatched ∧ (u.axes.get x).matching ≠ .mismatched := by
  simp [becameMismatched]

end Completed

/-- The channels of a scan after the output stage (R144). -/
def LensUnit.writtenChannels (u : LensUnit) (sc : Scan) : PerChannel Channel :=
  channelBuild fun c =>
    (channelGet (u.settleFaults sc).channels c).written (channelGet sc.computed c) (sc.code (tableNumber c))

/-- The match states that a scan forms (R147). -/
def LensUnit.formedMatches (u : LensUnit) (sc : Scan) : PerAxis MatchState :=
  PerAxis.build fun x => ((u.judged sc).axes.get x).matching

/-- The completion of a scan settles its held faults, writes its outputs, checks its channels and forms the match
states (R125, R139, R144 to R147). -/
theorem scanCompleted_completeScan {s : State} {sc : Scan} (h : s.lens.scan = some sc) :
    ScanCompleted sc s (completeScan s) := by
  have hlens := completeScan_lens h
  have hframe : completeScan s = { s with lens := (completeScan s).lens, links := (completeScan s).links } := by
    rw [completeScan_of_scan h, postFindings_frame]
  refine ⟨s.lens.writtenChannels sc, (s.lens.judged sc).channels, s.lens.formedMatches sc,
    fun c => ⟨channelGet (s.lens.settleFaults sc).channels c, fun hf => ?_, fun hf => ?_, fun target sat hsome hnone => ?_⟩,
    fun c => ?_, fun x l r hl hr => ?_, fun c => ?_, fun x => ?_, fun hmode c => ?_, fun hmode c => ?_, ?_, ?_, ?_,
    fun c => ?_, ?_, fun l k => ?_, fun l => ?_, hframe⟩
  · exact settleFaults_reformed s.lens sc ((faults_iff sc c s).2 hf)
  · exact settleFaults_channel_of_not s.lens sc fun hfault => hf ((faults_iff sc c s).1 hfault)
  · rw [LensUnit.writtenChannels, channelGet_build]
    exact written_of_computed hsome hnone
  · rw [judged_channel, LensUnit.writtenChannels, channelGet_build, settleFaults_target]
    exact checkedTo_checked _ _ _ _
  · rw [LensUnit.formedMatches, PerAxis.get_build, judged_axis, hl, hr]
    rfl
  · rw [hlens, completed_tables, settleFaults_table, ← faults_iff]
    split
    · next hf => exact ⟨rfl, fun _ => rfl, fun hnot => absurd hf hnot⟩
    · next hf => exact ⟨rfl, fun hfault => absurd hfault hf, fun _ => rfl⟩
  · rw [hlens, completed_axis, LensUnit.formedMatches, PerAxis.get_build]
  · rw [hlens, completed_channels_of_running _ hmode]
  · rw [hlens]
    exact completed_reformed s.lens sc hmode c
  · rw [hlens, completed_mode]
  · rw [hlens, completed_scan]
  · rw [hlens, completed_nextDue]
  · rw [hlens, completed_conversions, Scan.conversions, channelGet_build, Scan.code]
  · rw [hlens, completed_conversions]
    rfl
  · rw [completeScan_of_scan h, holds_postFindings]
    simp only [faults_iff, becameMismatched_iff, LensUnit.formedMatches, PerAxis.get_build]
  · rw [completeScan_of_scan h]
    exact (grew_postFindings s.lens sc { s with lens := s.lens.completed sc } l).1

/-- The target stage requests the segment of the first channel whose table is VALID, or completes the scan (R121,
R122). -/
theorem targetsGoOn_nextSegment {s : State} {sc : Scan} (h : s.lens.scan = some sc) (rest : List ChannelId) :
    TargetsGoOn sc rest s (nextSegment rest s) := by
  refine ⟨fun before c after T hrest hbefore hT hvalid hinv => ?_, fun hnone => ?_⟩
  · subst hT
    obtain ⟨-, -, -, -, horder⟩ := hinv
    obtain ⟨hcount, hrising⟩ := horder hvalid
    refine ⟨(channelGet s.lens.tables c).segment (sc.demands.get c.axis), segment_of_below,
      segment_of_above hcount hrising, segment_of_between hcount hrising, ?_⟩
    rw [hrest, nextSegment_of_valid hbefore hvalid, requestSegment, scanDemand, h]
    rfl
  · rw [nextSegment_of_none_valid hnone]
    exact scanCompleted_completeScan h

end Sys2Proof.Machine
end

section
/-!
PROOFS. The grant decision of the Arbiter (R103, R116, R120, R121, R124, R154 to R157).
-/

namespace Sys2Proof.Machine

/-- A reply moves its link's receiver and transmitter alone. -/
theorem reply_answeredOnly (l : Link) (st : Status) (data : List Byte) (s : State) :
    AnsweredOnly l st data s (reply l st data s) := by
  refine ⟨reply_answered st data rfl rfl, ?_, fun k hk => reply_get_ne s st data hk, rfl⟩
  constructor <;> rw [reply_get_self] <;> simp

section Grant

variable {s : State}

theorem exec_arbiterGrant_of_due (hpins : s.pins.resetAsserted = false) (hport : s.memory.port = none)
    (hrequest : s.matcher.queue ≠ [] ∨ s.memory.lensRequest ≠ none ∨ s.memory.nextLink ≠ none) :
    exec .arbiterGrant s = .next (grant s) := by
  have hdue : grantDue s = true := by
    simpa [grantDue, hport, Option.isSome_iff_ne_none, or_assoc] using hrequest
  exact (live_of_released hpins _).trans (congrArg Host.Outcome.next (if_pos hdue))

theorem grant_of_queue (h : s.matcher.queue ≠ []) : grant s = grantBurst .record 19 s :=
  if_pos (by simp [h])

theorem grant_of_lensRequest {q : SegmentRequest} (hqueue : s.matcher.queue = []) (h : s.memory.lensRequest = some q) :
    grant s = grantSegment q s := by
  rw [grant, if_neg (by simp [hqueue]), h]

theorem grant_of_nextLink {l : Link} {q : LinkRequest} (hqueue : s.matcher.queue = [])
    (hlens : s.memory.lensRequest = none) (hnext : s.memory.nextLink = some l)
    (hq : s.memory.linkRequests.get l = some q) : grant s = grantLink l q s := by
  simp only [grant, hqueue, hlens, hnext, hq]
  rfl

/-- The round robin serves the first link with a request in the order after the last one served (R156). -/
theorem nextLink_of_first {l : Link} {before after : List Link} {m : RecordMemory}
    (horder : linkOrder m.lastServed = before ++ l :: after) (hbefore : ∀ k ∈ before, m.linkRequests.get k = none)
    (hl : m.linkRequests.get l ≠ none) : m.nextLink = some l := by
  rw [RecordMemory.nextLink, horder]
  exact find?_append_cons (fun k hk => by simp [hbefore k hk]) (Option.isSome_iff_ne_none.2 hl)

theorem grantSegment_of_valid {q : SegmentRequest} (h : (channelGet s.lens.tables q.channel).state = .valid) :
    grantSegment q s =
      grantBurst (.segment q.channel q.lower (channelGet s.lens.channels q.channel).trim true) 4
        { s with memory := { s.memory with lensRequest := none } } :=
  if_pos h

theorem grantSegment_of_not_valid {q : SegmentRequest} {sc : Scan}
    (h : (channelGet s.lens.tables q.channel).state ≠ .valid) (hscan : s.lens.scan = some sc) :
    grantSegment q s = nextSegment sc.remaining { s with memory := { s.memory with lensRequest := none } } :=
  (if_neg h).trans (continueTargets_of_scan (s := { s with memory := { s.memory with lensRequest := none } }) hscan)

/-- The memory after link `l` was served: its request is gone and it is the last one served (R156). -/
def RecordMemory.served (m : RecordMemory) (l : Link) : RecordMemory :=
  { m with linkRequests := m.linkRequests.set l none, lastServed := l }

section GrantLink

variable {l : Link} {c : ChannelId} {index maximum : Nat}

theorem grantLink_tableRead_of_below (h : index < (channelGet s.lens.tables c).count) :
    grantLink l (.tableRead c index) s =
      grantBurst
        (.tableRead l c index (channelGet s.lens.tables c).state (channelGet s.lens.tables c).count) 2
        { s with memory := s.memory.served l } :=
  if_neg (Nat.not_le.2 h)

theorem grantLink_tableRead_of_beyond (h : (channelGet s.lens.tables c).count ≤ index) :
    grantLink l (.tableRead c index) s = reply l .val [] { s with memory := s.memory.served l } :=
  if_pos h

theorem grantLink_logRead_of_some (h : s.log.readCount l maximum ≠ 0) :
    grantLink l (.logRead maximum) s =
      grantBurst
        (.logRead l (s.log.readers.get l).gap (s.log.readers.get l).cursor (s.log.readCount l maximum))
        (19 * s.log.readCount l maximum) (clearGap l { s with memory := s.memory.served l }) :=
  if_neg h

theorem grantLink_logRead_of_nothing (h : s.log.readCount l maximum = 0) :
    grantLink l (.logRead maximum) s = readNothing l { s with memory := s.memory.served l } :=
  if_pos h

end GrantLink

/-- A LOG_READ that finds nothing reports the gap count and clears it (R103, R104). -/
theorem readNothing_eq (l : Link) (s : State) :
    readNothing l s =
      reply l .ok
        ([BitVec.ofNat 8 (s.log.readers.get l).gap, 0] ++ bytesOf 4 (s.log.readers.get l).cursor.toNat)
        (reformReady l (onReader l (fun r => { r with gap := 0 }) s)) := by
  have hreader : onReader l (fun r => { r with cursor := r.cursor + BitVec.ofNat 32 0 }) (clearGap l s) =
      onReader l (fun r => { r with gap := 0 }) s := by
    simp [onReader, clearGap]
  rw [readNothing, finishLogRead, hreader]
  simp [logReadReport, carriedRecords]

theorem answered_readNothing (l : Link) (s : State) :
    AnsweredEvt l .ok
        ([BitVec.ofNat 8 (s.log.readers.get l).gap, 0] ++ bytesOf 4 (s.log.readers.get l).cursor.toNat) s
        (readNothing l s) ∧
      readNothing l s =
        { s with
          log := { s.log with readers := s.log.readers.set l { s.log.readers.get l with gap := 0 } }
          links := (readNothing l s).links } := by
  rw [readNothing_eq]
  refine ⟨reply_answered .ok _ rfl ?_, rfl⟩
  simp [reformReady, onReader]

end Grant

/-- Settles O43: a grant goes to the first holder in the order of R155 and R156 and is served as its rule gives. -/
theorem grantFollowsPriorityAndRoundRobin : Obligations.GrantFollowsPriorityAndRoundRobin := by
  intro s hpins hport
  refine ⟨fun hqueue => ?_, fun q hqueue hlens => ?_, fun l q before after u hqueue hlens hq horder hbefore hu => ?_⟩
  · rw [exec_arbiterGrant_of_due hpins hport (.inl hqueue), grant_of_queue hqueue]
    rfl
  · have hexec : exec .arbiterGrant s = .next (grantSegment q s) := by
      rw [exec_arbiterGrant_of_due hpins hport (.inr (.inl (by simp [hlens]))), grant_of_lensRequest hqueue hlens]
    refine ⟨fun hvalid => ?_, fun hvalid sc hscan => ⟨_, hexec, ?_⟩⟩
    · rw [hexec, grantSegment_of_valid hvalid]
      rfl
    · rw [grantSegment_of_not_valid hvalid hscan]
      exact targetsGoOn_nextSegment (s := { s with memory := { s.memory with lensRequest := none } }) hscan _
  · have hnext : s.memory.nextLink = some l :=
      nextLink_of_first (by rw [← horder]; rfl) hbefore (by simp [hq])
    have hexec : exec .arbiterGrant s = .next (grantLink l q s) := by
      rw [exec_arbiterGrant_of_due hpins hport (.inr (.inr (by simp [hnext]))), grant_of_nextLink hqueue hlens hnext hq]
    subst hu
    refine ⟨_, hexec, fun c first points hentry => ?_, fun c index T hread hT => ⟨fun hbelow => ?_, fun hbeyond => ?_⟩,
      fun maximum r k hread hr hk => ?_⟩
    · rw [hentry]
      rfl
    · subst hT
      rw [hread, grantLink_tableRead_of_below hbelow]
      rfl
    · subst hT
      rw [hread, grantLink_tableRead_of_beyond hbeyond]
      exact reply_answeredOnly l .val [] _
    · subst hr
      have hcount : s.log.readCount l maximum = k := hk.symm
      refine ⟨fun hpos => ?_, fun hzero => ?_⟩
      · rw [hread, grantLink_logRead_of_some (by omega), hcount]
        rfl
      · rw [hread, grantLink_logRead_of_nothing (hcount.trans hzero)]
        exact answered_readNothing l { s with memory := s.memory.served l }

end Sys2Proof.Machine
end

section
/-!
PROOFS. The end of the sweep and of a segment read (R121, R123 to R125, R142, R153), the scan timer (R138, R140) and the
end of the conversions (R130, R143).
-/

namespace Sys2Proof.Machine

/-! ### Containers -/

theorem axis_ext {α : Type} {p q : PerAxis α} (h : ∀ x, p.get x = q.get x) : p = q := by
  cases p; cases q
  simpa [PerAxis.get] using And.intro (h .focus) (And.intro (h .iris) (h .zoom))

theorem channel_ext {α : Type} {p q : PerChannel α} (h : ∀ c, channelGet p c = channelGet q c) : p = q := by
  cases p; cases q
  exact congrArg₂ PerEye.mk (axis_ext fun x => h ⟨.left, x⟩) (axis_ext fun x => h ⟨.right, x⟩)

/-! ### The end of a burst (R157) -/

/-- A burst with no word to come ends at BURST_END, the memory FREE (R157). -/
theorem exec_burstEnd {s : State} {h : Holder} {n : Nat} {got : List MemWord} (hpins : s.pins.resetAsserted = false)
    (hport : s.memory.port = some ⟨h, n, 0, got⟩) : exec .burstEnd s = .next (endBurst ⟨h, n, 0, got⟩ s) := by
  refine (live_of_released hpins _).trans (congrArg Host.Outcome.next ?_)
  rw [finishBurst, hport]
  rfl

/-! ### The target of a channel (R123, R124) -/

theorem targetOf_eq {base trim : Int} {k : Computed} (htarget : (k.target : Int) = max 0 (min 4095 (base + trim)))
    (hsat : k.sat = decide (base + trim < 0 ∨ 4095 < base + trim)) : targetOf base trim = k := by
  obtain ⟨target, sat⟩ := k
  have htoNat : (saturate 0 4095 (base + trim)).toNat = target := by
    rw [saturate_eq _ _ _ (by decide)]
    dsimp only at htarget
    omega
  dsimp only at hsat
  rw [targetOf, htoNat, hsat, Bool.decide_or]

section BaseCode

variable {d0 c0 d1 c1 x : Nat} {base : Int}

/-- The base code is that of R123: at an end of the segment the breakpoint's own code, and between them the rounded
interpolation. -/
theorem baseCode_eq (hbelow : x < d0 → base = c0) (habove : d0 ≤ x → d1 ≤ x → base = c1)
    (hbetween : d0 ≤ x → x < d1 →
      base = c0 + (2 * (((c1 : Int) - c0) * ((x : Int) - d0)) + ((d1 : Int) - d0)) / (2 * ((d1 : Int) - d0))) :
    baseCode d0 c0 d1 c1 x = base := by
  unfold baseCode
  split
  · next h => exact (hbelow h).symm
  · next hlo =>
    split
    · next h => exact (habove (by omega) h).symm
    · next hhi =>
      rw [hbetween (by omega) (by omega), roundHalfUp, Nat.cast_sub (by omega)]

end BaseCode

theorem segmentResult_of_failing {words : List MemWord} (h : ∃ w ∈ words, passes w = false) (x : Nat) (trim : Int) :
    segmentResult words x trim = none := by
  have hall : words.all passes = false := List.all_eq_false.2 (by simpa using h)
  unfold segmentResult
  split
  · rw [hall]
    rfl
  · rfl

theorem segmentResult_of_passing {words : List MemWord} {d0 c0 d1 c1 : BitVec 16} (hwords : words.map wordData = [d0, c0, d1, c1])
    (h : ∀ w ∈ words, passes w = true) (x : Nat) (trim : Int) :
    segmentResult words x trim = some (targetOf (baseCode d0.toNat c0.toNat d1.toNat c1.toNat x) trim) := by
  match words, hwords with
  | [w0, w1, w2, w3], hwords =>
    simp only [List.map_cons, List.map_nil, List.cons.injEq, and_true] at hwords
    obtain ⟨rfl, rfl, rfl, rfl⟩ := hwords
    exact if_pos (List.all_eq_true.2 h)

section EndSegment

variable {s : State} {sc : Scan} {c : ChannelId} {trim : Int} {got : List MemWord}

theorem endSegment_of_failing (hscan : s.lens.scan = some sc) (h : ∃ w ∈ got, passes w = false) :
    endSegment c trim true got s =
      nextSegment sc.remaining
        { s with lens := { s.lens with scan := some { sc with failed := channelSet sc.failed c true } } } := by
  simp only [endSegment, segmentResult_of_failing h, if_true]
  rw [continueTargets_of_scan (sc := { sc with failed := channelSet sc.failed c true }) (by simp [onScan, hscan]), onScan,
    hscan]
  rfl

theorem endSegment_of_result (hscan : s.lens.scan = some sc) {k : Computed}
    (h : segmentResult got (sc.demands.get c.axis) trim = some k) :
    endSegment c trim true got s =
      nextSegment sc.remaining
        { s with lens := { s.lens with scan := some { sc with computed := channelSet sc.computed c (some k) } } } := by
  have hdemand : scanDemand s c = sc.demands.get c.axis := by rw [scanDemand, hscan]
  simp only [endSegment, hdemand, h, if_true]
  rw [continueTargets_of_scan (sc := { sc with computed := channelSet sc.computed c (some k) }) (by simp [onScan, hscan]),
    onScan, hscan]
  rfl

end EndSegment

/-- Settles O46: the words of the segment give the target, and the target stage goes on from the scan that holds it. -/
theorem segmentReadsGiveTargets : Obligations.SegmentReadsGiveTargets := by
  intro s n got c lower trim hpins
  refine ⟨fun hport => ?_, fun hport sc x hscan hx => ?_⟩
  · rcases hport with hport | hport <;> rw [exec_burstEnd hpins hport] <;> rfl
  · refine ⟨_, exec_burstEnd hpins hport, fun hfails sc' hsc' => ?_,
      fun d0 c0 d1 c1 base hwords hpasses hbelow habove hbetween k sc' htarget hsat hsc' => ?_⟩
    · subst hsc'
      rw [show endBurst ⟨.segment c lower trim true, n, 0, got⟩ s = _ from
        endSegment_of_failing (s := { s with memory := { s.memory with port := none } }) hscan hfails]
      exact targetsGoOn_nextSegment (s := { s with
        lens := { s.lens with scan := some { sc with failed := channelSet sc.failed c true } }
        memory := { s.memory with port := none } }) rfl _
    · subst hsc' hx
      have hresult : segmentResult got (sc.demands.get c.axis) trim = some k := by
        rw [segmentResult_of_passing hwords hpasses, baseCode_eq hbelow habove hbetween, targetOf_eq htarget hsat]
      rw [show endBurst ⟨.segment c lower trim true, n, 0, got⟩ s = _ from
        endSegment_of_result (s := { s with memory := { s.memory with port := none } }) hscan hresult]
      exact targetsGoOn_nextSegment (s := { s with
        lens := { s.lens with scan := some { sc with computed := channelSet sc.computed c (some k) } }
        memory := { s.memory with port := none } }) rfl _

/-! ### The scan timer (R138, R140) -/

theorem scanTimer_eq (s : State) :
    scanTimer s =
      { s with
        lens :=
          { s.lens with
            nextDue := some (s.timing.timebase + 10000)
            scan := if s.lens.scan = none then some (Scan.begun s.timing.timebase) else s.lens.scan } } := by
  have hdue : scanDueAfter s.now = some (s.timing.timebase + 10000) := rfl
  cases hscan : s.lens.scan <;> simp [scanTimer, startScan, hscan, hdue, State.now]

/-! ### The end of the conversions (R130, R143) -/

/-- The scan with its demands formed, at the beginning of the target stage (R130, R143). -/
def Scan.withDemands (sc : Scan) (u : LensUnit) : Scan :=
  { sc with
    stage := .target
    demands := PerAxis.build fun x => formedDemand (u.axes.get x) (sc.conversions.wheels.get x) }

theorem endConversions_of_scan {s : State} {sc : Scan} (h : s.lens.scan = some sc) :
    endConversions s = nextSegment channelOrder { s with lens := { s.lens with scan := some (sc.withDemands s.lens) } } := by
  rw [endConversions, onScan, h]
  rfl

theorem conversionsDue_of_end {s : State} {sc : Scan} (h : s.lens.scan = some sc) (hstage : sc.stage = .conversions)
    (hend : s.timing.timebase = sc.start + 1800) : conversionsDue s = true := by
  have hlater : later sc.start (Config.conversionTicks * Config.conversionCount) = s.now := hend.symm
  simp [conversionsDue, h, hstage, hlater]

/-- The codes of R143 are the conversions that the scan made. -/
theorem conversions_eq {codes : Conversions} {sc : Scan}
    (hencoders : ∀ c, channelGet codes.encoders c = sc.made.getD (tableNumber c) 0)
    (hwheels : codes.wheels = ⟨sc.made.getD 6 0, sc.made.getD 7 0, sc.made.getD 8 0⟩) : codes = sc.conversions := by
  have hsame : codes.encoders = sc.conversions.encoders :=
    channel_ext fun c => by rw [hencoders, Scan.conversions, channelGet_build, Scan.code]
  obtain ⟨encoders, wheels⟩ := codes
  dsimp only at hsame hwheels
  rw [hsame, hwheels]
  rfl

theorem formedDemand_eq (a : AxisState) (w : BitVec 12) :
    formedDemand a w = if a.source = .wheel then 16 * w.toNat + w.toNat / 256 else a.requested := by
  unfold formedDemand
  cases a.source <;> rfl

/-- Settles O47: the scan timer starts a scan or skips it, and the end of the conversions forms the demands. -/
theorem scansStartAndFormTheirDemands : Obligations.ScansStartAndFormTheirDemands := by
  intro s hpins
  refine ⟨fun hmode hdue => ?_, fun codes sc sc' hscan hstage hend =>
    ⟨fun hencoders hwheels hsc' hdemands => ?_, fun hcodes => ?_⟩⟩
  · have hnow : scanTimerDue s = true := by
      simp [scanTimerDue, hmode, hdue, State.now]
    rw [← scanTimer_eq]
    exact (live_of_released hpins _).trans (congrArg Host.Outcome.next (if_pos hnow))
  · have hcodes : codes = scanConversions s := by
      rw [conversions_eq hencoders hwheels, scanConversions, hscan]
    have hformed : sc' = sc.withDemands s.lens := by
      rw [hsc', Scan.withDemands, ← conversions_eq hencoders hwheels]
      congr 1
      exact axis_ext fun x => by rw [hdemands, PerAxis.get_build, formedDemand_eq]
    refine ⟨endConversions s, (live_of_released hpins _).trans
      (congrArg Host.Outcome.next (if_pos ⟨conversionsDue_of_end hscan hstage hend, hcodes⟩)), ?_⟩
    rw [endConversions_of_scan hscan, hformed]
    exact targetsGoOn_nextSegment (s := { s with
      lens := { s.lens with scan := some (sc.withDemands s.lens) } }) rfl _
  · have hscanned : ¬ (conversionsDue s = true ∧ codes = scanConversions s) := fun h => by
      rw [scanConversions, hscan] at h
      exact hcodes h.2
    exact (live_of_released hpins _).trans (congrArg Host.Outcome.next (if_neg hscanned))

end Sys2Proof.Machine
end

section
/-!
PROOFS. The end of a LOG_READ, TABLE_ENTRY or TABLE_READ burst (R104, R105, R116, R120, R185).
-/

namespace Sys2Proof.Machine

/-! ### The words of a burst as bytes (R185) -/

theorem wordBytes_wordData (w : MemWord) : wordBytes (wordData w) = [w.extractLsb' 8 8, w.extractLsb' 0 8] := by
  have hbyte (i : Nat) (h : i + 8 ≤ 16) : (w.setWidth 16).extractLsb' i 8 = w.extractLsb' i 8 := by
    ext j hj
    simp
    omega
  simp [wordBytes, wordData, hbyte]

/-- The carried forms of the `k` records of a burst (R105, R185). -/
def carriedForms (k : Nat) (words : List MemWord) : List (List Byte) :=
  (List.range k).map fun i => carriedRecord ((words.drop (19 * i)).take 19)

theorem carriedForms_succ (k : Nat) (words : List MemWord) :
    carriedForms (k + 1) words = carriedRecord (words.take 19) :: carriedForms k (words.drop 19) := by
  simp [carriedForms, List.range_succ_eq_map, Nat.mul_add, Nat.add_comm]

/-- The records of a LOG_READ's reply are their carried forms, each after its length (R185). -/
theorem carriedRecords_eq (k : Nat) (words : List MemWord) :
    carriedRecords k words = (carriedForms k words).flatMap fun form => BitVec.ofNat 8 form.length :: form := by
  induction k generalizing words with
  | zero => rfl
  | succ k ih => rw [carriedRecords, carriedForms_succ, List.flatMap_cons, ih]

theorem carriedAs_carriedForms {k i : Nat} {words : List MemWord} {form : List Byte}
    (h : (carriedForms k words)[i]? = some form) : CarriedAs ((words.drop (19 * i)).take 19) form := by
  rw [carriedForms, List.getElem?_map, Option.map_eq_some_iff] at h
  obtain ⟨j, hj, rfl⟩ := h
  obtain ⟨-, rfl⟩ : i < k ∧ i = j := by simpa [List.getElem?_eq_some_iff] using hj
  exact carriedAs_carriedRecord _

/-! ### The end of a LOG_READ (R104) -/

/-- The cursor moves past the records read, LOG_READY is re-formed and the link is answered (R104). -/
theorem finishLogRead_moves (l : Link) (gap k : Nat) (start : BitVec 32) (words : List MemWord) (s : State) :
    AnsweredEvt l .ok (logReadReport gap k start words) s (finishLogRead l gap k start words s) ∧
      (finishLogRead l gap k start words s).log =
        { s.log with
          readers :=
            s.log.readers.set l
              { s.log.readers.get l with cursor := (s.log.readers.get l).cursor + BitVec.ofNat 32 k } } ∧
      (∀ kind, holds ((finishLogRead l gap k start words s).links.get l).events kind =
        if kind = .logReady then
          (s.log.readers.get l).attached &&
            decide (((finishLogRead l gap k start words s).log.readers.get l).cursor ≠ s.log.next)
        else holds (s.links.get l).events kind) ∧
      OtherLinks l s (finishLogRead l gap k start words s) ∧
      finishLogRead l gap k start words s =
        { s with
          log := (finishLogRead l gap k start words s).log
          links := (finishLogRead l gap k start words s).links } := by
  refine ⟨reply_answered .ok _ rfl (by simp [reformReady]), rfl, fun kind => ?_, fun j hj => ?_, rfl⟩
  · rw [finishLogRead, reply, replyWith_events, reformReady, onLink_get_self, holds_showReady_eq]
    refine congrArg (fun b => if kind = .logReady then b else _) ?_
    have hunread : ∀ a b : BitVec 32, 0 < (a - b).toNat ↔ b ≠ a := fun a b => by bv_omega
    have hattached : ((onReader l (fun r => { r with cursor := r.cursor + BitVec.ofNat 32 k }) s).log.readers.get
        l).attached = (s.log.readers.get l).attached := by
      rw [onReader_get_self]
    rw [PairLog.ready, hattached, PairLog.unread]
    simp only [hunread]
    rfl
  · rw [finishLogRead, reply_get_ne _ .ok _ hj, reformReady, onLink_get_ne _ _ hj]
    rfl

/-! ### The end of a TABLE_ENTRY (R116) -/

/-- The demands of the breakpoints written replace those of their indexes (R116). -/
theorem getElem?_writeDemands (first : Nat) (points : List (BitVec 16 × BitVec 16)) (demands : List (BitVec 16)) (i : Nat)
    (hi : i < demands.length) :
    (writeDemands first points demands)[i]? =
      if first ≤ i ∧ i < first + points.length then points[i - first]?.map Prod.fst else demands[i]? := by
  induction points generalizing first demands with
  | nil => rw [if_neg (by simp), writeDemands]
  | cons p ps ih =>
    rw [writeDemands, ih (first + 1) (demands.set first p.1) (by simpa using hi), List.length_cons]
    rcases Nat.lt_trichotomy i first with h | rfl | h
    · rw [if_neg (by omega), if_neg (by omega), List.getElem?_set_ne (by omega)]
    · rw [if_neg (by omega), if_pos (by omega), List.getElem?_set_self hi]
      simp
    · rw [List.getElem?_set_ne (by omega), show i - first = i - (first + 1) + 1 by omega, List.getElem?_cons_succ]
      exact if_congr (by omega) rfl rfl

/-! ### The end of a TABLE_READ (R120) -/

theorem tableReport_eq (state : TableState) (count : Nat) (words : List MemWord) :
    [state.code, BitVec.ofNat 8 count] ++ (words.map fun w => wordBytes (wordData w)).flatten =
      [state.code, BitVec.ofNat 8 count] ++ words.flatMap fun w => [w.extractLsb' 8 8, w.extractLsb' 0 8] := by
  rw [List.flatMap_def]
  simp only [wordBytes_wordData]

section TableRead

variable {l : Link} {state : TableState} {count : Nat} {words : List MemWord} {s : State}

theorem endTableRead_of_passing (h : ∀ w ∈ words, passes w = true) :
    endTableRead l state count words s =
      reply l .ok
        ([state.code, BitVec.ofNat 8 count] ++ words.flatMap fun w => [w.extractLsb' 8 8, w.extractLsb' 0 8]) s := by
  rw [← tableReport_eq]
  exact if_pos (List.all_eq_true.2 h)

theorem endTableRead_of_failing (h : ∃ w ∈ words, passes w = false) :
    endTableRead l state count words s = reply l .par [] s :=
  if_neg (by simpa using h)

theorem endTableRead_links :
    endTableRead l state count words s = { s with links := (endTableRead l state count words s).links } := by
  unfold endTableRead
  split <;> rfl

end TableRead

theorem answeredAlone_reply (l : Link) (st : Status) (data : List Byte) {s u : State} (hpins : u.pins = s.pins)
    (hlinks : u.links = s.links) : AnsweredAlone l st data s (reply l st data u) := by
  refine ⟨reply_answered st data (by simp [State.unitCode, hpins]) (by rw [hlinks]), ?_, ?_⟩
  · constructor <;> rw [reply_get_self, hlinks] <;> rfl
  · intro k hk
    rw [reply_get_ne u st data hk, hlinks]

/-- Settles O45: each link burst ends in its reply, formed from the words it read. -/
theorem linkBurstsEndInTheirReply : Obligations.LinkBurstsEndInTheirReply := by
  intro l s n got hpins
  refine ⟨fun gap start k hport => ?_, fun c first points T hport hT hlength hfits => ?_,
    fun c index st count hport => ?_⟩
  · obtain ⟨hanswered, hlog, hholds, hother, hframe⟩ :=
      finishLogRead_moves l gap k start got { s with memory := { s.memory with port := none } }
    refine ⟨_, carriedForms k got, exec_burstEnd hpins hport, by simp [carriedForms], fun i form => carriedAs_carriedForms,
      ?_, hlog, hholds, hother, hframe⟩
    rw [← carriedRecords_eq]
    exact hanswered
  · subst hT
    refine ⟨_, writeDemands first points (channelGet s.lens.tables c).demands, exec_burstEnd hpins hport,
      answeredAlone_reply l .ok [] rfl rfl, (length_writeDemands _ _ _).trans hlength,
      fun i hi => getElem?_writeDemands first points _ i (by omega), rfl⟩
  · refine ⟨_, exec_burstEnd hpins hport, fun hpasses => ?_, fun hfails => ?_, ?_⟩
    · rw [show endBurst ⟨.tableRead l c index st count, n, 0, got⟩ s = _ from
        endTableRead_of_passing (s := { s with memory := { s.memory with port := none } }) hpasses]
      exact answeredAlone_reply l .ok _ rfl rfl
    · rw [show endBurst ⟨.tableRead l c index st count, n, 0, got⟩ s = _ from
        endTableRead_of_failing (s := { s with memory := { s.memory with port := none } }) hfails]
      exact answeredAlone_reply l .par [] rfl rfl
    · exact endTableRead_links (s := { s with memory := { s.memory with port := none } })

end Sys2Proof.Machine
end

section
/-!
PROOFS. The word accesses of a burst (R150, R151, R153, R157, R184).
-/

namespace Sys2Proof.Machine

/-! ### Numbers in bytes, the first byte the most significant -/

theorem bigEndian_cons (b : Byte) (bs : List Byte) :
    bigEndian (b :: bs) = b.toNat * 256 ^ bs.length + bigEndian bs := by
  have hrun : ∀ (xs : List Byte) (acc : Nat),
      xs.foldl (fun v b => 256 * v + b.toNat) acc = acc * 256 ^ xs.length + bigEndian xs := by
    intro xs
    induction xs with
    | nil => intro acc; simp [bigEndian]
    | cons x xs ih =>
      intro acc
      rw [bigEndian, List.foldl_cons, List.foldl_cons, ih, ih, List.length_cons, pow_succ]
      ring
  rw [bigEndian, List.foldl_cons, hrun]
  simp

theorem bigEndian_lt (bs : List Byte) : bigEndian bs < 256 ^ bs.length := by
  induction bs with
  | nil => simp [bigEndian]
  | cons b bs ih =>
    have hb : b.toNat < 256 := b.isLt
    rw [bigEndian_cons, List.length_cons, pow_succ]
    nlinarith

theorem eq_of_bigEndian_eq {xs ys : List Byte} (hlength : xs.length = ys.length) (h : bigEndian xs = bigEndian ys) :
    xs = ys := by
  induction xs generalizing ys with
  | nil => exact (List.length_eq_zero_iff.1 hlength.symm).symm
  | cons x xs ih =>
    cases ys with
    | nil => cases hlength
    | cons y ys =>
      have htail : xs.length = ys.length := Nat.succ_injective hlength
      have hpos : 0 < 256 ^ xs.length := Nat.pow_pos (by decide)
      have hx := bigEndian_lt xs
      have hy := bigEndian_lt ys
      rw [bigEndian_cons, bigEndian_cons, ← htail] at h
      rw [← htail] at hy
      have hhead : x.toNat = y.toNat := by
        have hdiv := congrArg (· / 256 ^ xs.length) h
        simpa [Nat.mul_comm _ (256 ^ xs.length), Nat.mul_add_div hpos, Nat.div_eq_of_lt hx, Nat.div_eq_of_lt hy] using hdiv
      rw [BitVec.eq_of_toNat_eq hhead, ih htail (by rw [hhead] at h; omega)]

theorem eq_bytesOf {xs : List Byte} {n v : Nat} (hlength : xs.length = n) (h : bigEndian xs = v % 256 ^ n) :
    xs = bytesOf n v :=
  eq_of_bigEndian_eq (by rw [hlength, length_bytesOf]) (by rw [h, bigEndian_bytesOf])

theorem eq_singleton_of_bigEndian {xs : List Byte} {b : Byte} (hlength : xs.length = 1) (h : bigEndian xs = b.toNat) :
    xs = [b] :=
  eq_of_bigEndian_eq hlength (by rw [h, bigEndian_cons]; simp [bigEndian])

/-! ### The stored form of a record (R184) -/

theorem length_bytesAt {i n : Nat} {stored : List Byte} (h : i + n ≤ stored.length) : (bytesAt i n stored).length = n := by
  simp [bytesAt]
  omega

theorem bytesAt_append (i m n : Nat) (stored : List Byte) :
    bytesAt i m stored ++ bytesAt (i + m) n stored = bytesAt i (m + n) stored := by
  rw [bytesAt, bytesAt, bytesAt, List.take_add, List.drop_drop]

/-- The bytes of a record and of their places, item by item (R184). -/
theorem bytesAt_split {stored : List Byte} (h : stored.length = 38) :
    stored =
      bytesAt 0 1 stored ++ bytesAt 1 1 stored ++ bytesAt 2 4 stored ++ bytesAt 6 4 stored ++ bytesAt 10 1 stored ++
        bytesAt 11 1 stored ++ bytesAt 12 3 stored ++ bytesAt 15 3 stored ++ bytesAt 18 4 stored ++
        bytesAt 22 4 stored ++ bytesAt 26 3 stored ++ (bytesAt 29 1 stored ++ bytesAt 30 2 stored) ++
        (bytesAt 32 1 stored ++ bytesAt 33 2 stored) ++ (bytesAt 35 1 stored ++ bytesAt 36 2 stored) := by
  have hall : bytesAt 0 38 stored = stored := by simp [bytesAt, ← h]
  conv_lhs => rw [← hall]
  rw [← bytesAt_append 0 35 3, ← bytesAt_append 0 32 3, ← bytesAt_append 0 29 3, ← bytesAt_append 0 26 3,
    ← bytesAt_append 0 22 4, ← bytesAt_append 0 18 4, ← bytesAt_append 0 15 3, ← bytesAt_append 0 12 3,
    ← bytesAt_append 0 11 1, ← bytesAt_append 0 10 1, ← bytesAt_append 0 6 4, ← bytesAt_append 0 2 4,
    ← bytesAt_append 0 1 1, ← bytesAt_append (0 + 29) 1 2, ← bytesAt_append (0 + 32) 1 2, ← bytesAt_append (0 + 35) 1 2]

/-- A byte is made of its bits, the two upper ones of a stored flags byte being 0 (R184). -/
theorem eq_append_bits : ∀ flags : Byte, flags.getLsbD 6 = false → flags.getLsbD 7 = false →
    (flags : Byte) =
      0#2 ++ BitVec.ofBool (flags.getLsbD 5) ++ BitVec.ofBool (flags.getLsbD 4) ++ BitVec.ofBool (flags.getLsbD 3) ++
        BitVec.ofBool (flags.getLsbD 2) ++ BitVec.ofBool (flags.getLsbD 1) ++ BitVec.ofBool (flags.getLsbD 0) := by
  decide

theorem flags_eq {r : PairRecord} {flags : Byte} (hramp : flags.getLsbD 0 = r.isRamp) (hexp : flags.getLsbD 1 = r.expClamp)
    (hoffset : flags.getLsbD 2 = r.offsetClamp) (hdrop : flags.getLsbD 3 = r.dropMark)
    (hleft : flags.getLsbD 4 = r.leftReturn.isSome) (hright : flags.getLsbD 5 = r.rightReturn.isSome)
    (h6 : flags.getLsbD 6 = false) (h7 : flags.getLsbD 7 = false) : flags = r.flags := by
  rw [PairRecord.flags, ← hramp, ← hexp, ← hoffset, ← hdrop, ← hleft, ← hright]
  exact eq_append_bits flags h6 h7

theorem axisBytes_eq {a : AxisSnapshot} {xs ys : List Byte} (hx : xs.length = 1) (hy : ys.length = 2)
    (hstate : bigEndian xs = a.state.code.toNat) (hdemand : bigEndian ys = a.demand % 2 ^ 16) : xs ++ ys = a.bytes := by
  rw [eq_singleton_of_bigEndian hx hstate, eq_bytesOf hy hdemand]
  rfl

/-- The stored form of R184 is the one the model writes. -/
theorem eq_bytes_of_storedAs {r : PairRecord} {stored : List Byte} (h : StoredAs r stored) : stored = r.bytes := by
  obtain ⟨hlength, houtcome, hflags, hnumber, hstamp, hgeneration, href, hperiod, hexposure, hleft, hright, hskew, haxes⟩ := h
  have hlen (i n : Nat) (hin : i + n ≤ 38) : (bytesAt i n stored).length = n := length_bytesAt (by omega)
  have hone : bytesAt 1 1 stored = [r.flags] := by
    match stored, hlength, hflags with
    | _ :: flags :: _, _, hflags =>
      obtain ⟨hramp, hexp, hoffset, hdrop, hl, hr, h6, h7⟩ := hflags flags rfl
      rw [← flags_eq hramp hexp hoffset hdrop hl hr h6 h7]
      rfl
  have hcode : bytesAt 0 1 stored = [r.outcome.code] :=
    eq_singleton_of_bigEndian (hlen 0 1 (by decide)) (by rw [houtcome]; cases r.outcome <;> rfl)
  have hstate : bytesAt 11 1 stored = [r.refState.code] :=
    eq_singleton_of_bigEndian (hlen 11 1 (by decide)) (by rw [href]; cases r.refState <;> rfl)
  have hnum : bytesAt 2 4 stored = bytesOf 4 r.number.toNat :=
    eq_bytesOf (hlen 2 4 (by decide)) (by rw [hnumber]; exact (Nat.mod_eq_of_lt r.number.isLt).symm)
  have hreturn (x : Option (BitVec 32)) (i : Nat) (hi : i + 4 ≤ 38)
      (hx : bigEndian (bytesAt i 4 stored) = (x.map BitVec.toNat).getD 0) :
      bytesAt i 4 stored = bytesOf 4 (x.getD 0).toNat := by
    refine eq_bytesOf (hlen i 4 hi) (hx.trans ?_)
    cases x with
    | none => rfl
    | some v => exact (Nat.mod_eq_of_lt v.isLt).symm
  have hskewed : bytesAt 26 3 stored = signedBytes 3 (r.skew.getD 0) := by
    refine eq_bytesOf (hlen 26 3 (by decide)) ?_
    norm_num at hskew ⊢
    omega
  have haxis (i : Nat) (x : Axis) (hi : i < 3) (hx : [Axis.focus, .iris, .zoom][i]? = some x) :
      bytesAt (29 + 3 * i) 1 stored ++ bytesAt (30 + 3 * i) 2 stored = (r.lens.get x).bytes := by
    obtain ⟨hmatch, hdemand⟩ := haxes i x hx
    exact axisBytes_eq (hlen _ 1 (by omega)) (hlen _ 2 (by omega))
      (hmatch.trans (by cases (r.lens.get x).state <;> rfl)) hdemand
  rw [bytesAt_split hlength, hcode, hone, hnum, hstamp, hgeneration, hstate,
    eq_bytesOf (hlen 12 3 (by decide)) hperiod, eq_bytesOf (hlen 15 3 (by decide)) hexposure,
    hreturn r.leftReturn 18 (by decide) hleft, hreturn r.rightReturn 22 (by decide) hright, hskewed,
    haxis 0 .focus (by decide) rfl, haxis 1 .iris (by decide) rfl, haxis 2 .zoom (by decide) rfl]
  simp [PairRecord.bytes, timecodeBytes, PerAxis.get]

theorem wordsOf_getD {j : Nat} {xs : List Byte} (h : 2 * j + 1 < xs.length) :
    ((wordsOf xs).getD j 0).toNat = bigEndian (bytesAt (2 * j) 2 xs) := by
  induction j generalizing xs with
  | zero =>
    match xs, h with
    | a :: b :: rest, _ =>
      have hb : b.toNat < 256 := b.isLt
      have hword : (wordsOf (a :: b :: rest)).getD 0 0 = a ++ b := rfl
      have hbytes : bigEndian (bytesAt (2 * 0) 2 (a :: b :: rest)) = 256 * a.toNat + b.toNat := by
        simp [bytesAt, bigEndian]
      rw [hword, hbytes]
      exact (BitVec.toNat_append a b).trans (by rw [Nat.shiftLeft_eq, Nat.mul_comm, ← Nat.two_pow_add_eq_or_of_lt hb])
  | succ j ih =>
    match xs, h with
    | a :: b :: rest, h =>
      have hrest := ih (xs := rest) (by simp only [List.length_cons] at h; omega)
      simpa [wordsOf, bytesAt, Nat.mul_add] using hrest

theorem recordWord_eq {r : PairRecord} {j : Nat} {d : BitVec 16} (h : RecordWord r j d) : r.words.getD j 0 = d := by
  obtain ⟨stored, hstored, hj, hd⟩ := h
  have hbytes := eq_bytes_of_storedAs hstored
  refine BitVec.eq_of_toNat_eq ?_
  rw [PairRecord.words, wordsOf_getD (by rw [PairRecord.length_bytes]; omega), hd, hbytes]

theorem pointWords_eq (points : List (BitVec 16 × BitVec 16)) :
    pointWords points = points.flatMap fun p => [p.1, p.2] := by
  induction points with
  | nil => rfl
  | cons p ps ih => rw [pointWords, ih, List.flatMap_cons]; rfl

/-! ### The tick of a burst (R157) -/

section BurstTick

variable {s : State} {b : Burst}

theorem step_of_burst (hpending : s.pending = []) (hpins : s.pins.resetAsserted = false) (hdue : ∀ i, ¬ EventDue s i)
    (hport : s.memory.port = some b) (hleft : 0 < b.left)
    (haddress : wordAddress s.log b.holder (b.length - b.left) < 2048) : step s = .next (passTick s) := by
  have hgrant : grantDue s = false := by simp [grantDue, hport]
  have hmissing : accessMissing s = false := by
    rw [accessMissing, nextAccess_of_burst hport (Nat.ne_of_gt hleft)]
    exact decide_eq_false (Nat.not_le.2 haddress)
  rw [step_of_no_command hpending, idle_of_nothing hpins (not_eventDue_iff_dueEvents_eq_nil.1 hdue) hgrant]
  exact if_neg (by simp [hmissing])

theorem passTick_of_write {a : Nat} {d : BitVec 16} (hport : s.memory.port = some b) (hleft : 0 < b.left)
    (ha : wordAddress s.log b.holder (b.length - b.left) = a)
    (hd : wordWritten s.matcher b.holder (b.length - b.left) = some d) :
    passTick s =
      { s with
        timing := { s.timing with timebase := s.timing.timebase + 1 }
        lens := s.lens.convert (s.timing.timebase + 1)
        memory := s.memory.wrote a d b } := by
  rw [passTick, accessWord_of_write hport (Nat.ne_of_gt hleft) hd, ha]
  rfl

theorem passTick_of_read {a : Nat} (hport : s.memory.port = some b) (hleft : 0 < b.left)
    (ha : wordAddress s.log b.holder (b.length - b.left) = a)
    (hd : wordWritten s.matcher b.holder (b.length - b.left) = none) :
    passTick s =
      { s with
        timing := { s.timing with timebase := s.timing.timebase + 1 }
        lens := s.lens.convert (s.timing.timebase + 1)
        memory := s.memory.readOne a b } := by
  rw [passTick, accessWord_of_read hport (Nat.ne_of_gt hleft) hd, ha]
  rfl

end BurstTick

/-- Settles O6: the address and the word of the access follow from the holder, and a tick does nothing else. -/
theorem eachTickAccessesTheNextWordOfTheBurst : Obligations.EachTickAccessesTheNextWordOfTheBurst := by
  intro s b hpending hpins hdue hport hleft hle hwf
  have hstep (a : Nat) (ha : wordAddress s.log b.holder (b.length - b.left) = a) (hlt : a < 2048) :
      step s = .next (passTick s) :=
    step_of_burst hpending hpins hdue hport hleft (ha.trans_lt hlt)
  refine ⟨fun a d hlt hword => ?_, fun a hlt hword => ?_⟩
  · obtain ⟨ha, hd⟩ : wordAddress s.log b.holder (b.length - b.left) = a ∧
        wordWritten s.matcher b.holder (b.length - b.left) = some d := by
      rcases hword with ⟨hholder, ha, hd⟩ | ⟨hholder, ha, r, rest, hqueue, hd⟩ | ⟨l, c, first, points, hholder, ha, hd⟩ <;>
        rw [hholder, ha]
      · exact ⟨rfl, congrArg some hd.symm⟩
      · refine ⟨rfl, ?_⟩
        rw [wordWritten, hqueue, ← recordWord_eq hd]
      · refine ⟨rfl, congrArg some ?_⟩
        rw [pointWords_eq, List.getD_eq_getElem?_getD, hd]
        rfl
    refine ⟨passTick s, hstep a ha hlt, ?_⟩
    rw [passTick_of_write hport hleft ha hd]
    exact ⟨Memory.read_write_self a _ hwf, fun k hk => Memory.read_write_ne hk _, rfl, conversionMade_convert _ _, rfl⟩
  · obtain ⟨ha, hd⟩ : wordAddress s.log b.holder (b.length - b.left) = a ∧
        wordWritten s.matcher b.holder (b.length - b.left) = none := by
      rcases hword with ⟨c, lower, trim, isLive, hholder, ha⟩ | ⟨l, gap, start, k, hholder, ha⟩ |
          ⟨l, c, index, st, n, hholder, ha⟩ <;> rw [hholder, ha] <;> exact ⟨rfl, rfl⟩
    refine ⟨s.lens.convert (s.timing.timebase + 1), conversionMade_convert _ _, ?_⟩
    rw [hstep a ha hlt, passTick_of_read hport hleft ha hd]
    rfl

end Sys2Proof.Machine
end

section
/-!
PROOFS. The eye offset and the room of a frame (R43, R45, R46).
-/

namespace Sys2Proof.Machine

section EyeOffset

variable (p : Plan)

theorem eyeOffset_eq {num : Int}
    (h : num = lineFraction p.dirL p.alignLine * p.readoutL - lineFraction p.dirR p.alignLine * p.readoutR) :
    p.eyeOffset = (2 * num + 1000) / 2000 := by
  rw [Plan.eyeOffset, ← h]
  rfl

theorem lineFraction_range (d : Dir) {align : Nat} (h : align ≤ 1000) :
    0 ≤ lineFraction d align ∧ lineFraction d align ≤ 1000 := by
  cases d <;> simp only [lineFraction] <;> omega

/-- The line time of an eye is at most its readout, in per mille (R46). -/
theorem lineTime_range (d : Dir) {align readout : Nat} (halign : align ≤ 1000) (hreadout : readout ≤ 500000) :
    0 ≤ lineFraction d align * readout ∧ lineFraction d align * readout ≤ 500000000 := by
  obtain ⟨hlo, hhi⟩ := lineFraction_range d halign
  have hcast : (readout : Int) ≤ 500000 := by exact_mod_cast hreadout
  exact ⟨by positivity, by nlinarith⟩

theorem eyeOffset_range (h : p.inRanges) : -500000 ≤ p.eyeOffset ∧ p.eyeOffset ≤ 500000 := by
  obtain ⟨-, -, -, -, -, halign, hleft, hright, -, -⟩ := h
  obtain ⟨hlo, hhi⟩ := lineTime_range p.dirL halign hleft
  obtain ⟨hlo', hhi'⟩ := lineTime_range p.dirR halign hright
  have hoffset := eyeOffset_eq p rfl
  omega

theorem lineFraction_eq (d : Dir) (align : Nat) :
    lineFraction d align = if d = .down then (align : Int) else 1000 - align := by
  cases d <;> rfl

theorem triggerTime_eq (b : Time) (d : Int) (e : Eye) : triggerTime b d e = b + BitVec.ofNat 48 (eyeDelay d e) := by
  cases e <;> rfl

theorem eyeDelay_le (d : Int) (e : Eye) : eyeDelay d e ≤ d.natAbs := by
  cases e <;> simp only [eyeDelay] <;> omega

end EyeOffset

/-- Every period drawn under a plan that passes its own validation is at least the fit floor (R39, R43). -/
theorem fitFloor_le_drawPeriod {p : Plan} (h : p.usable) (acc : Nat) (ramp : Option Ramp) :
    p.fitFloor ≤ (drawPeriod p acc ramp).period := by
  have hbase : p.fitFloor ≤ p.basePeriod := h.1
  have haccumulator (a : Nat) : p.fitFloor ≤ (drawAccumulator p a).period := by
    unfold drawAccumulator
    dsimp only
    split <;> dsimp only <;> omega
  unfold drawPeriod
  split
  · exact haccumulator acc
  · next r =>
    split
    · unfold drawRamp
      by_cases hformula : r.formula (r.index + 1) < p.fitFloor
      · simp [hformula]
      · simp only [hformula, decide_false, Bool.false_eq_true, if_false]
        omega
    · exact haccumulator 0

/-- Settles O49: the offset is a rounded quotient of bounded line times, and every drawn period holds the fit floor. -/
theorem framesFitBesideTheirOffset : Obligations.FramesFitBesideTheirOffset := by
  intro p hranges
  obtain ⟨hlo, hhi⟩ := eyeOffset_range p hranges
  refine ⟨fun num hnum => ?_, hlo, hhi, fun b e => triggerTime_eq b _ e, fun husable acc ramp d x hd hx => ?_⟩
  · have hoffset : p.eyeOffset = (2 * num + 1000) / 2000 := eyeOffset_eq p (by rw [lineFraction_eq, lineFraction_eq, hnum])
    omega
  · have hfits : p.gap + p.eyeOffset.natAbs + 20 ≤ d.period := by
      rw [hd]
      exact fitFloor_le_drawPeriod husable acc ramp
    rw [clampExposure] at hx
    refine ⟨by omega, fun e => ?_, fun hne => by omega⟩
    have hdelay := eyeDelay_le p.eyeOffset e
    omega

end Sys2Proof.Machine
end

section
/-!
PROOFS. The application of a plan while STOPPED (R11, R12, R31, R35 to R37, R40 to R42) and PLAN_COMMIT (R29, R30).
-/

namespace Sys2Proof.Machine

/-! ### What is posted (R175) -/

section Posted

variable {s : State} {l : Link} {k : EventKind}

/-- A reply moves no pending set. -/
theorem replyDuring_events (begun : State) (st : Status) (data : List Byte) (j : Link) :
    ((replyDuring begun l st data s).links.get j).events = (s.links.get j).events := by
  by_cases hj : j = l
  · rw [hj, replyDuring, replyWith_events]
  · rw [replyDuring_get_ne _ _ st data hj]

theorem holds_postAll {j : EventKind} :
    holds ((postAll k s).links.get l).events j = true ↔ holds (s.links.get l).events j = true ∨ j = k := by
  rw [postAll_get]
  exact holds_or_mask

/-- A move of the reference state posts REF_CHANGE (R12). -/
theorem holds_setRef {v : RefState} :
    holds ((setRef v s).links.get l).events k = true ↔
      holds (s.links.get l).events k = true ∨ (k = .refChange ∧ v ≠ s.timing.refState) := by
  by_cases hv : v = s.timing.refState
  · rw [setRef_of_eq v s hv]
    simp [hv]
  · rw [setRef_of_ne v s hv, holds_postAll]
    simp [hv]

theorem holds_settleReference {u : PlanUnit} :
    holds ((settleReference u s).links.get l).events k = true ↔
      holds (s.links.get l).events k = true ∨
        (k = .refChange ∧ (settleReference u s).timing.refState ≠ s.timing.refState) := by
  unfold settleReference recomputeRef
  split
  · rw [holds_setRef, setRef_timing, toRef_refState]
  · split
    · rw [holds_setRef, setRef_timing, toRef_refState]
    · simp

theorem holds_applyStaged {b : Bool} :
    holds ((applyStaged b s).links.get l).events k = true ↔
      holds (s.links.get l).events k = true ∨ k = .planApplied := by
  unfold applyStaged
  dsimp only
  rw [holds_postAll]
  split <;> rfl

end Posted

/-! ### The timing of an application (R11, R12, R35, R40 to R42) -/

section Timing

variable {u : PlanUnit} {t : Timing}

theorem modeChanges_iff : modeChanges u = true ↔ u.staged.refMode ≠ u.active.refMode := by
  simp [modeChanges]

/-- Away from a boundary the generator is restarted, or left as it is (R40, R42). -/
theorem restartGenerator_away :
    t.restartGenerator u false =
      if rateChanges u || (modeChanges u && u.staged.refMode == .external && t.ramp.isSome) then
        { t with ramp := none, acc := 0 }
      else t := by
  cases hrate : rateChanges u <;> simp [Timing.restartGenerator, hrate]

theorem applied_inputs (b : Bool) (r : RefId) :
    (t.applied u b).inputs.get r =
      if rateChanges u then (t.inputs.get r).requalify u.staged.basePeriod t.timebase else t.inputs.get r := by
  cases hrate : rateChanges u <;> cases r <;> simp [Timing.applied, hrate, PerRef.build, PerRef.get]

theorem applied_inputs_of_same_rate (b : Bool) (h : rateChanges u = false) : (t.applied u b).inputs = t.inputs := by
  simp [Timing.applied, h]

/-- In STOPPED no move of the reference state sets the lock record or begins a re-phase (R12, R16). -/
theorem toRef_lockHeld_of_stopped {v : RefState} (h : t.run = .stopped) : (t.toRef v).lockHeld = t.lockHeld := by
  unfold Timing.toRef
  split <;> simp [h]

theorem toRef_rephase_of_stopped {v : RefState} (h : t.run = .stopped) (hrephase : t.rephase = none) :
    (t.toRef v).rephase = none := by
  unfold Timing.toRef
  split <;> simp [h, hrephase]

theorem settled_lockHeld_of_stopped (h : t.run = .stopped) : (t.settled u).lockHeld = t.lockHeld := by
  unfold Timing.settled
  (repeat' split) <;> simp [toRef_lockHeld_of_stopped h]

theorem settled_rephase_of_stopped (h : t.run = .stopped) (hrephase : t.rephase = none) :
    (t.settled u).rephase = none := by
  unfold Timing.settled
  (repeat' split) <;> simp [toRef_rephase_of_stopped h, hrephase]

theorem settled_of_no_change (hrate : rateChanges u = false) (hmode : modeChanges u = false) : t.settled u = t := by
  simp [Timing.settled, hrate, hmode]

theorem applied_of_no_change (b : Bool) (hrate : rateChanges u = false) (hmode : modeChanges u = false) :
    t.applied u b = t := by
  simp [Timing.applied, Timing.restartGenerator, hrate, hmode]

/-- The reference state after an application of a change is the one its mode gives (R12, R21). -/
theorem refOk_settled_of_change (h : t.run = .stopped) (hchange : rateChanges u = true ∨ modeChanges u = true) :
    (t.settled u).RefOk u.staged.refMode := by
  unfold Timing.settled
  split
  · exact Timing.refOk_toRef_entered
  · next hmode =>
    rw [if_pos (hchange.resolve_right hmode)]
    exact Timing.refOk_toRef_formed fun _ hrun => absurd h hrun

end Timing

/-! ### An application while STOPPED (R31, R35, R36) -/

/-- The state after an application while STOPPED, but for the committer's reply. -/
def applyNow (s : State) : State := settleReference s.plan (applyStaged false s)

section ApplyNow

variable (s : State)

theorem applyWhileStopped_eq (begun : State) (l : Link) :
    applyWhileStopped begun (some l) s = answerCommitter begun l (applyNow s).timing.pairNumber (applyNow s) := rfl

@[simp] theorem applyNow_plan : (applyNow s).plan = s.plan.applied := by simp [applyNow]

@[simp] theorem applyNow_timing : (applyNow s).timing = (s.timing.applied s.plan false).settled s.plan :=
  applyWhileStopped_timing s s none

theorem applyNow_frame :
    applyNow s = { s with timing := (applyNow s).timing, plan := (applyNow s).plan, links := (applyNow s).links } := by
  apply State.eq_of_fields <;> simp [applyNow]

theorem grew_applyNow : Grew s (applyNow s) := (grew_applyStaged false s).trans (grew_settleReference _ _)

theorem holds_applyNow {l : Link} {k : EventKind} :
    holds ((applyNow s).links.get l).events k = true ↔
      holds (s.links.get l).events k = true ∨ k = .planApplied ∨
        (k = .refChange ∧ (applyNow s).timing.refState ≠ s.timing.refState) := by
  rw [applyNow, holds_settleReference, holds_applyStaged, applyStaged_timing, applied_refState, or_assoc]

/-- The new generation and the pair number, as the committer's reply carries them (R36). -/
def commitReport (s : State) : List Byte := (s.plan.generation + 1) :: bytesOf 4 s.timing.pairNumber.toNat

theorem answerCommitter_applyNow (begun : State) (l : Link) :
    answerCommitter begun l (applyNow s).timing.pairNumber (applyNow s) =
      replyDuring begun l .ok (commitReport s) (applyNow s) := by
  rw [answerCommitter, applyNow_plan, applyNow_timing, settled_pairNumber, applied_pairNumber]
  rfl

end ApplyNow

/-! ### PLAN_COMMIT (R29, R30) -/

section PlanCommit

variable {l : Link} {s : State}

theorem takePlanCommit_of_free (h : s.plan.stage = .free) : takePlanCommit l s = reply l .state [] s := by
  rw [takePlanCommit, h]

theorem takePlanCommit_of_committing (h : s.plan.stage = .committing) : takePlanCommit l s = reply l .pend [] s := by
  rw [takePlanCommit, h]

theorem takePlanCommit_of_held (h : s.plan.stage = .editing) (heditor : s.plan.editor ≠ some l) :
    takePlanCommit l s = reply l .held [] s := by
  simp only [takePlanCommit, h, if_neg heditor]

theorem takePlanCommit_of_fault {reason : Byte} (h : s.plan.stage = .editing) (heditor : s.plan.editor = some l)
    (hfault : planFault s.plan.active s.plan.staged = some reason) :
    takePlanCommit l s = reply l .plan [reason] { s with plan := { s.plan with lapse := lapseFromNow s } } := by
  simp only [takePlanCommit, h, if_pos heditor, hfault]

theorem takePlanCommit_of_running (h : s.plan.stage = .editing) (heditor : s.plan.editor = some l)
    (hvalid : planFault s.plan.active s.plan.staged = none) (hrun : s.timing.run ≠ .stopped) :
    takePlanCommit l s = { s with plan := { s.plan with stage := .committing, lapse := none } } := by
  simp only [takePlanCommit, h, if_pos heditor, hvalid, if_neg hrun]

theorem takePlanCommit_of_stopped (h : s.plan.stage = .editing) (heditor : s.plan.editor = some l)
    (hvalid : planFault s.plan.active s.plan.staged = none) (hrun : s.timing.run = .stopped) :
    takePlanCommit l s = replyDuring s l .ok (commitReport s) (applyNow s) := by
  simp only [takePlanCommit, h, if_pos heditor, hvalid, if_pos hrun]
  rw [applyWhileStopped_eq, answerCommitter_applyNow]

end PlanCommit

section PlanFault

variable {active staged : Plan}

theorem room_eq_fitRoom {room : Int}
    (h : room = (min (10000000 * active.rateDen / active.rateNum) (10000000 * staged.rateDen / staged.rateNum) : Nat) -
      (staged.gap : Int) - staged.eyeOffset.natAbs) : room = fitRoom active staged := by
  rw [h, fitRoom, Nat.cast_min]
  rfl

theorem planFault_of_no_room (h : fitRoom active staged < 20 ∨ (0 < staged.rampLen ∧ staged.refMode = .external)) :
    planFault active staged = some (if fitRoom active staged < 20 then 1 else 2) := by
  unfold planFault
  by_cases hroom : fitRoom active staged < 20
  · rw [if_pos hroom, if_pos hroom]
  · rw [if_neg hroom, if_neg hroom, if_pos (h.resolve_left hroom)]

theorem planFault_of_valid (hroom : 20 ≤ fitRoom active staged) (hramp : ¬ (0 < staged.rampLen ∧ staged.refMode = .external)) :
    planFault active staged = none := by
  rw [planFault, if_neg (by omega), if_neg hramp]

end PlanFault

/-- The timing that an application while STOPPED leaves (R11, R12, R40 to R42). -/
theorem applyNow_timing_of_stopped {s : State} (hrun : s.timing.run = .stopped) {restarts : Bool}
    (hrestarts : restarts =
      (rateChanges s.plan || (modeChanges s.plan && s.plan.staged.refMode == .external && s.timing.ramp.isSome))) :
    (applyNow s).timing =
      { s.timing with
        acc := if restarts then 0 else s.timing.acc
        ramp := if restarts then none else s.timing.ramp
        lockHeld := s.timing.lockHeld && !modeChanges s.plan
        refState := (applyNow s).timing.refState, rephase := (applyNow s).timing.rephase
        inputs := (applyNow s).timing.inputs } := by
  have hlock : (applyNow s).timing.lockHeld = (s.timing.lockHeld && !modeChanges s.plan) := by
    rw [applyNow_timing, settled_lockHeld_of_stopped (by rw [applied_run, hrun])]
    rfl
  have hgenerator : s.timing.restartGenerator s.plan false =
      { s.timing with acc := if restarts then 0 else s.timing.acc, ramp := if restarts then none else s.timing.ramp } := by
    rw [restartGenerator_away, ← hrestarts]
    cases restarts <;> rfl
  rw [← hlock, applyNow_timing, settled_frame, applied_frame, applied_ramp, applied_acc, hgenerator]

/-- Settles O21: PLAN_COMMIT's refusals, its wait, and an application while STOPPED with its reply. -/
theorem planCommitValidatesAndAppliesOrWaits : Obligations.PlanCommitValidatesAndAppliesOrWaits := by
  intro l s hready
  refine ⟨takePlanCommit l (s.taken l .unicast), handOver_ready hready .unicast _, fun hstage => ?_, fun hstage => ?_,
    fun hstage heditor => ?_, fun hstage heditor room hroom => ⟨fun hfault => ?_, fun hfits hramp =>
    ⟨fun hrun => ?_, fun hrun rate mode hrate hmode => ?_⟩⟩⟩
  · rw [takePlanCommit_of_free (s := s.taken l .unicast) hstage]
    exact reply_taken l .state []
  · rw [takePlanCommit_of_committing (s := s.taken l .unicast) hstage]
    exact reply_taken l .pend []
  · rw [takePlanCommit_of_held (s := s.taken l .unicast) hstage heditor]
    exact reply_taken l .held []
  · obtain rfl := room_eq_fitRoom hroom
    rw [takePlanCommit_of_fault (s := s.taken l .unicast) hstage heditor (planFault_of_no_room hfault)]
    exact ⟨reply_answeredAlone .plan _ rfl rfl, rfl⟩
  · obtain rfl := room_eq_fitRoom hroom
    rw [takePlanCommit_of_running (s := s.taken l .unicast) hstage heditor (planFault_of_valid hfits hramp) hrun]
    exact ⟨leftExecuting_of_links rfl, rfl⟩
  · obtain rfl := room_eq_fitRoom hroom
    have hrateChanges : rateChanges s.plan = rate := by
      rw [hrate, Bool.eq_iff_iff, rateChanges_eq_true, decide_eq_true_iff]
    have hmodeChanges : modeChanges s.plan = mode := by
      rw [hmode, Bool.eq_iff_iff, modeChanges_iff, decide_eq_true_iff]
    have hgrew := grew_applyNow (s.taken l .unicast)
    rw [takePlanCommit_of_stopped (s := s.taken l .unicast) hstage heditor (planFault_of_valid hfits hramp) hrun]
    have htiming : (replyDuring (s.taken l .unicast) l .ok (commitReport (s.taken l .unicast))
        (applyNow (s.taken l .unicast))).timing = (s.timing.applied s.plan false).settled s.plan :=
      applyNow_timing (s.taken l .unicast)
    have hstopped : (s.timing.applied s.plan false).run = .stopped := by rw [applied_run, hrun]
    refine ⟨?_, ?_, fun restarts hrestarts => ?_, fun hrephase => ?_, fun hrate' hmode' => ?_, fun hchange => ?_,
      fun k kind => ?_, fun k hk => ?_, ?_, fun r => ?_⟩
    · refine replyDuring_answered .ok _ ?_ ?_ (taken_attention l l .unicast)
      · rw [State.unitCode, applyNow_frame]
        rfl
      · rw [(hgrew l).1]
        exact taken_ovr l .unicast
    · rw [applyNow_frame, applyNow_plan]
      rfl
    · subst hrateChanges hmodeChanges
      exact applyNow_timing_of_stopped (s := s.taken l .unicast) hrun hrestarts
    · rw [htiming]
      exact settled_rephase_of_stopped hstopped (by rw [applied_rephase, hrephase])
    · rw [htiming, applied_of_no_change _ (hrateChanges.trans hrate') (hmodeChanges.trans hmode'),
        settled_of_no_change (hrateChanges.trans hrate') (hmodeChanges.trans hmode')]
    · have hok := refOk_settled_of_change (u := s.plan) hstopped (by simpa [hrateChanges, hmodeChanges] using hchange)
      rw [referenceInv_iff, htiming, replyDuring_plan, applyNow_plan]
      exact hok
    · rw [replyDuring_events, Bool.eq_iff_iff, holds_applyNow, taken_events]
      simp only [Bool.or_eq_true, decide_eq_true_iff, or_assoc]
      rfl
    · rw [replyDuring_get_ne _ _ .ok _ hk, (hgrew k).1, taken_get_ne .unicast hk]
    · rw [replyDuring, replyWith_mask, (hgrew l).1]
      exact taken_mask l l .unicast
    · rw [htiming, settled_inputs, applied_inputs, hrateChanges]
      rfl

end Sys2Proof.Machine
end

section
/-!
PROOFS. The replies owed by an event (R36, R88, R92), the reaching of STOPPED (R6, R31, R92) and STOP (R5).
-/

namespace Sys2Proof.Machine

/-! ### The replies owed by an event (log 14) -/

/-- A reply to link `k` formed in `u` answers what was asked in `s`: the straps and the OVR mark stand. -/
def Answerable (k : Link) (s u : State) : Prop := u.pins = s.pins ∧ (u.links.get k).ovr = (s.links.get k).ovr

section Answerable

variable {k l : Link} {s u v t begun : State} {st : Status} {data : List Byte} {o : Option Link}

theorem Grew.onlyEvents (h : Grew s u) : OnlyEvents s u := fun l => (h l).1

theorem OnlyEvents.answerable (h : OnlyEvents s u) (hpins : u.pins = s.pins) (k : Link) : Answerable k s u :=
  ⟨hpins, by rw [h k]⟩

theorem Answerable.of_link (h : Answerable k s u) (hpins : v.pins = u.pins) (hlink : v.links.get k = u.links.get k) :
    Answerable k s v := by
  obtain ⟨hp, hovr⟩ := h
  exact ⟨hpins.trans hp, by rw [hlink, hovr]⟩

theorem Answerable.answered (h : Answerable k s u) (hbegun : (begun.links.get k).attention = (s.links.get k).attention) :
    Answered k st data s (replyDuring begun k st data u) := by
  obtain ⟨hpins, hovr⟩ := h
  exact replyDuring_answered st data (by rw [State.unitCode, State.unitCode, hpins]) hovr hbegun

theorem Answered.of_link (h : Answered k st data s u) (hlink : t.links.get k = u.links.get k) :
    Answered k st data s t := by
  unfold Answered at h ⊢
  rwa [hlink]

theorem answerOwed_get_ne (h : o ≠ some k) (begun : State) (st : Status) (s : State) :
    (answerOwed begun o st s).links.get k = s.links.get k := by
  cases o with
  | none => rfl
  | some j => exact replyDuring_get_ne s begun st [] fun hk => h (by rw [hk])

theorem answerOwed_events (begun : State) (o : Option Link) (st : Status) (s : State) (k : Link) :
    ((answerOwed begun o st s).links.get k).events = (s.links.get k).events := by
  cases o with
  | none => rfl
  | some l => exact replyDuring_events begun st [] k

/-- The committer's reply, if one is owed (R36). -/
def answerCommit (begun : State) (o : Option Link) (data : List Byte) (s : State) : State :=
  match o with
  | some l => replyDuring begun l .ok data s
  | none => s

theorem answerCommit_get_ne (h : o ≠ some k) (begun : State) (data : List Byte) (s : State) :
    (answerCommit begun o data s).links.get k = s.links.get k := by
  cases o with
  | none => rfl
  | some j => exact replyDuring_get_ne s begun .ok data fun hk => h (by rw [hk])

theorem answerCommit_events (begun : State) (o : Option Link) (data : List Byte) (s : State) (k : Link) :
    ((answerCommit begun o data s).links.get k).events = (s.links.get k).events := by
  cases o with
  | none => rfl
  | some l => exact replyDuring_events begun .ok data k

/-- An event that answers the committer and then the sender of a timecode set answers the committer (R36). -/
theorem answered_commit {c : State → State} (hc : ∀ v, (c v).links = v.links) (h : Answerable k s u)
    (hbegun : (begun.links.get k).attention = (s.links.get k).attention) (ho : o ≠ some k) :
    Answered k .ok data s (answerOwed begun o .ok (c (answerCommit begun (some k) data u))) :=
  (h.answered hbegun).of_link (by rw [answerOwed_get_ne ho, hc]; rfl)

/-- And it answers the sender of the set (R88, R92). -/
theorem answered_timecode {c : State → State} (hc : ∀ v, (c v).links = v.links ∧ (c v).pins = v.pins)
    (h : Answerable k s u) (hbegun : (begun.links.get k).attention = (s.links.get k).attention) {o' : Option Link}
    (ho' : o' ≠ some k) :
    Answered k .ok [] s (answerOwed begun (some k) .ok (c (answerCommit begun o' data u))) := by
  refine Answerable.answered (h.of_link ?_ ?_) hbegun
  · rw [(hc _).2]
    cases o' <;> rfl
  · rw [(hc _).1, answerCommit_get_ne ho']

end Answerable

/-! ### STOPPED is reached (R6) -/

section ReachStopped

variable (s : State)

theorem enterStopped_frame :
    enterStopped s = { s with timing := (enterStopped s).timing, links := (enterStopped s).links } := by
  apply State.eq_of_fields <;> simp [enterStopped, recomputeRef]

theorem enterStopped_timing : (enterStopped s).timing = s.timing.stopped s.plan.active.refMode := by
  simp [enterStopped, recomputeRef, setRef_timing, refValue_eq, Timing.stopped]

theorem grew_enterStopped : Grew s (enterStopped s) := (posts_enterStopped s).1

theorem holds_enterStopped (l : Link) : holds ((enterStopped s).links.get l).events .timingStopped = true := by
  rw [enterStopped, recomputeRef, holds_setRef, holds_postAll]
  exact .inl (.inr rfl)

/-- The state at STOPPED with a waiting commit applied, but for the replies (R31, R35). -/
def settledStopped (s : State) : State :=
  if s.plan.stage = .committing then applyNow (enterStopped s) else enterStopped s

theorem grew_settledStopped : Grew s (settledStopped s) := by
  unfold settledStopped
  split
  · exact (grew_enterStopped s).trans (grew_applyNow _)
  · exact grew_enterStopped s

theorem settledStopped_pins : (settledStopped s).pins = s.pins := by
  unfold settledStopped
  split
  · rw [applyNow_frame, enterStopped_frame]
  · rw [enterStopped_frame]

/-- The reaching of STOPPED and its replies, the committer's first (R36, R92). -/
theorem reachStopped_eq (begun : State) :
    reachStopped begun s =
      answerOwed begun s.tc.owed .ok
        { answerCommit begun s.plan.committer (commitReport s) (settledStopped s) with tc := s.tc.applyWaiting } := by
  have htc (u : State) (htc : u.tc = s.tc) :
      applyPendingTimecode begun u = answerOwed begun s.tc.owed .ok { u with tc := s.tc.applyWaiting } := by
    rw [applyPendingTimecode, htc]
  have hsplit : reachStopped begun s =
      applyPendingTimecode begun
        (if s.plan.stage = .committing then applyWhileStopped begun s.plan.committer (enterStopped s)
          else enterStopped s) := rfl
  have hentered : (enterStopped s).tc = s.tc := by rw [enterStopped_frame]
  rw [hsplit, settledStopped]
  by_cases hstage : s.plan.stage = .committing
  · simp only [if_pos hstage]
    rw [htc _ (by simpa using hentered)]
    cases hcommitter : s.plan.committer with
    | none => rfl
    | some l =>
      have hreport : commitReport (enterStopped s) = commitReport s := by
        rw [commitReport, enterStopped_timing, enterStopped_frame]
        simp [commitReport, Timing.stopped, Timing.ended]
      rw [applyWhileStopped_eq, answerCommitter_applyNow, hreport, answerCommit]
  · simp only [if_neg hstage]
    rw [htc _ hentered, PlanUnit.committer_of_not_committing hstage]
    rfl

theorem holds_reachStopped (begun : State) (l : Link) (k : EventKind) :
    holds ((reachStopped begun s).links.get l).events k = holds ((settledStopped s).links.get l).events k := by
  rw [reachStopped_eq, answerOwed_events]
  exact congrArg (fun e => holds e k) (answerCommit_events begun _ _ _ l)

end ReachStopped

theorem timing_eq_of_fields {t v : Timing} (htimebase : t.timebase = v.timebase) (hrun : t.run = v.run)
    (hnext : t.next = v.next) (hacc : t.acc = v.acc) (hramp : t.ramp = v.ramp) (href : t.refState = v.refState)
    (hlock : t.lockHeld = v.lockHeld) (hinputs : t.inputs = v.inputs) (hrephase : t.rephase = v.rephase)
    (hpair : t.pairNumber = v.pairNumber) (hframe : t.frame = v.frame) (hstart : t.runStart = v.runStart) : t = v := by
  cases t
  cases v
  simp_all

section Stopped

variable {m : RefMode} {t : Timing} {u : PlanUnit}

theorem stopped_frame_timing :
    t.stopped m =
      { t with
        run := .stopped, next := none, ramp := none, lockHeld := false, rephase := none, frame := none
        runStart := none, refState := (t.stopped m).refState } := by
  have hlock : (t.stopped m).lockHeld = false := toRef_lockHeld_of_stopped (t := t.ended) rfl
  have hrephase : (t.stopped m).rephase = none := toRef_rephase_of_stopped (t := t.ended) rfl rfl
  have h := toRef_frame (t.ended.formedRef m) t.ended
  rw [show t.ended.toRef (t.ended.formedRef m) = t.stopped m from rfl, hlock, hrephase] at h
  rw [h]
  rfl

/-- An application at STOPPED: the generator restarts with a change of rate, and nothing of a run stands (R40, R42). -/
theorem settled_stopped_timing :
    (((t.stopped m).applied u false).settled u) =
      { t with
        run := .stopped, next := none, ramp := none, lockHeld := false, rephase := none, frame := none
        runStart := none, acc := if rateChanges u then 0 else t.acc
        refState := (((t.stopped m).applied u false).settled u).refState
        inputs := ((t.stopped m).applied u false).inputs } := by
  have hrun : (t.stopped m).run = .stopped := by rw [stopped_frame_timing]
  have hgenerator : (t.stopped m).restartGenerator u false =
      { t.stopped m with acc := if rateChanges u then 0 else t.acc } := by
    rw [restartGenerator_away, stopped_frame_timing]
    cases rateChanges u <;> simp
  have hlock : ((t.stopped m).applied u false).lockHeld = false := by
    rw [Timing.applied, stopped_frame_timing]
    rfl
  apply timing_eq_of_fields
  case hlock => rw [settled_lockHeld_of_stopped (by rw [applied_run, hrun]), hlock]
  case hrephase =>
    exact settled_rephase_of_stopped (by rw [applied_run, hrun]) (by rw [applied_rephase, stopped_frame_timing])
  case hacc => rw [settled_acc, applied_acc, hgenerator]
  case hramp => rw [settled_ramp, applied_ramp, hgenerator, stopped_frame_timing]
  case hinputs => rw [settled_inputs]
  case href => rfl
  case htimebase => rw [settled_timebase, applied_timebase, stopped_frame_timing]
  case hrun => rw [settled_run, applied_run, hrun]
  case hnext => rw [settled_next, applied_next, stopped_frame_timing]
  case hpair => rw [settled_pairNumber, applied_pairNumber, stopped_frame_timing]
  case hframe => rw [settled_currentFrame, applied_currentFrame, stopped_frame_timing]
  case hstart => rw [settled_runStart, applied_runStart, stopped_frame_timing]

end Stopped

theorem rateChanges_of_waits {s : State} (hstage : s.plan.stage = .committing) :
    RateCommitWaits s ↔ rateChanges s.plan = true := by
  rw [rateChanges_eq_true, RateCommitWaits, and_iff_right hstage]

/-- What the reaching of STOPPED does (R6, R12, R31, R35 to R37, R40, R92), in a state whose pending sets may have moved
since the event began. -/
theorem stoppedReached_reachStopped {s u begun : State} (hevents : OnlyEvents s u) (hframe : u = { s with links := u.links })
    (hbegun : ∀ l, (begun.links.get l).attention = (s.links.get l).attention) :
    StoppedReached s (reachStopped begun u) := by
  have htiming : u.timing = s.timing := by rw [hframe]
  have hplan : u.plan = s.plan := by rw [hframe]
  have htc : u.tc = s.tc := by rw [hframe]
  have hpins : u.pins = s.pins := by rw [hframe]
  have hanswerable (k : Link) : Answerable k s (settledStopped u) :=
    (hevents.trans (grew_settledStopped u).onlyEvents).answerable ((settledStopped_pins u).trans hpins) k
  have heq := reachStopped_eq u begun
  rw [hplan, htc] at heq
  have hreport : commitReport u = commitReport s := by rw [commitReport, hplan, htiming]; rfl
  refine ⟨?_, fun hrate => ?_, fun hrate => ?_, .reachStopped begun, fun k => ?_, fun hstage => ?_, fun hstage =>
    ⟨?_, fun k => ?_, fun k heditor _ howed => ?_⟩, fun hnone => ?_, fun w hw => ⟨?_, fun k howed _ hcommitter => ?_⟩, ?_⟩
  · by_cases hstage : s.plan.stage = .committing
    · rw [reachStopped_timing_of_waiting u begun (by rw [hplan, hstage]), settled_stopped_timing, htiming]
    · rw [reachStopped_timing_of_none u begun (by rwa [hplan]), stopped_frame_timing, htiming]
  · obtain ⟨hstage, -⟩ := id hrate
    have hchanges := (rateChanges_of_waits hstage).1 hrate
    rw [reachStopped_timing_of_waiting u begun (by rw [hplan, hstage]), hplan, htiming]
    refine ⟨?_, fun r => ?_⟩
    · rw [settled_stopped_timing, if_pos hchanges]
    · rw [settled_inputs, applied_inputs, if_pos hchanges, stopped_frame_timing]
      rfl
  · by_cases hstage : s.plan.stage = .committing
    · have hsame : rateChanges s.plan = false := by
        simpa using mt (rateChanges_of_waits hstage).2 hrate
      rw [reachStopped_timing_of_waiting u begun (by rw [hplan, hstage]), hplan, htiming]
      refine ⟨?_, ?_⟩
      · rw [settled_stopped_timing, hsame]
        rfl
      · rw [settled_inputs, applied_inputs_of_same_rate _ hsame, stopped_frame_timing]
    · rw [reachStopped_timing_of_none u begun (by rwa [hplan]), htiming, stopped_frame_timing]
      exact ⟨rfl, rfl⟩
  · rw [holds_reachStopped, settledStopped]
    split
    · exact (holds_applyNow (enterStopped u)).2 (.inl (holds_enterStopped u k))
    · exact holds_enterStopped u k
  · rw [reachStopped_plan_of_none u begun (by rwa [hplan]), hplan]
  · rw [reachStopped_plan_of_waiting u begun (by rw [hplan, hstage]), hplan]
    rfl
  · rw [holds_reachStopped, settledStopped, if_pos (by rw [hplan, hstage])]
    exact (holds_applyNow (enterStopped u)).2 (.inr (.inl rfl))
  · have hcommitter : s.plan.committer = some k := by rw [PlanUnit.committer, if_pos hstage, heditor]
    rw [heq, hcommitter, hreport]
    exact answered_commit (c := fun v => { v with tc := s.tc.applyWaiting }) (fun _ => rfl) (hanswerable k) (hbegun k)
      howed
  · rw [reachStopped_tc, htc, TimecodeCounter.applyWaiting, hnone]
  · rw [reachStopped_tc, htc, TimecodeCounter.applyWaiting, hw]
  · have hsender : s.tc.owed = some k := by
      rw [TimecodeCounter.owed, hw]
      exact howed
    rw [heq, hsender]
    exact answered_timecode (c := fun v => { v with tc := s.tc.applyWaiting }) (fun _ => ⟨rfl, rfl⟩) (hanswerable k)
      (hbegun k) hcommitter
  · have h := reachStopped_frame u begun
    generalize reachStopped begun u = t at h ⊢
    refine h.trans ?_
    rw [hframe]

/-! ### STOP (R5) -/

section StoppedReached

variable {s t : State} {l : Link}

/-- A link that was not busy may have a reply formed after the reaching of STOPPED. -/
theorem StoppedReached.answerDuring (h : StoppedReached s t) (hidle : (s.links.get l).busy = false) (begun : State)
    (cast : Addressing) (st : Status) (data : List Byte) :
    StoppedReached s (answerDuring begun l cast st data t) := by
  cases cast with
  | broadcast => exact h
  | unicast =>
    have hlink {k : Link} (hbusy : (s.links.get k).busy = true) :
        ((replyDuring begun l st data t).links.get k) = t.links.get k :=
      replyDuring_get_ne t begun st data fun hk => by rw [hk, hidle] at hbusy; cases hbusy
    obtain ⟨htiming, hrate, hsame, href, hstopped, hplan, hcommit, htc, htimecode, hframe⟩ := h
    refine ⟨htiming, hrate, hsame, href, fun k => ?_, hplan, fun hstage => ?_, htc, fun w hw => ?_, ?_⟩
    · exact (congrArg (holds · .timingStopped) (replyDuring_events begun st data k)).trans (hstopped k)
    · obtain ⟨happlied, hposted, hanswered⟩ := hcommit hstage
      exact ⟨happlied, fun k => (congrArg (holds · .planApplied) (replyDuring_events begun st data k)).trans (hposted k),
        fun k heditor hbusy howed => (hanswered k heditor hbusy howed).of_link (hlink hbusy)⟩
    · obtain ⟨hset, hanswered⟩ := htimecode w hw
      exact ⟨hset, fun k howed hbusy hcommitter => (hanswered k howed hbusy hcommitter).of_link (hlink hbusy)⟩
    · exact congrArg (fun v : State => { v with links := (replyDuring begun l st data t).links }) hframe

/-- The reaching of STOPPED sets the run state and ends the re-phase, whatever they were, and a link that was not busy
may have been taken before. -/
theorem StoppedReached.of_draining {cast : Addressing}
    (h : StoppedReached
      { s.taken l cast with timing := { s.timing with run := .draining, rephase := none } } t)
    (hidle : (s.links.get l).busy = false) : StoppedReached s t := by
  have hlink {k : Link} (hbusy : (s.links.get k).busy = true) : (s.taken l cast).links.get k = s.links.get k :=
    taken_get_ne cast fun hk => by rw [hk, hidle] at hbusy; cases hbusy
  obtain ⟨htiming, hrate, hsame, href, hstopped, hplan, hcommit, htc, htimecode, hframe⟩ := h
  refine ⟨htiming, hrate, hsame, href, hstopped, hplan, fun hstage => ?_, htc, fun w hw => ?_, ?_⟩
  · obtain ⟨happlied, hposted, hanswered⟩ := hcommit hstage
    refine ⟨happlied, hposted, fun k heditor hbusy howed => ?_⟩
    have hk := hanswered k heditor (show ((s.taken l cast).links.get k).busy = true by rw [hlink hbusy, hbusy]) howed
    unfold Answered at hk ⊢
    rw [← hlink hbusy]
    exact hk
  · obtain ⟨hset, hanswered⟩ := htimecode w hw
    refine ⟨hset, fun k howed hbusy hcommitter => ?_⟩
    have hk := hanswered k howed (show ((s.taken l cast).links.get k).busy = true by rw [hlink hbusy, hbusy]) hcommitter
    unfold Answered at hk ⊢
    rw [← hlink hbusy]
    exact hk
  · exact hframe

end StoppedReached

end Sys2Proof.Machine
end

section
/-!
PROOFS. STOP and the end of a drain (R5, R6, R17, R31, R36, R92).
-/

namespace Sys2Proof.Machine

section Answers

variable {l : Link} {cast : Addressing} {s u v : State} {st : Status} {data : List Byte}

/-- A command answered in an event that only posted to its link, and gave replies to other links alone. -/
theorem acknowledged_answerDuring (hpins : u.pins = s.pins) (hlink : u.links.get l = v.links.get l)
    (hevents : OnlyEvents (s.taken l cast) v) : Acknowledged l cast st data s (answerDuring (s.taken l cast) l cast st data u) := by
  cases cast with
  | unicast =>
    refine Answerable.answered ⟨hpins, ?_⟩ (taken_attention l l .unicast)
    rw [hlink, hevents l]
    exact taken_ovr l .unicast
  | broadcast =>
    simp only [Acknowledged, answerDuring]
    rw [hlink, hevents l]
    simp [State.taken]

theorem otherLinks_answerDuring (h : OtherLinks l s u) (begun : State) :
    OtherLinks l s (answerDuring begun l cast st data u) := by
  intro k hk
  cases cast with
  | unicast => exact (replyDuring_get_ne u begun st data hk).trans (h k hk)
  | broadcast => exact h k hk

theorem sameEvents_answerDuring (h : SameEvents l s u) (begun : State) :
    SameEvents l s (answerDuring begun l cast st data u) := by
  cases cast with
  | unicast =>
    refine ⟨(replyDuring_events begun st data l).trans h.1, ?_⟩
    rw [answerDuring, replyDuring, replyWith_mask, h.2]
  | broadcast => exact h

theorem holds_answerDuring (begun : State) (k : Link) (kind : EventKind) :
    holds ((answerDuring begun l cast st data u).links.get k).events kind = holds (u.links.get k).events kind := by
  cases cast with
  | unicast => exact congrArg (holds · kind) (replyDuring_events begun st data k)
  | broadcast => rfl

end Answers

/-- A link that is not busy is owed no reply (R154, R171). -/
theorem ReplyInv.owed_ne {s : State} (h : ReplyInv s) {l : Link} (hidle : (s.links.get l).busy = false) :
    s.plan.committer ≠ some l ∧ s.tc.owed ≠ some l := by
  have howed := h.1 l
  have hstate : (s.links.get l).state ≠ .executing := fun hstate => by simp [LinkState.busy, hstate] at hidle
  rw [if_neg hstate, owedReplies_eq] at howed
  refine ⟨fun hcommitter => ?_, fun htimecode => ?_⟩
  · simp [hcommitter, owedBy] at howed
  · simp [htimecode, owedBy] at howed

/-- The reaching of STOPPED answers the links that are owed a reply, and no other. -/
theorem reachStopped_link {s begun : State} {l : Link} (hcommitter : s.plan.committer ≠ some l)
    (howed : s.tc.owed ≠ some l) : (reachStopped begun s).links.get l = (settledStopped s).links.get l := by
  rw [reachStopped_eq, answerOwed_get_ne howed]
  exact answerCommit_get_ne hcommitter _ _ _

theorem drained_iff_empty {s : State} :
    drained s = true ↔ s.timing.run = .draining ∧ s.matcher.slots = [] ∧ s.matcher.queue = [] := by
  simp [drained, and_assoc]

/-- The reaching of STOPPED with nothing waiting: the run goes, and the state is the one of STOPPED (R6, R12). -/
theorem reachStopped_of_nothing_waiting {s begun : State} (hstage : s.plan.stage ≠ .committing)
    (htc : s.tc.waiting = none) : reachStopped begun s = enterStopped s := by
  have happly : s.tc.applyWaiting = s.tc := by rw [TimecodeCounter.applyWaiting, htc]
  have howed : s.tc.owed = none := by rw [TimecodeCounter.owed, htc]
  rw [reachStopped_eq, howed, happly, PlanUnit.committer_of_not_committing hstage, settledStopped, if_neg hstage]
  change { enterStopped s with tc := s.tc } = enterStopped s
  conv_rhs => rw [enterStopped_frame]
  conv_lhs => rw [enterStopped_frame]

theorem enterStopped_eq (s : State) :
    enterStopped s =
      { s with
        timing :=
          { s.timing with
            run := .stopped, next := none, ramp := none, lockHeld := false, rephase := none, frame := none
            runStart := none, refState := (enterStopped s).timing.refState }
        links := (enterStopped s).links } := by
  have htiming : (enterStopped s).timing = { s.timing with
      run := .stopped, next := none, ramp := none, lockHeld := false, rephase := none, frame := none
      runStart := none, refState := (enterStopped s).timing.refState } := by
    rw [enterStopped_timing]
    exact stopped_frame_timing
  rw [← htiming]
  exact enterStopped_frame s

/-- The state of a STOP just taken: the run drains and a re-phase ends (R5, R17). -/
def State.draining (s : State) : State := { s with timing := { s.timing with run := .draining, rephase := none } }

section Stop

variable {l : Link} {cast : Addressing} {s : State}

theorem takeStop_of_not_running (h : s.timing.run ≠ .running) : takeStop l cast s = answer l cast .state [] s := if_neg h

theorem takeStop_of_running (h : s.timing.run = .running) :
    takeStop l cast s = answerDuring s l cast .ok [] (stopIfDrained s s.draining) := if_pos h

theorem stopIfDrained_of_drained {begun : State} (hrun : s.timing.run = .draining) (hslots : s.matcher.slots = [])
    (hqueue : s.matcher.queue = []) : stopIfDrained begun s = reachStopped begun s :=
  if_pos (drained_iff_empty.2 ⟨hrun, hslots, hqueue⟩)

theorem stopIfDrained_of_busy {begun : State} (h : s.matcher.slots ≠ [] ∨ s.matcher.queue ≠ []) :
    stopIfDrained begun s = s := by
  refine if_neg fun hdrained => ?_
  obtain ⟨-, hslots, hqueue⟩ := drained_iff_empty.1 hdrained
  exact h.elim (fun hne => hne hslots) fun hne => hne hqueue

end Stop

theorem exec_reachStopped {s : State} (hpins : s.pins.resetAsserted = false) (hrun : s.timing.run = .draining)
    (hslots : s.matcher.slots = []) (hqueue : s.matcher.queue = []) :
    exec .reachStopped s = .next (reachStopped s s) := by
  rw [← stopIfDrained_of_drained (begun := s) hrun hslots hqueue]
  exact live_of_released hpins fun s => stopIfDrained s s

/-- Settles O24: STOP leaves the run draining, and a part that has drained reaches STOPPED. -/
theorem stopDrainsAndReachesStopped : Obligations.StopDrainsAndReachesStopped := by
  refine ⟨fun l cast s hready => ⟨takeStop l cast (s.taken l cast), handOver_ready hready cast _, fun hrun => ?_,
    fun hrun hbusy => ?_, fun hrun hslots hqueue hstage htc => ?_, fun hrun hslots hqueue hinv => ?_⟩,
    fun s hpins hrun hslots hqueue => ⟨_, exec_reachStopped hpins hrun hslots hqueue,
      stoppedReached_reachStopped (onlyEvents_of_links rfl) rfl fun _ => rfl⟩,
    fun s hpins hrun hslots hqueue hstage htc => ⟨_, exec_reachStopped hpins hrun hslots hqueue, ?_⟩⟩
  · rw [takeStop_of_not_running (s := s.taken l cast) hrun]
    exact refused_answer l cast .state s
  · rw [takeStop_of_running (s := s.taken l cast) hrun, stopIfDrained_of_busy (s := (s.taken l cast).draining) hbusy]
    have hack : Acknowledged l cast .ok [] s (answerDuring (s.taken l cast) l cast .ok [] (s.taken l cast).draining) :=
      acknowledged_answerDuring (u := (s.taken l cast).draining) (v := s.taken l cast) rfl rfl
        (onlyEvents_of_links rfl)
    have hsame : SameEvents l s (answerDuring (s.taken l cast) l cast .ok [] (s.taken l cast).draining) :=
      sameEvents_answerDuring (u := (s.taken l cast).draining) ⟨taken_events l l cast, taken_mask l l cast⟩ _
    have hother : OtherLinks l s (answerDuring (s.taken l cast) l cast .ok [] (s.taken l cast).draining) :=
      otherLinks_answerDuring (u := (s.taken l cast).draining) (fun k hk => taken_get_ne cast hk) _
    have hframe := answerDuring_frame (s.taken l cast) (s.taken l cast).draining l cast .ok []
    exact ⟨hack, hsame, hother, hframe⟩
  · have heq : stopIfDrained (s.taken l cast) (s.taken l cast).draining = enterStopped (s.taken l cast).draining :=
      (stopIfDrained_of_drained (s := (s.taken l cast).draining) rfl hslots hqueue).trans
        (reachStopped_of_nothing_waiting (s := (s.taken l cast).draining) hstage htc)
    have hgrew : Grew (s.taken l cast) (enterStopped (s.taken l cast).draining) :=
      grew_enterStopped (s.taken l cast).draining
    have hrefs : ReferenceInv (enterStopped (s.taken l cast).draining) := by
      rw [← reachStopped_of_nothing_waiting (s := (s.taken l cast).draining) (begun := s) hstage htc]
      exact .reachStopped s
    rw [takeStop_of_running (s := s.taken l cast) hrun, heq]
    refine ⟨acknowledged_answerDuring (by rw [enterStopped_frame]; rfl) rfl hgrew.onlyEvents, fun k => ?_, ?_, ?_⟩
    · rw [holds_answerDuring]
      exact holds_enterStopped _ k
    · rw [answerDuring_frame]
      exact hrefs
    · rw [answerDuring_frame, enterStopped_eq]
      rfl
  · obtain ⟨-, hidle⟩ := hready
    obtain ⟨hcommitter, howed⟩ := hinv.owed_ne hidle
    have hreached : StoppedReached (s.taken l cast).draining (reachStopped (s.taken l cast) (s.taken l cast).draining) :=
      stoppedReached_reachStopped (onlyEvents_of_links rfl) rfl fun _ => rfl
    have hlink : (reachStopped (s.taken l cast) (s.taken l cast).draining).links.get l =
        (settledStopped (s.taken l cast).draining).links.get l :=
      reachStopped_link (s := (s.taken l cast).draining) hcommitter howed
    rw [takeStop_of_running (s := s.taken l cast) hrun,
      stopIfDrained_of_drained (s := (s.taken l cast).draining) rfl hslots hqueue]
    refine ⟨acknowledged_answerDuring ?_ hlink
      (grew_settledStopped (s.taken l cast).draining).onlyEvents, ?_⟩
    · rw [reachStopped_frame]
      rfl
    · exact (StoppedReached.of_draining hreached hidle).answerDuring hidle _ cast .ok []
  · rw [reachStopped_of_nothing_waiting hstage htc]
    refine ⟨holds_enterStopped s, ?_, (grew_enterStopped s).onlyEvents, enterStopped_eq s⟩
    rw [← reachStopped_of_nothing_waiting (begun := s) hstage htc]
    exact .reachStopped s

end Sys2Proof.Machine
end

section
/-!
PROOFS. The end of a record write (R6, R81, R97, R98, R107).
-/

namespace Sys2Proof.Machine

/-! ### An append (R97, R98) -/

/-- The append drops the record that a reader's cursor points at (R98). -/
def PairLog.overtakes (g : PairLog) (l : Link) : Bool :=
  decide (64 ≤ g.count) && (g.readers.get l).losesAt g.oldest

section Append

variable (g : PairLog) (l : Link)

theorem overtakes_iff :
    g.overtakes l = true ↔
      64 ≤ g.count ∧ (g.readers.get l).attached = true ∧
        (g.readers.get l).cursor = g.next - BitVec.ofNat 32 g.count := by
  simp [PairLog.overtakes, Reader.losesAt, PairLog.oldest]

theorem appended_next : g.appended.next = g.next + 1 := by
  unfold PairLog.appended
  dsimp only
  split <;> rfl

theorem appended_count : g.appended.count = if 64 ≤ g.count then g.count else g.count + 1 := by
  unfold PairLog.appended PairLog.dropped
  split
  · dsimp only
    omega
  · rfl

theorem appended_reader :
    g.appended.readers.get l = if g.overtakes l = true then (g.readers.get l).moved else g.readers.get l := by
  unfold PairLog.appended PairLog.dropped PairLog.overtakes
  by_cases hfull : 64 ≤ g.count <;> simp [hfull]

/-- The cursor of a reader moves when the append overtakes it, and then alone (R98). -/
theorem appended_cursor_ne_iff :
    (g.appended.readers.get l).cursor ≠ (g.readers.get l).cursor ↔ g.overtakes l = true := by
  rw [appended_reader]
  split
  · next h =>
    refine ⟨fun _ => h, fun _ hsame => ?_⟩
    have hmoved : (g.readers.get l).cursor + 1 = (g.readers.get l).cursor := hsame
    bv_omega
  · next h => exact ⟨fun hne => absurd rfl hne, fun hover => absurd hover h⟩

/-- After an append an attached reader has records unread unless its cursor is the next LSN (R107). -/
theorem appended_ready :
    g.appended.ready l =
      ((g.readers.get l).attached && decide ((g.appended.readers.get l).cursor ≠ g.next + 1)) := by
  have hunread : ∀ a b : BitVec 32, 0 < (a - b).toNat ↔ b ≠ a := fun a b => by bv_omega
  rw [PairLog.ready, appended_attached, PairLog.unread, appended_next]
  simp only [hunread]

end Append

section AppendRecord

variable (s : State) (l : Link)

/-- An append moves the pending sets alone of the links (R97, R98, R107). -/
theorem appendRecord_link :
    (appendRecord s).links.get l =
      { s.links.get l with
        events :=
          showReady (s.log.appended.ready l)
            (if s.log.overtakes l = true then (s.links.get l).events ||| EventKind.logGap.mask
              else (s.links.get l).events) } := by
  have hshown (u : State) (g : PairLog) :
      (reformReadyAll { u with log := g }).links.get l =
        { u.links.get l with events := showReady (g.ready l) (u.links.get l).events } :=
    onLinks_get _ _ l
  by_cases hfull : 64 ≤ s.log.count
  · have happend : appendRecord s = reformReadyAll { dropOldest s with log := s.log.appended } := by
      simp only [appendRecord, PairLog.appended, if_pos hfull]
      rfl
    rw [happend, hshown]
    simp only [dropOldest, onLinks_get, PairLog.overtakes, hfull, decide_true, Bool.true_and]
    split <;> rfl
  · have happend : appendRecord s = reformReadyAll { s with log := s.log.appended } := by
      simp only [appendRecord, PairLog.appended, if_neg hfull]
    rw [happend, hshown]
    simp [PairLog.overtakes, hfull]

theorem onlyEvents_appendRecord : OnlyEvents s (appendRecord s) := fun l => by rw [appendRecord_link]

theorem holds_appendRecord (k : EventKind) :
    holds ((appendRecord s).links.get l).events k =
      match k with
      | .logReady => s.log.appended.ready l
      | .logGap => holds (s.links.get l).events .logGap || s.log.overtakes l
      | _ => holds (s.links.get l).events k := by
  rw [appendRecord_link]
  dsimp only
  rw [holds_showReady_eq]
  by_cases hover : s.log.overtakes l = true
  · rw [if_pos hover, hover]
    have hmask (j : EventKind) : holds ((s.links.get l).events ||| EventKind.logGap.mask) j =
        (holds (s.links.get l).events j || decide (j = .logGap)) := by
      rw [Bool.eq_iff_iff, holds_or_mask]
      simp
    cases k <;> simp [hmask]
  · rw [if_neg hover, Bool.not_eq_true _ |>.mp hover]
    cases k <;> simp

end AppendRecord

/-- The state after a record write: the head of the queue has left it and the memory is FREE (R81, R97). -/
def State.recordWritten (s : State) (rest : List PairRecord) : State :=
  { s with matcher := { s.matcher with queue := rest }, memory := { s.memory with port := none } }

section RecordWritten

variable {s : State} {r : PairRecord} {rest : List PairRecord} {n : Nat} {got : List MemWord}

theorem endBurst_record (hqueue : s.matcher.queue = r :: rest) :
    endBurst ⟨.record, n, 0, got⟩ s =
      stopIfDrained { s with memory := { s.memory with port := none } } (appendRecord (s.recordWritten rest)) := by
  change endRecord { s with memory := { s.memory with port := none } } = _
  rw [endRecord]
  dsimp only
  rw [hqueue]
  rfl

theorem stopIfDrained_blocks (begun s : State) :
    (stopIfDrained begun s).memory = s.memory ∧ (stopIfDrained begun s).matcher = s.matcher ∧
      (stopIfDrained begun s).log = s.log := by
  unfold stopIfDrained
  split
  · rw [reachStopped_frame]
    exact ⟨rfl, rfl, rfl⟩
  · exact ⟨rfl, rfl, rfl⟩

end RecordWritten

/-- Settles O44: the append moves the log, its readers and their events, and the last record of a drain reaches
STOPPED. -/
theorem recordWriteAppendsAndDropsTheOldest : Obligations.RecordWriteAppendsAndDropsTheOldest := by
  intro s r rest n got hpins hport hqueue
  refine ⟨_, (exec_burstEnd hpins hport).trans (congrArg Host.Outcome.next (endBurst_record hqueue)), ?_⟩
  obtain ⟨hmemory, hmatcher, hlog⟩ :=
    stopIfDrained_blocks { s with memory := { s.memory with port := none } } (appendRecord (s.recordWritten rest))
  have happended : (appendRecord (s.recordWritten rest)).log = s.log.appended := appendRecord_log _
  have hframe : appendRecord (s.recordWritten rest) =
      { s.recordWritten rest with
        log := s.log.appended, links := (appendRecord (s.recordWritten rest)).links } := by
    rw [← happended]
    exact appendRecord_frame _
  have hmatcher' : (appendRecord (s.recordWritten rest)).matcher = { s.matcher with queue := rest } := by
    rw [hframe]
    rfl
  have hmemory' : (appendRecord (s.recordWritten rest)).memory = { s.memory with port := none } := by
    rw [hframe]
    rfl
  rw [hmemory, hmatcher, hlog, happended, hmemory', hmatcher']
  refine ⟨rfl, rfl, appended_next _, appended_count _, fun l => ?_, fun hnot => ?_,
    fun hrun hslots hrest => ?_⟩
  · rw [appended_reader]
    exact if_congr (overtakes_iff s.log l) rfl rfl
  · have hsame : stopIfDrained { s with memory := { s.memory with port := none } } (appendRecord (s.recordWritten rest)) =
        appendRecord (s.recordWritten rest) := by
      refine if_neg fun hdrained => hnot ?_
      rw [drained_iff_empty, hframe] at hdrained
      exact hdrained
    rw [hsame]
    refine ⟨fun l k => ?_, onlyEvents_appendRecord (s.recordWritten rest), hframe⟩
    rw [holds_appendRecord]
    cases k with
    | logReady => exact appended_ready s.log l
    | logGap =>
      refine congrArg (holds (s.links.get l).events .logGap || ·) ?_
      rw [Bool.eq_iff_iff, decide_eq_true_iff, appended_cursor_ne_iff]
      rfl
    | _ => rfl
  · have hstopped : stopIfDrained { s with memory := { s.memory with port := none } }
          (appendRecord (s.recordWritten rest)) =
        reachStopped { s with memory := { s.memory with port := none } } (appendRecord (s.recordWritten rest)) := by
      refine stopIfDrained_of_drained ?_ ?_ ?_ <;> rw [hframe]
      · exact hrun
      · exact hslots
      · exact hrest
    have hreached : StoppedReached { s.recordWritten rest with log := s.log.appended }
        (reachStopped { s with memory := { s.memory with port := none } } (appendRecord (s.recordWritten rest))) :=
      stoppedReached_reachStopped (onlyEvents_appendRecord (s.recordWritten rest)) hframe fun _ => rfl
    rw [hstopped]
    obtain ⟨htiming, -, -, -, hposted, -⟩ := id hreached
    exact ⟨by rw [htiming], hposted, fun _ => hreached⟩

end Sys2Proof.Machine
end

section
/-!
PROOFS. The decision of a trigger (R51, R58, R66, R71, R72) and the deadline of a slot (R73).
-/

namespace Sys2Proof.Machine

/-- The effect of an event's row with RESET# released. -/
theorem exec_event {i : Instr} {s : State} (hpins : s.pins.resetAsserted = false) (hmessage : i.message = none)
    (hrow : isReceiverOrReset i = false) : exec i s = .next (eventEffect i s) :=
  (exec_of_event hmessage hrow s).trans (live_of_released hpins _)

/-! ### SLOT_DEADLINE (R73) -/

section Deadline

variable {s : State} {pre post : List Slot} {x : Slot}

theorem closeAtDeadline_of_due (hplaced : PlacedAt pre x post s) (hopen : x.status = .collecting)
    (hdue : x.deadline = s.timing.timebase) : closeAtDeadline x.number s = closeSlot x.number s := by
  rw [closeAtDeadline, hplaced.find? hopen]
  exact if_pos hdue

theorem closeAtDeadline_of_not_due (hplaced : PlacedAt pre x post s) (hopen : x.status = .collecting)
    (hdue : x.deadline ≠ s.timing.timebase) : closeAtDeadline x.number s = s := by
  rw [closeAtDeadline, hplaced.find? hopen]
  exact if_neg hdue

end Deadline

/-- Settles O35: the number finds the slot, and its deadline decides. -/
theorem deadlineClosesItsSlot : Obligations.DeadlineClosesItsSlot := by
  intro s pre post x hpins hplaced hopen
  refine ⟨closeAtDeadline x.number s, exec_event hpins rfl rfl, fun hdue => ?_, closeAtDeadline_of_not_due hplaced hopen⟩
  rw [closeAtDeadline_of_due hplaced hopen hdue]
  exact closeEffect_closeSlot hplaced hopen

/-! ### The deadline a slot forms (R72) -/

/-- The latest of a slot's trigger times is one number. -/
theorem DeadlineOf.le {x : Slot} {latest other : Nat}
    (hattained : latest = 0 ∨ ∃ e, ∃ v ∈ (x.trigger.get e).toList ++ (x.armed.get e).toList, latest = since x.start v)
    (hbound : ∀ e, ∀ v ∈ (x.trigger.get e).toList ++ (x.armed.get e).toList, since x.start v ≤ other) :
    latest ≤ other := by
  rcases hattained with rfl | ⟨e, v, hv, rfl⟩
  · exact Nat.zero_le other
  · exact hbound e v hv

theorem deadlineOf_unique {x : Slot} {d d' : Time} (h : DeadlineOf x d) (h' : DeadlineOf x d') : d = d' := by
  obtain ⟨latest, rfl, hbound, hattained⟩ := h
  obtain ⟨other, rfl, hbound', hattained'⟩ := h'
  rw [Nat.le_antisymm (DeadlineOf.le hattained hbound') (DeadlineOf.le hattained' hbound)]

/-! ### A decision handed to the Pair Matcher (R71) -/

section Decided

variable {e : Eye} {t d : Time} {x x' : Slot}

theorem decided_of_issued
    (hx' : x' = { x with
      armed := x.armed.set e none
      issued := x.issued.set e true
      trigger := x.trigger.set e (some ((x.trigger.get e).getD t)) })
    (hd : DeadlineOf x' d) : x.decided e (some t) = { x' with deadline := d } := by
  have htrigger : (x.trigger.get e).or (some t) = some ((x.trigger.get e).getD t) := by
    cases x.trigger.get e <;> rfl
  rw [deadlineOf_unique hd (deadlineOf_formDeadline x'), hx', Slot.decided, htrigger]
  simp only [Option.isSome_some, Bool.or_true]

theorem decided_of_withheld (hx' : x' = { x with armed := x.armed.set e none }) (hd : DeadlineOf x' d) :
    x.decided e none = { x' with deadline := d } := by
  rw [deadlineOf_unique hd (deadlineOf_formDeadline x'), hx', Slot.decided]
  simp only [Option.isSome_none, Bool.or_false, Option.or_none, PerEye.set_get]

end Decided

section DecideSlot

variable {s u : State} {pre post : List Slot} {x x' : Slot} {e : Eye} {issued : Option Time}

/-- A decision changes its slot, which closes if that completes it (R71, R77). -/
theorem decideSlot_of_placed (hplaced : PlacedAt pre x post s) (hopen : x.status = .collecting)
    (hdecided : x.decided e issued = x')
    (hu : u = { s with matcher := { s.matcher with slots := pre ++ x' :: post } }) :
    (¬ IsComplete x' → decideSlot x.number e issued s = u) ∧
      (IsComplete x' → CloseEffect pre x' post u (decideSlot x.number e issued s)) := by
  have hnumber : x'.number = x.number := by rw [← hdecided]; rfl
  have hopen' : x'.status = .collecting := by rw [← hdecided]; exact hopen
  have hplaced' : PlacedAt pre x' post u := by
    rw [hu]
    exact hplaced.replace hnumber
  have hdecide : decideSlot x.number e issued s = closeIfComplete x'.number u := by
    rw [decideSlot, hplaced.1, updateFirst_append_cons _ hplaced.isOpenNumber_before
      (Slot.isOpenNumber_iff.2 ⟨rfl, hopen⟩), hdecided, hnumber, hu]
  rw [hdecide]
  refine ⟨closeIfComplete_of_incomplete hplaced' hopen', fun hcomplete => ?_⟩
  rw [closeIfComplete_of_complete hplaced' hopen' hcomplete]
  exact closeEffect_closeSlot hplaced' hopen'

end DecideSlot

/-! ### The decision of an entry (R51) -/

section Entry

variable {e : Eye} {s : State} {n : Entry} {before after : List Entry}

/-- The state with the entry that is decided gone from its list (R51). -/
def State.withoutEntry (s : State) (e : Eye) (rest : List Entry) : State :=
  onEyeTrigger e (fun y => { y with waiting := rest }) s

theorem decideTrigger_of_entry (hwaiting : (s.trig.eyes.get e).waiting = before ++ n :: after)
    (htime : n.time = s.timing.timebase) (hbefore : ∀ m ∈ before, m.time ≠ s.timing.timebase) :
    decideTrigger e s =
      if (s.trig.eyes.get e).withholds s.timing.timebase then
        decideSlot n.slot e none (s.withoutEntry e (before ++ after))
      else decideSlot n.slot e (some s.timing.timebase) (issueTrigger e n (s.withoutEntry e (before ++ after))) := by
  have hdue : dueEntry e s = some n := by
    rw [dueEntry, hwaiting]
    exact find?_append_cons (fun m hm => by simpa [State.now] using hbefore m hm) (by simp [htime, State.now])
  have herase : (s.trig.eyes.get e).waiting.eraseP (fun m => m.time == s.now) = before ++ after := by
    rw [hwaiting, List.eraseP_append_right _ fun m hm => by simpa [State.now] using hbefore m hm,
      List.eraseP_cons_of_pos (by simp [htime, State.now])]
  have hremoved : onEyeTrigger e (fun y => { y with waiting := y.waiting.eraseP fun m => m.time == s.now }) s =
      s.withoutEntry e (before ++ after) := by
    simp only [onEyeTrigger, State.withoutEntry, herase]
  have hwithholds : ((s.withoutEntry e (before ++ after)).trig.eyes.get e).withholds s.timing.timebase =
      (s.trig.eyes.get e).withholds s.timing.timebase := by
    simp [State.withoutEntry, onEyeTrigger, EyeTrigger.withholds]
  rw [decideTrigger, hdue]
  dsimp only
  rw [hremoved, htime, hwithholds]

theorem withholds_of_over
    (h : ∀ p, (s.trig.eyes.get e).lastPulse = some p → since p.start p.stop < since p.start s.timing.timebase) :
    (s.trig.eyes.get e).withholds s.timing.timebase = false := by
  unfold EyeTrigger.withholds
  split
  · next p hp => exact decide_eq_false (Nat.not_le.2 (h p hp))
  · rfl

theorem withholds_of_occupied {p : Pulse} (hp : (s.trig.eyes.get e).lastPulse = some p)
    (h : since p.start s.timing.timebase ≤ since p.start p.stop) :
    (s.trig.eyes.get e).withholds s.timing.timebase = true := by
  rw [EyeTrigger.withholds, hp]
  exact decide_eq_true h

/-- The trigger unit after a trigger is issued (R51, R58). -/
theorem issueTrigger_withoutEntry (htime : n.time = s.timing.timebase) (rest : List Entry) :
    issueTrigger e n (s.withoutEntry e rest) =
      { s with
        trig :=
          { eyes := s.trig.eyes.set e
              { active := (s.trig.eyes.get e).active || decide (n.treatment = .driven)
                lastPulse := some ⟨n.slot, s.timing.timebase, s.timing.timebase + BitVec.ofNat 48 n.exposure⟩
                waiting := rest }
            synth :=
              if n.treatment = .virtual then
                s.trig.synth.set e
                  (s.trig.synth.get e ++ [s.timing.timebase + BitVec.ofNat 48 (synthDelay e n.loopSkew)])
              else s.trig.synth } } := by
  unfold issueTrigger
  cases htreatment : n.treatment with
  | driven => simp [State.withoutEntry, onEyeTrigger, htime, later]
  | virtual => simp [State.withoutEntry, onEyeTrigger, htime, later]

end Entry

/-- Settles O33: the last pulse decides between issue and withholding, and the decision goes to the entry's slot. -/
theorem triggerIsIssuedOrWithheld : Obligations.TriggerIsIssuedOrWithheld := by
  intro e s n before after pre post x x' hpins hwaiting htime hbefore hplaced hopen hnumber
  refine ⟨decideTrigger e s, exec_event hpins rfl rfl, fun u d => ⟨fun hover hx' hd hu => ?_, fun hpulse hx' hd hu => ?_⟩⟩
  · rw [decideTrigger_of_entry hwaiting htime hbefore, withholds_of_over hover, ← hnumber]
    refine decideSlot_of_placed (s := issueTrigger e n (s.withoutEntry e (before ++ after))) ?_ hopen
      (decided_of_issued hx' hd) ?_
    · rw [issueTrigger_withoutEntry htime]
      exact hplaced
    · rw [hu, issueTrigger_withoutEntry htime]
      cases e <;> rfl
  · obtain ⟨p, hp, hoccupied⟩ := hpulse
    rw [decideTrigger_of_entry hwaiting htime hbefore, withholds_of_occupied hp hoccupied, ← hnumber]
    exact decideSlot_of_placed (s := s.withoutEntry e (before ++ after)) hplaced hopen (decided_of_withheld hx' hd) hu

end Sys2Proof.Machine
end

section
/-!
PROOFS. The frame that a boundary begins: its period and exposure from the accumulator or the ramp (R2, R39, R41 to
R45), and the generator as a waiting commit leaves it (R40 to R42).
-/

namespace Sys2Proof.Machine

/-! ### The draw of a frame (R39, R41 to R45) -/

section Draw

variable {p : Plan} {acc : Nat} {r : Ramp}

theorem drawPeriod_of_ended (h : r.frames ≤ r.index) : drawPeriod p acc (some r) = drawAccumulator p 0 :=
  if_neg (Nat.not_lt.2 h)

theorem drawPeriod_of_running (h : r.index < r.frames) : drawPeriod p acc (some r) = drawRamp p acc r := if_pos h

/-- A frame from the accumulator is no ramp frame, and leaves no ramp (R39, R42). -/
theorem drawAccumulator_frame (p : Plan) (acc : Nat) :
    (drawAccumulator p acc).isRamp = false ∧ (drawAccumulator p acc).raised = false ∧
      (drawAccumulator p acc).ramp = none ∧ (drawAccumulator p acc).held = none := by
  unfold drawAccumulator
  dsimp only
  split <;> exact ⟨rfl, rfl, rfl, rfl⟩

theorem drawAccumulator_period (p : Plan) (acc : Nat) :
    if p.rateNum ≤ acc + p.remainder then
      (drawAccumulator p acc).period = p.basePeriod + 1 ∧
        (drawAccumulator p acc).acc + p.rateNum = acc + p.remainder
    else (drawAccumulator p acc).period = p.basePeriod ∧ (drawAccumulator p acc).acc = acc + p.remainder := by
  split
  · next h =>
    rw [drawAccumulator_of_carry h]
    exact ⟨rfl, Nat.sub_add_cancel h⟩
  · next h =>
    rw [drawAccumulator_of_no_carry (Nat.not_le.1 h)]
    exact ⟨rfl, rfl⟩

/-- A ramp frame's period is the formula of R41, at least the fit floor (R43). -/
theorem drawRamp_period (p : Plan) (acc : Nat) (r : Ramp) :
    ((drawRamp p acc r).period : Int) = max (r.formula (r.index + 1)) p.fitFloor ∧
      (drawRamp p acc r).raised = decide (r.formula (r.index + 1) < p.fitFloor) := by
  refine ⟨?_, rfl⟩
  unfold drawRamp
  dsimp only
  split <;> rename_i h
  · rw [max_eq_right (le_of_lt (of_decide_eq_true h))]
  · have hle : (p.fitFloor : Int) ≤ r.formula (r.index + 1) := Int.not_lt.1 fun hlt => h (decide_eq_true hlt)
    rw [Int.toNat_of_nonneg (le_trans (Int.natCast_nonneg _) hle), max_eq_left hle]

theorem rawExposure_of_angle {d : Draw} (h : d.held = none) : rawExposure p d = (2 * d.period * p.angle + 3600) / 7200 := by
  rw [rawExposure, h]
  change (roundHalfUp (d.period * p.angle) 3600).toNat = _
  have hcast : roundHalfUp (d.period * p.angle) 3600 = ((2 * d.period * p.angle + 3600) / 7200 : Nat) := by
    rw [roundHalfUp]
    push_cast
    rw [mul_assoc]
  rw [hcast, Int.toNat_natCast]

/-- The unclamped exposure of a drawn frame (R44). -/
theorem rawExposure_drawPeriod (ramp : Option Ramp) :
    rawExposure p (drawPeriod p acc ramp) =
      rawExposureFrom p (if (drawPeriod p acc ramp).isRamp then ramp else none) (drawPeriod p acc ramp).period := by
  have haccumulator (a : Nat) :
      rawExposure p (drawAccumulator p a) =
        rawExposureFrom p (if (drawAccumulator p a).isRamp then ramp else none) (drawAccumulator p a).period := by
    obtain ⟨hramp, -, -, hheld⟩ := drawAccumulator_frame p a
    rw [rawExposure_of_angle hheld, hramp]
    rfl
  cases ramp with
  | none => exact haccumulator acc
  | some r =>
    by_cases h : r.index < r.frames
    · rw [drawPeriod_of_running h]
      change _ = rawExposureFrom p (some r) (drawRamp p acc r).period
      by_cases hheld : r.hold = .time ∧ r.index + 1 < r.frames
      · simp only [rawExposure, rawExposureFrom, drawRamp, if_pos hheld]
      · rw [rawExposure_of_angle (d := drawRamp p acc r) (if_neg hheld)]
        simp only [rawExposureFrom, if_neg hheld]
    · rw [drawPeriod_of_ended (Nat.not_lt.1 h)]
      exact haccumulator 0

end Draw

/-- The timing with a frame drawn at `b` shows that frame (R2, R22, R39, R41 to R45). -/
theorem frameDrawn_drawPeriod {p : Plan} {acc : Nat} {ramp : Option Ramp} {b : Time} {number : BitVec 32} {t : Timing}
    (hframe : t.frame = some (frameOf p b number (drawPeriod p acc ramp)))
    (hnext : t.next = some (later b (drawPeriod p acc ramp).period)) (hpair : t.pairNumber = number + 1)
    (hacc : t.acc = (drawPeriod p acc ramp).acc) (hramp : t.ramp = (drawPeriod p acc ramp).ramp) :
    FrameDrawn p acc ramp b number t := by
  refine ⟨_, hframe, rfl, rfl, rfl, hnext, hpair, fun a ha => ?_, fun r hr hrunning formula hformula => ?_,
    fun raw hraw => ?_⟩
  · have hdraw : drawPeriod p acc ramp = drawAccumulator p a := by
      rcases ha with ⟨rfl, rfl⟩ | ⟨r, rfl, hended, rfl⟩
      · rfl
      · exact drawPeriod_of_ended hended
    rw [hramp, hacc, hdraw]
    obtain ⟨hisRamp, hraised, hnone, -⟩ := drawAccumulator_frame p a
    exact ⟨hisRamp, hraised, hnone, drawAccumulator_period p a⟩
  · have hdraw : drawPeriod p acc ramp = drawRamp p acc r := by rw [hr, drawPeriod_of_running hrunning]
    have hvalue : formula = r.formula (r.index + 1) := by
      rw [hformula, Ramp.formula, roundHalfUp]
    have hfloor : ((p.fitFloor : Nat) : Int) = p.gap + p.eyeOffset.natAbs + 20 := by
      rw [Plan.fitFloor]
      push_cast
      rfl
    obtain ⟨hperiod, hraised⟩ := drawRamp_period p acc r
    rw [hramp, hacc, hdraw, hvalue, ← hfloor]
    exact ⟨rfl, rfl, rfl, hperiod, hraised⟩
  · have hdrawn : raw = rawExposure p (drawPeriod p acc ramp) := hraw.trans (rawExposure_drawPeriod ramp).symm
    rw [hdrawn]
    exact ⟨rfl, Bool.eq_iff_iff.2 (by rw [decide_eq_true_iff]; exact bne_iff_ne)⟩

/-! ### The generator at a boundary (R40 to R42) -/

/-- The generator that a boundary draws its frame from: as a waiting commit leaves it, and else as it stands. -/
def State.generator (s : State) : Timing :=
  if s.plan.stage = .committing then s.timing.restartGenerator s.plan true else s.timing

section Generator

variable {s : State}

/-- The generator depends on the frame that ends, the ramp and the accumulator alone. -/
theorem restartGenerator_congr {t t' : Timing} (hframe : t'.frame = t.frame) (hacc : t'.acc = t.acc)
    (hramp : t'.ramp = t.ramp) (u : PlanUnit) (b : Bool) :
    (t'.restartGenerator u b).acc = (t.restartGenerator u b).acc ∧
      (t'.restartGenerator u b).ramp = (t.restartGenerator u b).ramp := by
  simp only [Timing.restartGenerator, hframe, hramp]
  split
  · split <;> exact ⟨rfl, rfl⟩
  · split
    · exact ⟨rfl, rfl⟩
    · exact ⟨hacc, hramp⟩

theorem generator_of_rate_ramp {f : Frame} (hrate : RateCommitWaits s) (hframe : s.timing.frame = some f)
    (hlen : 0 < s.plan.staged.rampLen) :
    s.generator.acc = 0 ∧
      s.generator.ramp =
        some ⟨s.plan.staged.rampLen, f.period, s.plan.staged.basePeriod, s.plan.staged.rampHold, f.exposure, 0⟩ := by
  obtain ⟨hstage, -⟩ := id hrate
  have hchanges := (rateChanges_of_waits hstage).1 hrate
  simp [State.generator, hstage, Timing.restartGenerator, hchanges, hlen, hframe]

theorem generator_of_rate_step (hrate : RateCommitWaits s) (h : s.timing.frame = none ∨ s.plan.staged.rampLen = 0) :
    s.generator.acc = 0 ∧ s.generator.ramp = none := by
  obtain ⟨hstage, -⟩ := id hrate
  have hchanges := (rateChanges_of_waits hstage).1 hrate
  rcases h with h | h <;> simp [State.generator, hstage, Timing.restartGenerator, hchanges, h]

theorem generator_of_external (h : ExternalCommitWaits s) (hramp : s.timing.ramp ≠ none) :
    s.generator.acc = 0 ∧ s.generator.ramp = none := by
  obtain ⟨hstage, hrate, hmode, hactive⟩ := h
  have hsame : rateChanges s.plan = false := by simpa using mt (rateChanges_of_waits hstage).2 hrate
  have hmodes : modeChanges s.plan = true := modeChanges_iff.2 (by rw [hmode]; exact hactive.symm)
  have hsome : s.timing.ramp.isSome = true := Option.isSome_iff_ne_none.2 hramp
  simp [State.generator, hstage, Timing.restartGenerator, hsame, hmodes, hmode, hsome]

theorem generator_of_kept (hrate : ¬ RateCommitWaits s) (h : ¬ (ExternalCommitWaits s ∧ s.timing.ramp ≠ none)) :
    s.generator = s.timing := by
  by_cases hstage : s.plan.stage = .committing
  · have hsame : rateChanges s.plan = false := by simpa using mt (rateChanges_of_waits hstage).2 hrate
    have hkept : (modeChanges s.plan && s.plan.staged.refMode == .external && s.timing.ramp.isSome) = false := by
      rw [Bool.eq_false_iff]
      intro hends
      rw [Bool.and_eq_true, Bool.and_eq_true, modeChanges_iff, beq_iff_eq] at hends
      obtain ⟨⟨hmodes, hmode⟩, hsome⟩ := hends
      refine h ⟨⟨hstage, hrate, hmode, fun hactive => hmodes ?_⟩, Option.isSome_iff_ne_none.1 hsome⟩
      rw [hmode, hactive]
    rw [State.generator, if_pos hstage, Timing.restartGenerator, hsame, hkept]
    rfl
  · exact if_neg hstage

end Generator

/-! ### The timing of a boundary -/

/-- The draw of the frame that a boundary now begins. -/
def State.draw (s : State) : Draw := drawPeriod (planAtBoundary s) s.generator.acc s.generator.ramp

/-- The frame that a boundary now begins (R2). -/
def State.frameNow (s : State) : Frame := frameOf (planAtBoundary s) s.timing.timebase s.timing.pairNumber s.draw

section BoundaryTiming

variable (cause : Cause) (s : State)

theorem boundaryTiming_active : (boundaryTiming cause s).plan.active = planAtBoundary s := by
  unfold planAtBoundary
  split
  · next h =>
    rw [boundaryTiming_plan_of_waiting cause s h]
    rfl
  · next h => rw [boundaryTiming_of_none cause s h]

/-- What every boundary does to the timing, whatever waits (R2). -/
theorem boundaryTiming_drawn :
    (boundaryTiming cause s).timing.frame = some s.frameNow ∧
      (boundaryTiming cause s).timing.next = some (later s.timing.timebase s.draw.period) ∧
      (boundaryTiming cause s).timing.pairNumber = s.timing.pairNumber + 1 ∧
      (boundaryTiming cause s).timing.acc = s.draw.acc ∧ (boundaryTiming cause s).timing.ramp = s.draw.ramp := by
  have hplan : planAtBoundary s = if s.plan.stage = .committing then s.plan.staged else s.plan.active := rfl
  by_cases h : s.plan.stage = .committing
  · obtain ⟨hacc, hramp⟩ := restartGenerator_congr (t := s.timing) (t' := s.timing.entered cause) rfl rfl rfl s.plan true
    have hdraw : s.draw = drawPeriod s.plan.staged ((s.timing.entered cause).applied s.plan true).acc
        ((s.timing.entered cause).applied s.plan true).ramp := by
      rw [State.draw, State.generator, hplan, if_pos h, if_pos h, applied_acc, applied_ramp, hacc, hramp]
    rw [boundaryTiming_timing_of_waiting cause s h, settled_currentFrame, settled_next, settled_pairNumber, settled_acc,
      settled_ramp, State.frameNow, hplan, if_pos h, hdraw, Timing.frameBegun, applied_timebase, applied_pairNumber]
    exact ⟨rfl, rfl, rfl, rfl, rfl⟩
  · rw [boundaryTiming_of_none cause s h, State.frameNow, State.draw, State.generator, hplan, if_neg h, if_neg h]
    exact ⟨rfl, rfl, rfl, rfl, rfl⟩

/-- A boundary begins its frame from the generator as the commit leaves it (R2, R26). -/
theorem frameDrawn_boundaryTiming :
    FrameDrawn (planAtBoundary s) s.generator.acc s.generator.ramp s.timing.timebase s.timing.pairNumber
      (boundaryTiming cause s).timing := by
  obtain ⟨hframe, hnext, hpair, hacc, hramp⟩ := boundaryTiming_drawn cause s
  exact frameDrawn_drawPeriod hframe hnext hpair hacc hramp

end BoundaryTiming

end Sys2Proof.Machine
end

section
/-!
PROOFS. The slot that a boundary opens and its triggers: what the decisions of the entries whose time is the boundary
leave (R46, R49 to R51, R58, R66, R67, R72), and the forced closure before it (R68).
-/

namespace Sys2Proof.Machine

/-! ### The entries that a boundary arms (R46, R49, R50) -/

section Armed

variable {p : Plan} {f : Frame} {e : Eye}

theorem armedEntry_eq (p : Plan) (f : Frame) (e : Eye) :
    armedEntry p f e =
      (armedAs p.refMode e).map fun how =>
        ⟨f.number, later f.start (eyeDelay f.offset e), how, f.exposure, p.loopSkew⟩ := by
  unfold armedEntry armedAs
  generalize p.refMode = m
  cases m <;> cases e <;> rfl

theorem armedAs_eq_none_iff : armedAs p.refMode e = none ↔ p.refMode = .followLeft ∧ e = .left := by
  cases hmode : p.refMode <;> cases e <;> simp [armedAs]

theorem later_eq_self_iff {t : Time} {n : Nat} (h : n < 2 ^ 48) : later t n = t ↔ n = 0 := by
  unfold later
  constructor
  · intro heq
    bv_omega
  · rintro rfl
    bv_omega

theorem eyeDelay_lt (h : f.offset.natAbs ≤ 500000) (e : Eye) : eyeDelay f.offset e < 2 ^ 48 := by
  have := eyeDelay_le f.offset e
  omega

end Armed

/-! ### A decision at the boundary itself (R51) -/

/-- An eye's output after the trigger of entry `n` was issued and no entry is left (R51). -/
def EyeTrigger.fired (n : Entry) (y : EyeTrigger) : EyeTrigger where
  active := y.active || decide (n.treatment = .driven)
  lastPulse := some ⟨n.slot, n.time, later n.time n.exposure⟩
  waiting := []

/-- The synthesised returns of an eye after the trigger of entry `n` was issued (R58). -/
def synthAfter (e : Eye) (n : Entry) (due : List Time) : List Time :=
  due ++ if n.treatment = .virtual then [later n.time (synthDelay e n.loopSkew)] else []

/-- The Trigger Unit after the trigger of entry `n`, the last of its eye, was issued. -/
def TriggerUnit.fired (e : Eye) (n : Entry) (g : TriggerUnit) : TriggerUnit where
  eyes := g.eyes.set e ((g.eyes.get e).fired n)
  synth := g.synth.set e (synthAfter e n (g.synth.get e))

theorem issueTrigger_last (e : Eye) (n : Entry) (s : State) :
    issueTrigger e n (s.withoutEntry e []) = { s with trig := s.trig.fired e n } := by
  cases htreatment : n.treatment <;>
    simp [issueTrigger, htreatment, State.withoutEntry, onEyeTrigger, TriggerUnit.fired, EyeTrigger.fired, synthAfter]

section Decision

variable {w : State} {e : Eye} {pre : List Slot} {x : Slot}

theorem decideTrigger_of_none_due (h : ∀ n ∈ (w.trig.eyes.get e).waiting, n.time ≠ w.timing.timebase) :
    decideTrigger e w = w := by
  have hnone : dueEntry e w = none :=
    List.find?_eq_none.2 fun n hn hdue => h n hn (by simpa [State.now] using hdue)
  rw [decideTrigger, hnone]

/-- A decision that leaves the newest slot incomplete changes that slot alone (R71, R77). -/
theorem decideSlot_newest {o : Option Time} (hslots : w.matcher.slots = pre ++ [x]) (hopen : x.status = .collecting)
    (hpre : ∀ y ∈ pre, y.number ≠ x.number) (hincomplete : ¬ IsComplete (x.decided e o)) :
    decideSlot x.number e o w =
      { w with matcher := { w.matcher with slots := pre ++ [x.decided e o] } } := by
  have hbefore : ∀ y ∈ pre, y.isOpenNumber x.number = false := fun y hy => by
    rw [← Bool.not_eq_true, Slot.isOpenNumber_iff]
    exact fun h => hpre y hy h.1
  have hmember : (x.decided e o).isOpenNumber x.number = true := Slot.isOpenNumber_iff.2 ⟨rfl, hopen⟩
  rw [decideSlot, hslots, updateFirst_append_cons _ hbefore (Slot.isOpenNumber_iff.2 ⟨rfl, hopen⟩)]
  simp only [closeIfComplete, find?_append_cons hbefore hmember, if_neg (mt (Slot.complete_iff _).1 hincomplete)]

/-- The only entry of an eye, due at its boundary, is issued (R51). -/
theorem decideTrigger_last {n : Entry} (hwaiting : (w.trig.eyes.get e).waiting = [n])
    (htime : n.time = w.timing.timebase) (hover : (w.trig.eyes.get e).withholds w.timing.timebase = false)
    (hslots : w.matcher.slots = pre ++ [x]) (hopen : x.status = .collecting) (hnumber : n.slot = x.number)
    (hpre : ∀ y ∈ pre, y.number ≠ x.number) (hincomplete : ¬ IsComplete (x.decided e (some w.timing.timebase))) :
    decideTrigger e w =
      { w with
        matcher := { w.matcher with slots := pre ++ [x.decided e (some w.timing.timebase)] }
        trig := w.trig.fired e n } := by
  rw [decideTrigger_of_entry (before := []) (after := []) hwaiting htime (fun _ h => absurd h List.not_mem_nil), hover,
    hnumber]
  change decideSlot x.number e _ (issueTrigger e n (w.withoutEntry e [])) = _
  rw [issueTrigger_last]
  exact decideSlot_newest (w := { w with trig := w.trig.fired e n }) hslots hopen hpre hincomplete

end Decision

/-! ### The decisions at a boundary (R51, R66) -/

/-- The entry that a boundary arms for an eye and decides at once: its trigger time is the boundary's. -/
def dueAt (p : Plan) (f : Frame) (e : Eye) : Option Entry := (armedEntry p f e).filter fun n => n.time == f.start

/-- A slot after the decision of the entry of an eye that was due. -/
def Slot.issuedBy (e : Eye) (o : Option Entry) (x : Slot) : Slot :=
  match o with
  | some n => x.decided e (some n.time)
  | none => x

/-- The Trigger Unit after the decision of the entry of an eye that was due. -/
def TriggerUnit.issuedBy (e : Eye) (o : Option Entry) (g : TriggerUnit) : TriggerUnit :=
  match o with
  | some n => g.fired e n
  | none => g

section IssuedBy

variable {x : Slot} {g : TriggerUnit} {e q : Eye} {o : Option Entry}

theorem issuedBy_frame (e : Eye) (o : Option Entry) (x : Slot) :
    x.issuedBy e o =
      { x with
        armed := (x.issuedBy e o).armed, issued := (x.issuedBy e o).issued, trigger := (x.issuedBy e o).trigger
        deadline := (x.issuedBy e o).deadline } := by
  cases o <;> rfl

theorem issuedBy_self :
    (x.issuedBy e o).armed.get e = (if o.isSome = true then none else x.armed.get e) ∧
      (x.issuedBy e o).trigger.get e = (x.trigger.get e).or (o.map (·.time)) ∧
      (x.issuedBy e o).issued.get e = (x.issued.get e || o.isSome) := by
  cases o <;> simp [Slot.issuedBy, Slot.decided]

theorem issuedBy_other (h : q ≠ e) :
    (x.issuedBy e o).armed.get q = x.armed.get q ∧ (x.issuedBy e o).trigger.get q = x.trigger.get q ∧
      (x.issuedBy e o).issued.get q = x.issued.get q := by
  cases o <;> simp [Slot.issuedBy, Slot.decided, PerEye.get_set_ne _ _ h]

theorem issuedBy_deadline (h : x.deadline = x.formDeadline) :
    (x.issuedBy e o).deadline = (x.issuedBy e o).formDeadline := by
  cases o with
  | none => exact h
  | some n => rfl

theorem unit_issuedBy_self :
    (g.issuedBy e o).eyes.get e = (o.elim (g.eyes.get e) fun n => (g.eyes.get e).fired n) ∧
      (g.issuedBy e o).synth.get e = (o.elim (g.synth.get e) fun n => synthAfter e n (g.synth.get e)) := by
  cases o <;> simp [TriggerUnit.issuedBy, TriggerUnit.fired]

theorem unit_issuedBy_other (h : q ≠ e) :
    (g.issuedBy e o).eyes.get q = g.eyes.get q ∧ (g.issuedBy e o).synth.get q = g.synth.get q := by
  cases o <;> simp [TriggerUnit.issuedBy, TriggerUnit.fired, PerEye.get_set_ne _ _ h]

end IssuedBy

/-- A decision at the boundary settles the entry just armed if it is due. -/
theorem decideTrigger_armed {w : State} {e : Eye} {pre : List Slot} {x : Slot} {p : Plan} {f : Frame}
    (hwaiting : (w.trig.eyes.get e).waiting = (armedEntry p f e).toList) (hstart : f.start = w.timing.timebase)
    (hover : (w.trig.eyes.get e).withholds w.timing.timebase = false) (hslots : w.matcher.slots = pre ++ [x])
    (hopen : x.status = .collecting) (hnumber : x.number = f.number) (hpre : ∀ y ∈ pre, y.number ≠ x.number)
    (hincomplete : ¬ IsComplete (x.issuedBy e (dueAt p f e))) :
    decideTrigger e w =
      { w with
        matcher := { w.matcher with slots := pre ++ [x.issuedBy e (dueAt p f e)] }
        trig := w.trig.issuedBy e (dueAt p f e) } := by
  have hsame : w = { w with matcher := { w.matcher with slots := pre ++ [x] } } := by rw [← hslots]
  cases hentry : armedEntry p f e with
  | none =>
    rw [hentry] at hwaiting
    rw [decideTrigger_of_none_due (by rw [hwaiting]; exact fun n h => absurd h List.not_mem_nil), dueAt, hentry]
    exact hsame
  | some n =>
    rw [hentry] at hwaiting
    by_cases htime : n.time = f.start
    · have hdue : dueAt p f e = some n := by simp [dueAt, hentry, htime]
      have hnow : n.time = w.timing.timebase := htime.trans hstart
      rw [hdue] at hincomplete ⊢
      simp only [Slot.issuedBy, hnow] at hincomplete ⊢
      exact decideTrigger_last hwaiting hnow hover hslots hopen
        ((armedEntry_slot hentry).trans hnumber.symm) hpre hincomplete
    · have hdue : dueAt p f e = none := by simp [dueAt, hentry, htime]
      rw [hdue, decideTrigger_of_none_due (by rw [hwaiting]; simpa [← hstart] using htime)]
      exact hsame

/-! ### The slot opened (R49, R67) -/

/-- A slot just opened, after the decisions of the entries due at its boundary. -/
def Slot.atBoundary (p : Plan) (f : Frame) (x : Slot) : Slot :=
  (x.issuedBy .left (dueAt p f .left)).issuedBy .right (dueAt p f .right)

/-- The Trigger Unit with the entries of frame `f` armed where none was pending. -/
def TriggerUnit.armedFor (p : Plan) (f : Frame) (g : TriggerUnit) : TriggerUnit :=
  { g with eyes := PerEye.build fun e => { g.eyes.get e with waiting := (armedEntry p f e).toList } }

/-- The Trigger Unit after the decisions of the entries due at the boundary that armed them. -/
def TriggerUnit.atBoundary (p : Plan) (f : Frame) (g : TriggerUnit) : TriggerUnit :=
  ((g.armedFor p f).issuedBy .left (dueAt p f .left)).issuedBy .right (dueAt p f .right)

/-- A slot whose right eye has a trigger, pending or issued, and no return is incomplete. -/
theorem not_isComplete_of_right {x : Slot} (htrigger : (x.armed.get .right).isSome = true ∨ (x.trigger.get .right).isSome = true)
    (hreturn : x.returned.get .right = none) : ¬ IsComplete x := by
  intro hcomplete
  obtain ⟨hpending, hreturned⟩ := hcomplete .right
  rw [hreturn] at hreturned
  rcases htrigger with harmed | htrigger
  · rcases hpending with hnone | htrigger
    · rw [hnone] at harmed
      cases harmed
    · cases hreturned htrigger
  · cases hreturned htrigger

section OpenSlot

variable {v : State} {f : Frame} {cause : Cause}

theorem armedEntry_right_isSome (p : Plan) (f : Frame) : (armedEntry p f .right).isSome = true := by
  rw [armedEntry_eq, Option.isSome_map, Option.isSome_iff_ne_none, Ne, armedAs_eq_none_iff]
  exact fun h => nomatch h.2

theorem newSlot_incomplete_left (cause : Cause) (f : Frame) (v : State) (o : Option Entry) :
    ¬ IsComplete ((newSlot cause f v).issuedBy .left o) := by
  refine not_isComplete_of_right (.inl ?_) ?_
  · rw [(issuedBy_other (by decide)).1]
    simp [newSlot, armedEntry_right_isSome]
  · rw [issuedBy_frame]
    rfl

theorem newSlot_incomplete (cause : Cause) (f : Frame) (v : State) (o o' : Option Entry) :
    ¬ IsComplete (((newSlot cause f v).issuedBy .left o).issuedBy .right o') := by
  refine not_isComplete_of_right ?_ ?_
  · cases o' with
    | none =>
      left
      rw [issuedBy_self.1, (issuedBy_other (by decide)).1]
      simp [newSlot, armedEntry_right_isSome]
    | some n =>
      right
      rw [issuedBy_self.2.1, Option.isSome_or]
      simp
  · rw [issuedBy_frame, issuedBy_frame]
    rfl

/-- The slot and the triggers of a boundary that found no entry pending and no pulse on a line. -/
theorem decideTriggers_openSlot (hframe : v.timing.frame = some f) (hstart : f.start = v.timing.timebase)
    (hpre : ∀ y ∈ v.matcher.slots, y.number ≠ f.number) (hwaiting : ∀ e, (v.trig.eyes.get e).waiting = [])
    (hover : ∀ e, (v.trig.eyes.get e).withholds v.timing.timebase = false) :
    decideTrigger .right (decideTrigger .left (openSlot cause v)) =
      { v with
        matcher :=
          { v.matcher with slots := v.matcher.slots ++ [(newSlot cause f v).atBoundary v.plan.active f] }
        trig := v.trig.atBoundary v.plan.active f } := by
  have hopened : openSlot cause v =
      { v with
        matcher := { v.matcher with slots := v.matcher.slots ++ [newSlot cause f v] }
        trig := v.trig.armedFor v.plan.active f } := by
    simp [openSlot, hframe, TriggerUnit.armedFor, hwaiting]
  have hover' (e : Eye) : ((v.trig.armedFor v.plan.active f).eyes.get e).withholds v.timing.timebase = false := by
    rw [← hover e, TriggerUnit.armedFor, PerEye.get_build]
    rfl
  have hleft := decideTrigger_armed (w := openSlot cause v) (e := .left) (p := v.plan.active) (f := f)
    (pre := v.matcher.slots) (x := newSlot cause f v)
    (by rw [hopened]; simp [TriggerUnit.armedFor]) (by rw [hopened]; exact hstart) (by rw [hopened]; exact hover' .left)
    (by rw [hopened]) rfl rfl hpre (newSlot_incomplete_left cause f v _)
  rw [hleft, hopened]
  obtain ⟨hkept, -⟩ := unit_issuedBy_other (g := v.trig.armedFor v.plan.active f) (e := .left) (q := .right)
    (o := dueAt v.plan.active f .left) (by decide)
  refine decideTrigger_armed (e := .right) (p := v.plan.active) (f := f) (pre := v.matcher.slots)
    (x := (newSlot cause f v).issuedBy .left (dueAt v.plan.active f .left)) ?_ hstart ?_ rfl ?_ ?_ ?_
    (newSlot_incomplete cause f v _ _)
  · change ((((v.trig.armedFor v.plan.active f).issuedBy .left _).eyes.get .right).waiting) = _
    rw [hkept]
    simp [TriggerUnit.armedFor]
  · change (((v.trig.armedFor v.plan.active f).issuedBy .left _).eyes.get .right).withholds _ = _
    rw [hkept]
    exact hover' .right
  · rw [issuedBy_frame]
    rfl
  · rw [issuedBy_frame]
    rfl
  · rw [issuedBy_frame]
    exact hpre

end OpenSlot

end Sys2Proof.Machine
end

section
/-!
PROOFS. What a boundary does in the Pair Matcher and the Trigger and Return Unit (R46, R49 to R51, R58, R66 to R70, R72).
-/

namespace Sys2Proof.Machine

/-! ### The eyes of the slot opened (R49 to R51, R58, R67) -/

section Eyes

variable {p : Plan} {f : Frame} {e : Eye}

theorem dueAt_eq (h : f.offset.natAbs ≤ 500000) :
    dueAt p f e = if eyeDelay f.offset e = 0 then armedEntry p f e else none := by
  have hnow : (later f.start (eyeDelay f.offset e) == f.start) = decide (eyeDelay f.offset e = 0) := by
    rw [Bool.eq_iff_iff, beq_iff_eq, decide_eq_true_iff, later_eq_self_iff (eyeDelay_lt h e)]
  rw [dueAt, armedEntry_eq]
  cases armedAs p.refMode e with
  | none => exact (ite_self none).symm
  | some how => simp [Option.filter, hnow]

theorem atBoundary_eye (x : Slot) :
    (x.atBoundary p f).armed.get e = (if (dueAt p f e).isSome = true then none else x.armed.get e) ∧
      (x.atBoundary p f).trigger.get e = (x.trigger.get e).or ((dueAt p f e).map (·.time)) ∧
      (x.atBoundary p f).issued.get e = (x.issued.get e || (dueAt p f e).isSome) := by
  unfold Slot.atBoundary
  cases e with
  | left =>
    obtain ⟨harmed, htrigger, hissued⟩ := issuedBy_other (x := x.issuedBy .left (dueAt p f .left)) (e := .right)
      (q := .left) (o := dueAt p f .right) (by decide)
    rw [harmed, htrigger, hissued]
    exact issuedBy_self
  | right =>
    obtain ⟨harmed, htrigger, hissued⟩ := issuedBy_other (x := x) (e := .left) (q := .right) (o := dueAt p f .left)
      (by decide)
    rw [← harmed, ← htrigger, ← hissued]
    exact issuedBy_self

theorem unit_atBoundary_eye (g : TriggerUnit) :
    (g.atBoundary p f).eyes.get e =
        (dueAt p f e).elim { g.eyes.get e with waiting := (armedEntry p f e).toList }
          (fun n => (g.eyes.get e).fired n) ∧
      (g.atBoundary p f).synth.get e = (dueAt p f e).elim (g.synth.get e) fun n => synthAfter e n (g.synth.get e) := by
  have harmed (q : Eye) : (g.armedFor p f).eyes.get q = { g.eyes.get q with waiting := (armedEntry p f q).toList } := by
    simp [TriggerUnit.armedFor]
  unfold TriggerUnit.atBoundary
  cases e with
  | left =>
    obtain ⟨heyes, hsynth⟩ := unit_issuedBy_other (g := (g.armedFor p f).issuedBy .left (dueAt p f .left)) (e := .right)
      (q := .left) (o := dueAt p f .right) (by decide)
    rw [heyes, hsynth, unit_issuedBy_self.1, unit_issuedBy_self.2, harmed]
    exact ⟨rfl, rfl⟩
  | right =>
    obtain ⟨heyes, hsynth⟩ := unit_issuedBy_other (g := g.armedFor p f) (e := .left) (q := .right)
      (o := dueAt p f .left) (by decide)
    rw [unit_issuedBy_self.1, unit_issuedBy_self.2, heyes, hsynth, harmed]
    exact ⟨rfl, rfl⟩

/-- A boundary arms an eye, or issues its trigger at once (R49 to R51, R58, R67). -/
theorem eyeArmed_atBoundary {x : Slot} {g : TriggerUnit} {filled : Option Time} (hoffset : f.offset.natAbs ≤ 500000)
    (harmed : x.armed.get e = (armedEntry p f e).map (·.time)) (htrigger : x.trigger.get e = filled)
    (hissued : x.issued.get e = false) (hfilled : filled = none ∨ filled = some f.start)
    (hwaiting : (g.eyes.get e).waiting = []) :
    EyeArmed p f e (x.atBoundary p f) filled (g.eyes.get e) ((g.atBoundary p f).eyes.get e) (g.synth.get e)
      ((g.atBoundary p f).synth.get e) := by
  obtain ⟨harmed', htrigger', hissued'⟩ := atBoundary_eye (p := p) (f := f) (e := e) x
  obtain ⟨heyes, hsynth⟩ := unit_atBoundary_eye (p := p) (f := f) (e := e) g
  rw [harmed] at harmed'
  rw [htrigger] at htrigger'
  rw [hissued, Bool.false_or] at hissued'
  have hentry := armedEntry_eq p f e
  have hdue := dueAt_eq (p := p) (e := e) hoffset
  unfold EyeArmed
  rw [harmed', htrigger', hissued', heyes, hsynth, hdue]
  cases hhow : armedAs p.refMode e with
  | none =>
    rw [hhow] at hentry
    simp [hentry, ← hwaiting]
  | some how =>
    rw [hhow] at hentry
    by_cases hdelay : eyeDelay f.offset e = 0
    · have hstart : later f.start (eyeDelay f.offset e) = f.start := (later_eq_self_iff (eyeDelay_lt hoffset e)).2 hdelay
      have hor : filled.or (some f.start) = some f.start := by
        rcases hfilled with rfl | rfl <;> rfl
      simp only [hentry, if_pos hdelay, Option.map_some, hstart, Option.elim_some, EyeTrigger.fired, synthAfter]
      refine ⟨rfl, hor, rfl, ?_, ?_⟩
      · rw [← hwaiting]
        rfl
      · cases e <;> rfl
    · simp [hentry, hdelay, later]

/-- The offset of an eye's trigger in the slot just opened (R72). -/
theorem triggerOffset_of_eyeArmed {x : Slot} {filled : Option Time} {u u' : EyeTrigger} {synth synth' : List Time}
    (h : EyeArmed p f e x filled u u' synth synth') (hoffset : f.offset.natAbs ≤ 500000) (hstart : x.start = f.start)
    (hfilled : filled = none ∨ filled = some f.start) :
    x.triggerOffset e = if armedAs p.refMode e = none then 0 else eyeDelay f.offset e := by
  have hsame : since f.start f.start = 0 := by simp [since]
  have hzero : x.offsetOf filled = 0 := by
    rcases hfilled with rfl | rfl
    · rfl
    · rw [Slot.offsetOf, hstart, hsame]
  unfold EyeArmed at h
  rw [Slot.triggerOffset]
  cases hhow : armedAs p.refMode e with
  | none =>
    rw [hhow] at h
    obtain ⟨harmed, htrigger, -⟩ := h
    rw [harmed, htrigger, hzero]
    rfl
  | some how =>
    rw [hhow] at h
    dsimp only at h
    split at h
    · next hdelay =>
      obtain ⟨harmed, htrigger, -⟩ := h
      rw [harmed, htrigger, hdelay, Slot.offsetOf, Slot.offsetOf, hstart, hsame]
      rfl
    · obtain ⟨harmed, htrigger, -⟩ := h
      have hsince : since f.start (f.start + BitVec.ofNat 48 (eyeDelay f.offset e)) = eyeDelay f.offset e :=
        since_later (eyeDelay_lt hoffset e)
      rw [harmed, htrigger, hzero, Slot.offsetOf, hstart, hsince]
      simp

end Eyes

/-! ### The slot opened (R66, R67, R69, R70, R72) -/

section SlotOpened

variable {s t v : State} {f : Frame} {cause : Cause}

theorem atBoundary_frame (p : Plan) (f : Frame) (x : Slot) :
    x.atBoundary p f =
      { x with
        armed := (x.atBoundary p f).armed, issued := (x.atBoundary p f).issued
        trigger := (x.atBoundary p f).trigger, deadline := (x.atBoundary p f).deadline } := by
  have h := issuedBy_frame .right (dueAt p f .right) (x.issuedBy .left (dueAt p f .left))
  have h' := issuedBy_frame .left (dueAt p f .left) x
  unfold Slot.atBoundary
  generalize (x.issuedBy .left (dueAt p f .left)).issuedBy .right (dueAt p f .right) = y at h ⊢
  rw [h, h']

/-- A trigger time that a left return gives its slot is the boundary's (R67). -/
theorem newSlot_trigger (e : Eye) :
    (newSlot cause f v).trigger.get e =
      if decide (cause = .leftReturn) = true ∧ e = .left then some f.start else none := by
  cases e <;> by_cases h : cause = .leftReturn <;> simp [newSlot, PerEye.get, h]

/-- The deadline of the slot opened is a period after the later of its triggers (R72). -/
theorem atBoundary_deadline (p : Plan) (f : Frame) (v : State) :
    ((newSlot cause f v).atBoundary p f).deadline = ((newSlot cause f v).atBoundary p f).formDeadline :=
  issuedBy_deadline (issuedBy_deadline rfl)

theorem slotOpened_newSlot (hplan : v.plan.active = planAtBoundary s) (hoffset : f.offset.natAbs ≤ 500000)
    (hlens : v.lens = s.lens) (htrig : ∀ e, v.trig.eyes.get e = s.trig.eyes.get e)
    (hsynth : ∀ e, v.trig.synth.get e = s.trig.synth.get e) (hwaiting : ∀ e, (s.trig.eyes.get e).waiting = [])
    (ht : t.plan = v.plan ∧ t.tc = v.tc ∧ t.timing = v.timing ∧ t.trig = v.trig.atBoundary v.plan.active f) :
    SlotOpened (decide (cause = .leftReturn)) s f t ((newSlot cause f v).atBoundary v.plan.active f) := by
  obtain ⟨htplan, httc, httiming, httrig⟩ := ht
  have heyes (e : Eye) : EyeArmed v.plan.active f e ((newSlot cause f v).atBoundary v.plan.active f)
      (if decide (cause = .leftReturn) = true ∧ e = .left then some f.start else none) (s.trig.eyes.get e)
      (t.trig.eyes.get e) (s.trig.synth.get e) (t.trig.synth.get e) := by
    rw [← htrig e, ← hsynth e, httrig]
    refine eyeArmed_atBoundary hoffset (by simp [newSlot]) (newSlot_trigger e) (by cases e <;> rfl) ?_
      (by rw [htrig e]; exact hwaiting e)
    split
    · exact .inr rfl
    · exact .inl rfl
  have htimes (e : Eye) : ((newSlot cause f v).atBoundary v.plan.active f).triggerOffset e =
      if armedAs v.plan.active.refMode e = none then 0 else eyeDelay f.offset e := by
    refine triggerOffset_of_eyeArmed (heyes e) hoffset (by rw [atBoundary_frame]; rfl) ?_
    split
    · exact .inr rfl
    · exact .inl rfl
  have hdeadline : ((newSlot cause f v).atBoundary v.plan.active f).deadline =
      later f.start
        (max (if v.plan.active.refMode = .followLeft then 0 else eyeDelay f.offset .left) (eyeDelay f.offset .right) +
          f.period) := by
    rw [atBoundary_deadline, Slot.formDeadline, htimes, htimes, atBoundary_frame]
    simp [armedAs_eq_none_iff, newSlot]
  unfold SlotOpened
  rw [← hplan]
  refine ⟨?_, ?_, ?_, ?_, ?_, ?_, ?_, ?_, ?_, ?_, fun a => ?_, ?_, ?_, ?_, ?_, ?_, ?_, hdeadline, heyes⟩
  all_goals rw [atBoundary_frame]
  · rfl
  · rfl
  · rw [htplan]
    rfl
  · rfl
  · rfl
  · rfl
  · simp [newSlot]
  · rfl
  · rfl
  · simp [newSlot, Bool.beq_eq_decide_eq]
  · simp [newSlot, lensSnapshot, hlens]
  · rw [httc]
    rfl
  · rw [httc]
    rfl
  · rw [httiming]
    rfl
  · exact Bool.beq_eq_decide_eq _ _
  · rfl
  · rfl

end SlotOpened

end Sys2Proof.Machine
end

section
/-!
PROOFS. The forced closure (R68) and what a boundary does in the Pair Matcher and the Trigger and Return Unit.
-/

namespace Sys2Proof.Machine

/-! ### A close depends on the Pair Matcher and the triggers alone (R78, R79) -/

section CloseCongr

variable {s w : State} {n : BitVec 32}

theorem closeSlot_congr (hmatcher : w.matcher = s.matcher) (htrig : w.trig = s.trig) :
    (closeSlot n w).matcher = (closeSlot n s).matcher ∧ (closeSlot n w).trig = (closeSlot n s).trig := by
  unfold closeSlot
  rw [hmatcher]
  split
  · exact ⟨hmatcher, htrig⟩
  · simp [releaseSlots, judgeEye_matcher, htrig]

theorem judgeEye_links_congr {x : Slot} {e : Eye} (hmatcher : w.matcher = s.matcher) (hlinks : w.links = s.links) :
    (judgeEye x e w).links = (judgeEye x e s).links := by
  unfold judgeEye
  rw [hmatcher]
  dsimp only
  split
  · simp only [postAll, State.onLinks, hlinks]
  · exact hlinks

theorem closeSlot_links_congr (hmatcher : w.matcher = s.matcher) (hlinks : w.links = s.links) :
    (closeSlot n w).links = (closeSlot n s).links := by
  unfold closeSlot
  rw [hmatcher]
  split
  · exact hlinks
  · simp only [releaseSlots_links]
    refine judgeEye_links_congr ?_ (judgeEye_links_congr rfl hlinks)
    rw [judgeEye_matcher, judgeEye_matcher]

/-- A close withdraws entries only, and schedules no return. -/
theorem closeSlot_trig_of_no_entry (e : Eye) (hwaiting : (s.trig.eyes.get e).waiting = []) :
    (closeSlot n s).trig.eyes.get e = s.trig.eyes.get e ∧ (closeSlot n s).trig.synth = s.trig.synth := by
  have hwithdraw (numbers : List (BitVec 32)) : (s.trig.eyes.get e).withdraw numbers = s.trig.eyes.get e := by
    rw [EyeTrigger.withdraw, hwaiting, List.filter_nil, ← hwaiting]
  unfold closeSlot
  split
  · exact ⟨rfl, rfl⟩
  · simp [releaseSlots, hwithdraw]

/-- A close brings no number into the table. -/
theorem number_mem_of_closeSlot {y : Slot} (hy : y ∈ (closeSlot n s).matcher.slots) :
    y.number ∈ s.matcher.slots.map (·.number) := by
  unfold closeSlot at hy
  split at hy
  · exact List.mem_map_of_mem hy
  · simp only [releaseSlots, judgeEye_matcher] at hy
    have hmem := List.mem_map_of_mem (f := Slot.number) ((List.dropWhile_sublist _).mem hy)
    rwa [updateFirst_map] at hmem
    exact fun _ => rfl

end CloseCongr

/-! ### The forced closure (R68) -/

section ForceClosure

variable {s w : State}

theorem forceClosure_of_room (h : s.matcher.slots.length < 4) : forceClosure s = s := by
  unfold forceClosure
  split
  · exact if_neg (Nat.not_le.2 h)
  · rfl

theorem forceClosure_of_full {y : Slot} {ys : List Slot} (hslots : s.matcher.slots = y :: ys) (h : ys.length = 3) :
    forceClosure s = closeSlot y.number s := by
  simp [forceClosure, hslots, h]

/-- A forced closure closes a slot, or nothing. -/
theorem forceClosure_cases (s : State) : forceClosure s = s ∨ ∃ n, forceClosure s = closeSlot n s := by
  unfold forceClosure
  split
  · split
    · exact .inr ⟨_, rfl⟩
    · exact .inl rfl
  · exact .inl rfl

theorem forceClosure_trig_of_no_entry (e : Eye) (hwaiting : (s.trig.eyes.get e).waiting = []) :
    (forceClosure s).trig.eyes.get e = s.trig.eyes.get e ∧ (forceClosure s).trig.synth = s.trig.synth := by
  rcases forceClosure_cases s with h | ⟨n, h⟩ <;> rw [h]
  · exact ⟨rfl, rfl⟩
  · exact closeSlot_trig_of_no_entry e hwaiting

theorem number_mem_of_forceClosure {y : Slot} (hy : y ∈ (forceClosure s).matcher.slots) :
    y.number ∈ s.matcher.slots.map (·.number) := by
  rcases forceClosure_cases s with h | ⟨n, h⟩ <;> rw [h] at hy
  · exact List.mem_map_of_mem hy
  · exact number_mem_of_closeSlot hy

/-- The close of a full table's head, in a state whose pending sets have grown. -/
theorem closeEffect_head {y : Slot} {ys : List Slot} (hslots : s.matcher.slots = y :: ys) (hopen : y.status = .collecting) :
    CloseEffect [] y ys s (closeSlot y.number s) :=
  closeEffect_closeSlot ⟨hslots, fun _ _ h => (nomatch h), fun _ h => absurd h List.not_mem_nil⟩ hopen

theorem holds_closeSlot_mono {y : Slot} {ys : List Slot} (hmatcher : w.matcher = s.matcher) (htrig : w.trig = s.trig)
    (hslots : s.matcher.slots = y :: ys) (hopen : y.status = .collecting) {l : Link} {k : EventKind}
    (hgrew : holds (s.links.get l).events k = true → holds (w.links.get l).events k = true)
    (h : holds ((closeSlot y.number s).links.get l).events k = true) :
    holds ((closeSlot y.number w).links.get l).events k = true := by
  obtain ⟨-, -, hs, -⟩ := closeEffect_head hslots hopen
  obtain ⟨-, -, hw, -⟩ := closeEffect_head (s := w) (by rw [hmatcher, hslots]) hopen
  rw [hs] at h
  rw [hw, (closeSlot_congr hmatcher htrig).1, hmatcher]
  exact h.imp_left hgrew

end ForceClosure

/-! ### The slot of a boundary (R49 to R51, R66 to R70) -/

/-- The timing and the plan of a boundary with its timecode stamped, before its slot is opened. -/
def stampedBoundary (cause : Cause) (s : State) : State := stampTimecode (boundaryTiming cause s)

theorem planAtBoundary_inRanges_offset {s : State} (h : (planAtBoundary s).inRanges) :
    s.frameNow.offset.natAbs ≤ 500000 := by
  obtain ⟨hlo, hhi⟩ := eyeOffset_range _ h
  have hoffset : s.frameNow.offset = (planAtBoundary s).eyeOffset := rfl
  omega

section Boundary

variable {s : State} {cause : Cause}

/-- The slot that a boundary opens, after the decisions of the entries due at once. -/
def openedSlot (cause : Cause) (s : State) : Slot :=
  (newSlot cause s.frameNow (forceClosure (stampedBoundary cause s))).atBoundary
    (forceClosure (stampedBoundary cause s)).plan.active s.frameNow

theorem forceClosure_stamped_timing :
    (forceClosure (stampedBoundary cause s)).timing = (boundaryTiming cause s).timing := by
  simp [stampedBoundary]

theorem forceClosure_stamped_active : (forceClosure (stampedBoundary cause s)).plan.active = planAtBoundary s := by
  rw [← boundaryTiming_active cause s]
  simp [stampedBoundary]

theorem forceClosure_stamped_eye (e : Eye) (hwaiting : (s.trig.eyes.get e).waiting = []) :
    (forceClosure (stampedBoundary cause s)).trig.eyes.get e = s.trig.eyes.get e ∧
      (forceClosure (stampedBoundary cause s)).trig.synth = s.trig.synth := by
  have htrig : (stampedBoundary cause s).trig = s.trig := by simp [stampedBoundary]
  rw [← htrig]
  exact forceClosure_trig_of_no_entry e (by rw [htrig]; exact hwaiting)

/-- The Pair Matcher, the triggers and the links of a boundary but for the replies. -/
theorem boundaryBody_opened (hnumbers : ∀ y ∈ s.matcher.slots, y.number ≠ s.timing.pairNumber)
    (heyes : ∀ e, (s.trig.eyes.get e).waiting = [] ∧
      ∀ p, (s.trig.eyes.get e).lastPulse = some p → since p.start p.stop < since p.start s.timing.timebase) :
    (boundaryBody cause s).matcher =
        { (forceClosure (stampedBoundary cause s)).matcher with
          slots := (forceClosure (stampedBoundary cause s)).matcher.slots ++ [openedSlot cause s] } ∧
      (boundaryBody cause s).trig =
        (forceClosure (stampedBoundary cause s)).trig.atBoundary
          (forceClosure (stampedBoundary cause s)).plan.active s.frameNow ∧
      (boundaryBody cause s).links = (forceClosure (stampedBoundary cause s)).links := by
  have hbase : (forceClosure (stampedBoundary cause s)).timing.timebase = s.timing.timebase := by
    rw [forceClosure_stamped_timing, boundaryTiming_timebase]
  have hopened := decideTriggers_openSlot (v := forceClosure (stampedBoundary cause s)) (f := s.frameNow) (cause := cause)
    (by rw [forceClosure_stamped_timing]; exact (boundaryTiming_drawn cause s).1) hbase.symm
    (fun y hy => by
      have hmem := number_mem_of_forceClosure hy
      rw [show (stampedBoundary cause s).matcher = s.matcher by simp [stampedBoundary]] at hmem
      obtain ⟨z, hz, hnumber⟩ := List.mem_map.1 hmem
      rw [← hnumber]
      exact hnumbers z hz)
    (fun e => by rw [(forceClosure_stamped_eye e (heyes e).1).1]; exact (heyes e).1)
    (fun e => by
      rw [hbase, (forceClosure_stamped_eye e (heyes e).1).1]
      exact withholds_of_over (heyes e).2)
  have hbody : boundaryBody cause s = frameScan
      { forceClosure (stampedBoundary cause s) with
        matcher :=
          { (forceClosure (stampedBoundary cause s)).matcher with
            slots := (forceClosure (stampedBoundary cause s)).matcher.slots ++ [openedSlot cause s] }
        trig := (forceClosure (stampedBoundary cause s)).trig.atBoundary
          (forceClosure (stampedBoundary cause s)).plan.active s.frameNow } := congrArg frameScan hopened
  rw [hbody]
  simp

/-- The slot that a boundary opens, with the items R66 lists. -/
theorem slotOpened_openedSlot (hranges : (planAtBoundary s).inRanges)
    (hnumbers : ∀ y ∈ s.matcher.slots, y.number ≠ s.timing.pairNumber)
    (heyes : ∀ e, (s.trig.eyes.get e).waiting = [] ∧
      ∀ p, (s.trig.eyes.get e).lastPulse = some p → since p.start p.stop < since p.start s.timing.timebase) :
    SlotOpened (decide (cause = .leftReturn)) s s.frameNow (boundaryBody cause s) (openedSlot cause s) := by
  obtain ⟨-, htrig, -⟩ := boundaryBody_opened (cause := cause) hnumbers heyes
  refine slotOpened_newSlot (v := forceClosure (stampedBoundary cause s)) forceClosure_stamped_active
    (planAtBoundary_inRanges_offset hranges) (by simp [stampedBoundary])
    (fun e => (forceClosure_stamped_eye e (heyes e).1).1)
    (fun e => by rw [(forceClosure_stamped_eye e (heyes e).1).2]) (fun e => (heyes e).1) ⟨?_, ?_, ?_, htrig⟩
  · simp [boundaryBody, stampedBoundary]
  · simp [boundaryBody, stampedBoundary]
  · simp [boundaryBody, stampedBoundary]

end Boundary

end Sys2Proof.Machine
end

section
/-!
PROOFS. A boundary, whatever brings it and whatever waits (R2, R11, R31, R35 to R37, R40 to R42, R49, R66 to R70, R88,
R141).
-/

namespace Sys2Proof.Machine

/-- An event pending before a growth of the pending sets is pending after it. -/
theorem Grew.holds {s t : State} (h : Grew s t) {l : Link} {k : EventKind}
    (hk : Machine.holds (s.links.get l).events k = true) : Machine.holds (t.links.get l).events k = true := by
  obtain ⟨-, hgrown⟩ := h l
  rw [Machine.holds] at hk ⊢
  rw [← hgrown, BitVec.getLsbD_and, Bool.and_eq_true] at hk
  exact hk.2

/-! ### What moves before a boundary is taken -/

/-- Between `s` and `t` the inputs, the reference state, the lock record and the re-phase may have moved, and events
been posted. -/
def ReferenceMoved (s t : State) : Prop :=
  Grew s t ∧
    t = { s with
          timing :=
            { s.timing with
              inputs := t.timing.inputs, refState := t.timing.refState, lockHeld := t.timing.lockHeld
              rephase := t.timing.rephase }
          links := t.links }

section ReferenceMoved

variable (s : State)

theorem ReferenceMoved.refl : ReferenceMoved s s := ⟨.refl s, rfl⟩

theorem referenceMoved_setRef (v : RefState) : ReferenceMoved s (setRef v s) := by
  refine ⟨grew_setRef v s, ?_⟩
  rw [setRef]
  split <;> rfl

theorem referenceMoved_onInput (r : RefId) (f : RefInput → RefInput) : ReferenceMoved s (onInput r f s) := by
  refine ⟨(posts_onInput s r f).1, ?_⟩
  unfold onInput recomputeRef setRef
  dsimp only
  (repeat' split) <;> rfl

end ReferenceMoved

/-! ### The parts of a boundary -/

section Parts

variable {s : State} {cause : Cause}

/-- The replies of a boundary are the committer's, and then the one to the sender of a timecode set (R36, R88). -/
theorem answerAtBoundary_eq (begun before s : State) :
    answerAtBoundary begun before s =
      answerOwed begun before.tc.owed .ok
        (answerCommit begun before.plan.committer
          (s.plan.generation :: bytesOf 4 before.timing.pairNumber.toNat) s) := by
  unfold answerAtBoundary answerBoundaryCommit answerCommit
  cases before.plan.committer <;> rfl

theorem answerAtBoundary_events (begun before s : State) (l : Link) :
    ((answerAtBoundary begun before s).links.get l).events = (s.links.get l).events := by
  rw [answerAtBoundary_eq, answerOwed_events, answerCommit_events]

theorem answerAtBoundary_frame (begun before s : State) :
    answerAtBoundary begun before s = { s with links := (answerAtBoundary begun before s).links } := by
  apply State.eq_of_fields <;> simp

/-- A boundary's stamp (R88). -/
theorem timecodeStamped_atBoundary (c : TimecodeCounter) : TimecodeStamped c c.atBoundary := by
  refine ⟨fun w hw => ?_, fun hnone hfirst => ?_, fun hnone hfirst => ?_⟩
  · simp [TimecodeCounter.atBoundary, TimecodeCounter.applyWaiting, hw]
  · simp [TimecodeCounter.atBoundary, hnone, hfirst]
  · simp [TimecodeCounter.atBoundary, hnone, hfirst]

/-- What a boundary does to the scan and to the burst under way (R141, R142, R157). -/
theorem scanAtBoundary_boundary (begun : State) : ScanAtBoundary s (boundary begun cause s) := by
  refine ⟨fun hmode => ?_, fun hmode => ?_⟩
  · rw [boundary_lens, boundary_memory, frameScan_of_not_frame s hmode]
    exact ⟨rfl, rfl⟩
  · rw [boundary_lens, boundary_memory, frameScan_of_frame s hmode]
    refine ⟨rfl, fun hscan => by rw [hscan]; rfl, fun hscan => ?_⟩
    rw [if_pos (Option.isSome_iff_ne_none.2 hscan)]
    refine ⟨rfl, fun hport => by rw [RecordMemory.scanAbandoned, hport]; rfl, fun b hport => ⟨fun c lower trim isLive hb => ?_,
      fun hother => ?_⟩⟩
    · simp [RecordMemory.scanAbandoned, hport, Burst.orphan, hb]
    · have horphan : b.orphan = b := by
        unfold Burst.orphan
        split
        · next c i trim isLive hb => exact absurd hb (hother c i trim isLive)
        · rfl
      simp [RecordMemory.scanAbandoned, hport, horphan]

end Parts

/-! ### A boundary taken -/

section Taken

variable {s t : State} {cause : Cause}

theorem boundaryBody_plan : (boundaryBody cause s).plan = (boundaryTiming cause s).plan := by simp [boundaryBody]

theorem boundaryBody_timing : (boundaryBody cause s).timing = (boundaryTiming cause s).timing := by simp [boundaryBody]

theorem boundaryBody_pins : (boundaryBody cause s).pins = s.pins := by simp [boundaryBody]

/-- A change of rate at a boundary puts both inputs back to QUALIFYING (R11). -/
theorem boundary_inputs_of_rate (begun : State) (h : RateCommitWaits s) (r : RefId) :
    (boundary begun cause s).timing.inputs.get r =
      ⟨.qualifying, 0, (s.timing.inputs.get r).lastPulse,
        some (s.timing.timebase + BitVec.ofNat 48 (2 * s.plan.staged.basePeriod))⟩ := by
  obtain ⟨hstage, -⟩ := id h
  rw [boundary_timing, boundaryTiming_timing_of_waiting cause s hstage, settled_inputs]
  change (((s.timing.entered cause).applied s.plan true).inputs).get r = _
  rw [applied_inputs, if_pos ((rateChanges_of_waits hstage).1 h)]
  rfl

theorem boundary_inputs_of_same_rate (begun : State) (h : ¬ RateCommitWaits s) :
    (boundary begun cause s).timing.inputs = s.timing.inputs := by
  rw [boundary_timing]
  by_cases hstage : s.plan.stage = .committing
  · rw [boundaryTiming_timing_of_waiting cause s hstage, settled_inputs]
    exact applied_inputs_of_same_rate true (by simpa using mt (rateChanges_of_waits hstage).2 h)
  · rw [boundaryTiming_of_none cause s hstage]
    rfl

theorem holds_boundary_of_growth (begun : State) {l : Link} {k : EventKind}
    (h : holds ((boundaryTiming cause s).links.get l).events k = true) :
    holds ((boundary begun cause s).links.get l).events k = true := by
  have hrest : Grew (stampTimecode (boundaryTiming cause s)) (boundaryBody cause s) := grew_boundaryRest cause _
  rw [boundary_eq, answerAtBoundary_events]
  exact hrest.holds h

/-- PLAN_APPLIED goes to all links at an application (R36). -/
theorem holds_boundary_planApplied (begun : State) (h : s.plan.stage = .committing) (l : Link) :
    holds ((boundary begun cause s).links.get l).events .planApplied = true := by
  refine holds_boundary_of_growth begun ?_
  rw [boundaryTiming_of_waiting cause s h, holds_settleReference]
  exact .inl ((holds_applyStaged (s := enterBoundary cause s)).2 (.inr rfl))

/-- What a boundary does in the Pair Matcher and the Trigger and Return Unit, for an event that began in `s`. -/
theorem frameSlotOpened_boundary (hmoved : ReferenceMoved s t) (begun : State) :
    FrameSlotOpened (decide (cause = .leftReturn)) s (boundary begun cause t) := by
  obtain ⟨hgrew, hframe⟩ := hmoved
  intro hranges hnumbers heyes
  have hplan : planAtBoundary t = planAtBoundary s := by rw [hframe]; rfl
  have htiming : t.timing.pairNumber = s.timing.pairNumber ∧ t.timing.timebase = s.timing.timebase := by
    rw [hframe]
    exact ⟨rfl, rfl⟩
  have hmatcher : t.matcher = s.matcher := by rw [hframe]
  have htrig : t.trig = s.trig := by rw [hframe]
  have hlens : t.lens = s.lens := by rw [hframe]
  have hnumbers' : ∀ y ∈ t.matcher.slots, y.number ≠ t.timing.pairNumber := by rwa [hmatcher, htiming.1]
  have heyes' : ∀ e, (t.trig.eyes.get e).waiting = [] ∧
      ∀ p, (t.trig.eyes.get e).lastPulse = some p → since p.start p.stop < since p.start t.timing.timebase := by
    rwa [htrig, htiming.2]
  obtain ⟨hbody, -, hlinks⟩ := boundaryBody_opened (cause := cause) hnumbers' heyes'
  have hslot := slotOpened_openedSlot (cause := cause) (by rwa [hplan]) hnumbers' heyes'
  have hstamped : (stampedBoundary cause t).matcher = s.matcher ∧ (stampedBoundary cause t).trig = s.trig := by
    rw [← hmatcher, ← htrig]
    simp [stampedBoundary]
  have hposted : Grew s (stampedBoundary cause t) := hgrew.trans ((grew_boundaryTiming cause t).trans (grew_of_links rfl))
  rw [boundary_eq, answerAtBoundary_frame]
  refine ⟨t.frameNow, openedSlot cause t, ?_, ?_, fun hroom => ?_, fun y ys hslots hlength hopen => ?_⟩
  · exact (congrArg Timing.frame boundaryBody_timing).trans (boundaryTiming_drawn cause t).1
  · unfold SlotOpened at hslot ⊢
    rw [hplan, hlens, htrig] at hslot
    exact hslot
  · refine hbody.trans ?_
    rw [forceClosure_of_room (by rwa [hstamped.1]), hstamped.1]
  · have hclosed : forceClosure (stampedBoundary cause t) = closeSlot y.number (stampedBoundary cause t) :=
      forceClosure_of_full (by rw [hstamped.1, hslots]) hlength
    refine ⟨closeSlot y.number s, closeEffect_head hslots hopen, ?_, fun l k h => ?_⟩
    · refine hbody.trans ?_
      rw [hclosed, (closeSlot_congr hstamped.1 hstamped.2).1]
    · have hkept := holds_closeSlot_mono hstamped.1 hstamped.2 hslots hopen (fun hl => hposted.holds hl) h
      change holds ((answerAtBoundary begun t (boundaryBody cause t)).links.get l).events k = true
      rw [answerAtBoundary_events, hlinks, hclosed]
      exact hkept

/-- A boundary taken in an event that began in `s` (R2). -/
theorem boundaryTaken_boundary (hmoved : ReferenceMoved s t) :
    BoundaryTaken (decide (cause = .leftReturn)) s (boundary s cause t) := by
  obtain ⟨hgrew, hframe⟩ := id hmoved
  have hplan : t.plan = s.plan := by rw [hframe]
  have htc : t.tc = s.tc := by rw [hframe]
  have hrate : RateCommitWaits t ↔ RateCommitWaits s := by rw [RateCommitWaits, RateCommitWaits, hplan]
  have hexternal : ExternalCommitWaits t ↔ ExternalCommitWaits s := by
    rw [ExternalCommitWaits, ExternalCommitWaits, hplan, hrate]
  have htiming : t.timing.frame = s.timing.frame ∧ t.timing.ramp = s.timing.ramp ∧ t.timing.acc = s.timing.acc ∧
      t.timing.timebase = s.timing.timebase ∧ t.timing.pairNumber = s.timing.pairNumber := by
    rw [hframe]
    exact ⟨rfl, rfl, rfl, rfl, rfl⟩
  obtain ⟨hcurrent, hramp, hacc, hbase, hpair⟩ := htiming
  have hanswerable (k : Link) : Answerable k s (boundaryBody cause t) := by
    refine (hgrew.onlyEvents.trans (posts_boundaryBody t cause).1.onlyEvents).answerable ?_ k
    rw [boundaryBody_pins, hframe]
  have hreplies := answerAtBoundary_eq s t (boundaryBody cause t)
  rw [hplan, htc, hpair, boundaryBody_plan] at hreplies
  refine ⟨fun acc ramp hramps hsteps hkept => ?_, fun hstage => ⟨?_, fun k => ?_, fun l heditor howed => ?_⟩,
    fun hwaits r => ?_, fun hstage => ?_, ?_, fun w l hw howed hcommitter => ?_, frameSlotOpened_boundary hmoved s, ?_,
    ?_, ?_⟩
  · have hgenerator : t.generator.acc = acc ∧ t.generator.ramp = ramp := by
      by_cases hwaits : RateCommitWaits s
      · cases hf : s.timing.frame with
        | none =>
          obtain ⟨rfl, rfl⟩ := hsteps (.inl ⟨hwaits, .inl hf⟩)
          exact generator_of_rate_step (hrate.2 hwaits) (.inl (hcurrent.trans hf))
        | some f =>
          by_cases hlen : s.plan.staged.rampLen = 0
          · obtain ⟨rfl, rfl⟩ := hsteps (.inl ⟨hwaits, .inr hlen⟩)
            exact generator_of_rate_step (hrate.2 hwaits) (.inr (by rw [hplan, hlen]))
          · obtain ⟨rfl, rfl⟩ := hramps f hwaits hf (Nat.pos_of_ne_zero hlen)
            have hdrawn := generator_of_rate_ramp (hrate.2 hwaits) (hcurrent.trans hf)
              (by rw [hplan]; exact Nat.pos_of_ne_zero hlen)
            rwa [hplan] at hdrawn
      · by_cases hends : ExternalCommitWaits s ∧ s.timing.ramp ≠ none
        · obtain ⟨rfl, rfl⟩ := hsteps (.inr hends)
          exact generator_of_external (hexternal.2 hends.1) (by rw [hramp]; exact hends.2)
        · obtain ⟨rfl, rfl⟩ := hkept hwaits hends
          rw [generator_of_kept (mt hrate.1 hwaits) (by rwa [hexternal, hramp])]
          exact ⟨hacc, hramp⟩
    have hdrawn := frameDrawn_boundaryTiming cause t
    rw [hgenerator.1, hgenerator.2, hbase, hpair, planAtBoundary, hplan] at hdrawn
    rw [boundary_timing]
    exact hdrawn
  · rw [boundary_plan_eq, boundaryTiming_plan_of_waiting cause t (by rw [hplan, hstage]), hplan]
    rfl
  · exact holds_boundary_planApplied s (by rw [hplan, hstage]) k
  · have hcommitter : s.plan.committer = some l := by rw [PlanUnit.committer, if_pos hstage, heditor]
    have hgeneration : (boundaryTiming cause t).plan.generation = s.plan.generation + 1 := by
      rw [boundaryTiming_plan_of_waiting cause t (by rw [hplan, hstage]), hplan]
      rfl
    rw [boundary_eq, hreplies, hcommitter, hgeneration]
    exact answered_commit (c := id) (fun _ => rfl) (hanswerable l) rfl howed
  · have hinputs := boundary_inputs_of_rate (cause := cause) s (hrate.2 hwaits) r
    rw [hinputs, hbase, hplan]
  · rw [boundary_plan_eq, boundaryTiming_of_none cause t (by rwa [hplan]), hplan]
  · rw [boundary_tc, htc]
    exact timecodeStamped_atBoundary s.tc
  · have hsender : s.tc.owed = some l := by
      rw [TimecodeCounter.owed, hw]
      exact howed
    rw [boundary_eq, hreplies, hsender]
    exact answered_timecode (c := id) (fun _ => ⟨rfl, rfl⟩) (hanswerable l) rfl hcommitter
  · have hscan := scanAtBoundary_boundary (s := t) (cause := cause) s
    unfold ScanAtBoundary at hscan ⊢
    rwa [hbase, show t.lens = s.lens by rw [hframe], show t.memory = s.memory by rw [hframe]] at hscan
  · rw [boundary_frame, hframe]
  · rw [boundary_frame, hframe]

end Taken

end Sys2Proof.Machine
end

section
/-!
PROOFS. The boundary of N (R2, R3, R16, R22, R39, R41 to R46, R49 to R51, R58, R66 to R70, R72, R88, R141, R142).
-/

namespace Sys2Proof.Machine

section Scheduled

variable {s : State} {cause : Cause}

theorem takeBoundary_of_running (h : s.timing.run = .running) (begun : State) :
    takeBoundary begun cause s = boundary begun cause s := if_pos h

theorem takeBoundary_of_not_running (h : s.timing.run ≠ .running) (begun : State) : takeBoundary begun cause s = s :=
  if_neg h

theorem exec_scheduleBoundary_of_due (hpins : s.pins.resetAsserted = false) (hdue : BoundaryDue s) :
    exec .scheduleBoundary s = .next (boundary s .schedule s) := by
  refine (exec_event hpins rfl rfl).trans (congrArg Host.Outcome.next ?_)
  exact (if_pos ((scheduleDue_iff s).2 hdue)).trans (takeBoundary_of_running hdue.1 s)

/-- The timing of a boundary with no commit waiting (R2, R12, R16). -/
theorem boundary_timing_of_none (begun : State) (h : s.plan.stage ≠ .committing) :
    (boundary begun cause s).timing = (s.timing.entered cause).frameBegun s.plan.active := by
  rw [boundary_timing, boundaryTiming_of_none cause s h]

theorem planAtBoundary_of_none (h : s.plan.stage ≠ .committing) : planAtBoundary s = s.plan.active := if_neg h

/-- A boundary with no reply owed moves no link but by its closes. -/
theorem boundary_links_of_none (begun : State) (h : s.plan.stage ≠ .committing) (htc : s.tc.waiting = none) :
    (boundary begun cause s).links = (boundaryBody cause s).links := by
  have howed : s.tc.owed = none := by rw [TimecodeCounter.owed, htc]
  rw [boundary_eq, answerAtBoundary_eq, PlanUnit.committer_of_not_committing h, howed]
  rfl

end Scheduled

/-- Settles O26: the boundary of N draws its frame from the generator as it stands. -/
theorem scheduledBoundaryBeginsAFrame : Obligations.ScheduledBoundaryBeginsAFrame := by
  refine fun s hpins => ⟨fun hdue hstage => ⟨_, exec_scheduleBoundary_of_due hpins hdue, ?_, ?_, ?_, ?_, ?_, ?_,
    scanAtBoundary_boundary s⟩, fun hservice => ?_⟩
  · have hdrawn := frameDrawn_boundaryTiming .schedule s
    rw [← boundary_timing .schedule s s, planAtBoundary_of_none hstage, State.generator, if_neg hstage] at hdrawn
    exact hdrawn
  · rw [boundary_timing_of_none s hstage]
    cases hrephase : s.timing.rephase <;> simp [Timing.frameBegun, Timing.entered, advanceRephase, hrephase]
  · rw [boundary_tc]
    exact timecodeStamped_atBoundary s.tc
  · rw [boundary_plan_eq, boundaryTiming_of_none _ s hstage]
  · rw [boundary_frame]
  · rw [boundary_frame]
  · refine (exec_event hpins rfl rfl).trans (congrArg Host.Outcome.next (if_neg fun hdue => hservice ?_))
    obtain ⟨-, -, hin⟩ := (scheduleDue_iff s).1 hdue
    exact hin

/-- Settles O27: the slot, its triggers and the forced closure of the boundary of N. -/
theorem scheduledBoundaryOpensItsSlot : Obligations.ScheduledBoundaryOpensItsSlot := by
  intro s hpins hdue hstage htc hranges hnumbers heyes
  have hplan := planAtBoundary_of_none hstage
  obtain ⟨hmatcher, -, hlinks⟩ := boundaryBody_opened (cause := .schedule) hnumbers heyes
  have hslot := slotOpened_openedSlot (cause := .schedule) (by rwa [hplan]) hnumbers heyes
  have hstamped : stampedBoundary .schedule s =
      { s with timing := (boundaryTiming .schedule s).timing, tc := s.tc.atBoundary } := by
    rw [stampedBoundary, boundaryTiming_of_none _ s hstage]
    rfl
  have hbody : (boundary s .schedule s).matcher = (boundaryBody .schedule s).matcher := by
    rw [boundary_eq, answerAtBoundary_frame]
  refine ⟨_, s.frameNow, openedSlot .schedule s, exec_scheduleBoundary_of_due hpins hdue, ?_, ?_, ?_, ?_, fun hroom => ⟨?_, ?_⟩,
    fun y ys hslots hlength hopen => ⟨closeSlot y.number s, closeEffect_head hslots hopen, ?_, ?_⟩⟩
  · rw [boundary_timing]
    exact (boundaryTiming_drawn .schedule s).1
  · rw [boundary_eq, answerAtBoundary_frame]
    exact hslot
  · rw [boundary_plan_eq, boundaryTiming_of_none _ s hstage]
  · rw [boundary_timing_of_none s hstage]
    rfl
  · rw [hbody, hmatcher, forceClosure_of_room (by rw [hstamped]; exact hroom), hstamped]
  · rw [boundary_links_of_none s hstage htc, hlinks, forceClosure_of_room (by rw [hstamped]; exact hroom), hstamped]
  · have hclosed : forceClosure (stampedBoundary .schedule s) = closeSlot y.number (stampedBoundary .schedule s) :=
      forceClosure_of_full (by rw [hstamped]; exact hslots) hlength
    rw [hbody, hmatcher, hclosed, (closeSlot_congr (s := s) (by rw [hstamped]) (by rw [hstamped])).1]
  · have hclosed : forceClosure (stampedBoundary .schedule s) = closeSlot y.number (stampedBoundary .schedule s) :=
      forceClosure_of_full (by rw [hstamped]; exact hslots) hlength
    rw [boundary_links_of_none s hstage htc, hlinks, hclosed,
      closeSlot_links_congr (s := s) (by rw [hstamped]) (by rw [hstamped])]

end Sys2Proof.Machine
end

section
/-!
PROOFS. What waits for a boundary or for STOPPED: a commit (R31, R35 to R37) and a timecode set (R88, R91, R92).
-/

namespace Sys2Proof.Machine

/-! ### The events that may bring a boundary -/

/-- Between `s` and `t` one boundary was taken, with this cause or another, or none was, and the pair counter and the
timecode stand. -/
inductive MayTakeBoundary (byLeft : Bool) (s t : State) : Prop
  | taken (cause : Cause) (u : State) (hcause : decide (cause = .leftReturn) = byLeft) (hmoved : ReferenceMoved s u)
      (ht : t = boundary s cause u)
  | none (hpair : t.timing.pairNumber = s.timing.pairNumber) (htc : t.tc = s.tc)

namespace MayTakeBoundary

variable {byLeft : Bool} {s t u : State}

theorem of_moved (h : ReferenceMoved s u) : MayTakeBoundary byLeft s u := by
  obtain ⟨-, hframe⟩ := h
  exact .none (by rw [hframe]) (by rw [hframe])

theorem takeBoundary (h : ReferenceMoved s u) {cause : Cause} (hcause : decide (cause = .leftReturn) = byLeft) :
    MayTakeBoundary byLeft s (takeBoundary s cause u) := by
  unfold Machine.takeBoundary
  split
  · exact .taken cause u hcause h rfl
  · exact .of_moved h

theorem boundaryAfterChange (h : ReferenceMoved s u) : MayTakeBoundary false s (boundaryAfterChange s u) := by
  unfold Machine.boundaryAfterChange
  split
  · exact .takeBoundary h rfl
  · exact .of_moved h

theorem refPulse (r : RefId) (s : State) : MayTakeBoundary false s (refPulse r s) := by
  have hmoved := referenceMoved_onInput s r (RefInput.pulse s.plan.active.basePeriod s.now)
  unfold Machine.refPulse pulseBoundary
  dsimp only
  split
  · split
    · exact .of_moved hmoved
    · exact .takeBoundary hmoved rfl
  · exact .boundaryAfterChange hmoved

theorem routeReturn (s : State) : MayTakeBoundary true s (routeReturn .left s) := by
  unfold Machine.routeReturn
  split
  · exact .of_moved (.refl s)
  · unfold leftReturn
    split
    · exact .takeBoundary (referenceMoved_setRef s _) rfl
    · exact .none rfl rfl
  · split
    · exact .none rfl rfl
    · exact .none (by rw [assignReturn_timing]) (assignReturn_tc s .left)

/-- The events that may bring a boundary besides N take one, or none (R15 to R19). -/
theorem event {c : Instr} (hc : c ∈ [.refPulse .a, .refPulse .b, .returnEdge .left, .leftReturnLapse,
      .refAbsenceExpiry .a, .refAbsenceExpiry .b]) (s : State) :
    MayTakeBoundary (decide (c = .returnEdge .left)) s (eventEffect c s) := by
  have hexpire (r : RefId) : MayTakeBoundary false s (if absenceDue r s then expireInput r s else s) := by
    split
    · exact .boundaryAfterChange (referenceMoved_onInput s r _)
    · exact .of_moved (.refl s)
  simp only [List.mem_cons, List.not_mem_nil, or_false] at hc
  rcases hc with rfl | rfl | rfl | rfl | rfl | rfl
  · exact .refPulse .a s
  · exact .refPulse .b s
  · exact .routeReturn s
  · change MayTakeBoundary false s (if leftLapseDue s then lapseLeft s else s)
    split
    · exact .takeBoundary (referenceMoved_setRef s _) rfl
    · exact .of_moved (.refl s)
  · exact hexpire .a
  · exact hexpire .b

/-- The pair counter tells that a boundary was taken. -/
theorem boundaryTaken (h : MayTakeBoundary byLeft s t) (hpair : t.timing.pairNumber ≠ s.timing.pairNumber) :
    BoundaryTaken byLeft s t := by
  rcases h with ⟨cause, u, rfl, hmoved, rfl⟩ | ⟨hsame, -⟩
  · exact boundaryTaken_boundary hmoved
  · exact absurd hsame hpair

theorem tc_of_same (h : MayTakeBoundary byLeft s t) (hpair : t.timing.pairNumber = s.timing.pairNumber) : t.tc = s.tc := by
  rcases h with ⟨cause, u, rfl, ⟨-, hframe⟩, rfl⟩ | ⟨-, htc⟩
  · rw [boundary_timing, (boundaryTiming_drawn cause u).2.2.1, hframe] at hpair
    simp at hpair
  · exact htc

end MayTakeBoundary

/-- Those events are rows of the part's own. -/
theorem exec_boundaryEvent {c : Instr} {s : State} (hpins : s.pins.resetAsserted = false)
    (hc : c ∈ [.refPulse .a, .refPulse .b, .returnEdge .left, .leftReturnLapse, .refAbsenceExpiry .a,
      .refAbsenceExpiry .b]) : exec c s = .next (eventEffect c s) := by
  simp only [List.mem_cons, List.not_mem_nil, or_false] at hc
  rcases hc with rfl | rfl | rfl | rfl | rfl | rfl <;> exact exec_event hpins rfl rfl

/-! ### The event at which what waits ends (log 17) -/

section Settle

variable {s : State}

theorem settleWaiting_of_due (h : BoundaryDue s) : settleWaiting s = boundary s .schedule s := by
  rw [settleWaiting, h.1]
  exact (if_pos ((scheduleDue_iff s).2 h)).trans (takeBoundary_of_running h.1 s)

theorem settleWaiting_of_not_due (hrun : s.timing.run = .running) (h : ¬ BoundaryDue s) : settleWaiting s = s := by
  rw [settleWaiting, hrun]
  exact if_neg (mt (scheduleDue_iff s).1 h)

theorem settleWaiting_of_drained (hrun : s.timing.run = .draining) (hslots : s.matcher.slots = [])
    (hqueue : s.matcher.queue = []) : settleWaiting s = reachStopped s s := by
  rw [settleWaiting, hrun]
  exact stopIfDrained_of_drained hrun hslots hqueue

theorem exec_planApply (hpins : s.pins.resetAsserted = false) (hstage : s.plan.stage = .committing) :
    exec .planApply s = .next (settleWaiting s) :=
  (exec_event hpins rfl rfl).trans (congrArg Host.Outcome.next (if_pos hstage))

theorem exec_timecodePendingApply {w : PendingTimecode} (hpins : s.pins.resetAsserted = false)
    (hw : s.tc.waiting = some w) : exec .timecodePendingApply s = .next (settleWaiting s) :=
  (exec_event hpins rfl rfl).trans (congrArg Host.Outcome.next (if_pos (by rw [hw]; rfl)))

end Settle

/-! ### The replies at STOPPED (R36, R92) -/

section Stopped

variable (s : State) {l : Link}

theorem answerable_settledStopped (l : Link) : Answerable l s (settledStopped s) :=
  (grew_settledStopped s).onlyEvents.answerable (settledStopped_pins s) l

theorem answered_reachStopped_commit (hcommitter : s.plan.committer = some l) (howed : s.tc.owed ≠ some l) :
    Answered l .ok (commitReport s) s (reachStopped s s) := by
  rw [reachStopped_eq, hcommitter]
  exact answered_commit (c := fun v => { v with tc := s.tc.applyWaiting }) (fun _ => rfl)
    (answerable_settledStopped s l) rfl howed

theorem answered_reachStopped_timecode (howed : s.tc.owed = some l) (hcommitter : s.plan.committer ≠ some l) :
    Answered l .ok [] s (reachStopped s s) := by
  rw [reachStopped_eq, howed]
  exact answered_timecode (c := fun v => { v with tc := s.tc.applyWaiting }) (fun _ => ⟨rfl, rfl⟩)
    (answerable_settledStopped s l) rfl hcommitter

theorem stoppedReached_self : StoppedReached s (reachStopped s s) :=
  stoppedReached_reachStopped (onlyEvents_of_links rfl) rfl fun _ => rfl

end Stopped

/-- Settles O28: every event that takes a boundary takes it by `boundary`, and the reaching of STOPPED applies the
commit too. -/
theorem waitingCommitIsAppliedAtBoundaryOrStopped : Obligations.WaitingCommitIsAppliedAtBoundaryOrStopped := by
  refine fun l s hpins hstage heditor => ⟨fun hdue => ⟨boundary s .schedule s, ?_,
    exec_scheduleBoundary_of_due hpins hdue, boundaryTaken_boundary (.refl s), fun href => href.boundary s .schedule,
    fun hrate r => ?_, fun hrate => boundary_inputs_of_same_rate s hrate⟩, fun c t hc hexec hpair => ?_,
    fun howed hrun hslots hqueue => ⟨reachStopped s s, ?_, exec_reachStopped hpins hrun hslots hqueue, ?_⟩⟩
  · rw [exec_planApply hpins hstage, settleWaiting_of_due hdue]
  · rw [boundary_inputs_of_rate s hrate]
  · obtain rfl : eventEffect c s = t := Host.Outcome.next.inj ((exec_boundaryEvent hpins hc).symm.trans hexec)
    exact ⟨(MayTakeBoundary.event hc s).boundaryTaken hpair,
      keptApartFromLinks_referenceInv.toKeptByRuns.toKeptByEvents.event c⟩
  · rw [exec_planApply hpins hstage, settleWaiting_of_drained hrun hslots hqueue]
  · have hreached := stoppedReached_self s
    obtain ⟨htiming, -, -, href, -, -, happlied, -⟩ := id hreached
    obtain ⟨hplan, hposted, -⟩ := happlied hstage
    have hcommitter : s.plan.committer = some l := by rw [PlanUnit.committer, if_pos hstage, heditor]
    exact ⟨by rw [htiming], hplan, href, answered_reachStopped_commit s hcommitter howed, hposted, hreached⟩

/-- Settles O29: the stamp of a boundary and the reaching of STOPPED make the pending set current. -/
theorem pendingTimecodeIsAppliedAtBoundaryOrStopped : Obligations.PendingTimecodeIsAppliedAtBoundaryOrStopped := by
  intro w s hpins hw
  have hset {byLeft : Bool} {t : State} (htaken : BoundaryTaken byLeft s t) :
      t.tc = ⟨w.value, w.base, w.drop, none, false⟩ ∧
        ∀ l, w.owed = some l → s.plan.committer ≠ some l → Answered l .ok [] s t := by
    obtain ⟨-, -, -, -, hstamped, hanswered, -⟩ := htaken
    exact ⟨hstamped.1 w hw, fun l => hanswered w l hw⟩
  refine ⟨fun hdue => ⟨boundary s .schedule s, ?_, exec_scheduleBoundary_of_due hpins hdue,
    hset (boundaryTaken_boundary (.refl s))⟩, fun c t hc hexec => ?_,
    fun hrun hslots hqueue => ⟨reachStopped s s, ?_, exec_reachStopped hpins hrun hslots hqueue, ?_⟩,
    fun hrun hnot => ?_⟩
  · rw [exec_timecodePendingApply hpins hw, settleWaiting_of_due hdue]
  · obtain rfl : eventEffect c s = t := Host.Outcome.next.inj ((exec_boundaryEvent hpins hc).symm.trans hexec)
    have hmay := MayTakeBoundary.event hc s
    exact ⟨fun hpair => hset (hmay.boundaryTaken hpair), hmay.tc_of_same⟩
  · rw [exec_timecodePendingApply hpins hw, settleWaiting_of_drained hrun hslots hqueue]
  · have hreached := stoppedReached_self s
    obtain ⟨htiming, -, -, -, -, -, -, -, htimecode, -⟩ := id hreached
    obtain ⟨htc, -⟩ := htimecode w hw
    refine ⟨by rw [htiming], htc, fun l howed hcommitter => answered_reachStopped_timecode s ?_ hcommitter, hreached⟩
    rw [TimecodeCounter.owed, hw]
    exact howed
  · rw [exec_timecodePendingApply hpins hw, settleWaiting_of_not_due hrun fun hdue => hnot hdue.2]

end Sys2Proof.Machine
end

section
/-!
PROOFS. The return edges (R18, R19, R50, R56, R62, R63, R67, R74).
-/

namespace Sys2Proof.Machine

section Boundary

variable {s : State} {cause : Cause}

/-- What is pending when a boundary is taken stays pending. -/
theorem holds_boundary_mono (begun : State) {l : Link} {k : EventKind} (h : holds (s.links.get l).events k = true) :
    holds ((boundary begun cause s).links.get l).events k = true :=
  holds_boundary_of_growth begun ((grew_boundaryTiming cause s).holds h)

theorem boundary_matcher (begun : State) : (boundary begun cause s).matcher = (boundaryBody cause s).matcher := by
  rw [boundary_eq, answerAtBoundary_frame]

/-- The slot that a left return opens has its trigger and return times from the return (R50, R67). -/
theorem openedSlot_leftReturn (s : State) :
    (openedSlot .leftReturn s).number = s.timing.pairNumber ∧ (openedSlot .leftReturn s).start = s.timing.timebase ∧
      (openedSlot .leftReturn s).status = .collecting ∧
      (openedSlot .leftReturn s).trigger.left = some s.timing.timebase ∧
      (openedSlot .leftReturn s).returned = ⟨some s.timing.timebase, none⟩ ∧
      (openedSlot .leftReturn s).isPending .left = false ∧
      (openedSlot .leftReturn s).refState = (boundaryTiming .leftReturn s).timing.refState := by
  have htrigger : (openedSlot .leftReturn s).trigger.get .left = some s.timing.timebase := by
    rw [openedSlot, (atBoundary_eye _).2.1, newSlot_trigger]
    rfl
  have hpending : (openedSlot .leftReturn s).isPending .left = false := by
    rw [Slot.isPending, htrigger]
    exact Bool.and_false _
  refine ⟨?_, ?_, ?_, htrigger, ?_, hpending, ?_⟩
  all_goals rw [openedSlot, atBoundary_frame]
  · rfl
  · rfl
  · rfl
  · rfl
  · rw [← forceClosure_stamped_timing]
    rfl

/-- A boundary in an empty table leaves its slot alone in it. -/
theorem boundary_slots_of_empty (begun : State) (hslots : s.matcher.slots = [])
    (heyes : ∀ e, s.trig.eyes.get e = ⟨false, none, []⟩) :
    (boundary begun cause s).matcher.slots = [openedSlot cause s] := by
  have hstamped : (stampedBoundary cause s).matcher.slots = [] := by rw [← hslots]; simp [stampedBoundary]
  obtain ⟨hmatcher, -⟩ := boundaryBody_opened (s := s) (cause := cause) (by rw [hslots]; exact fun y hy => (nomatch hy))
    (fun e => by rw [heyes e]; exact ⟨rfl, fun p hp => (nomatch hp)⟩)
  rw [boundary_matcher, hmatcher, forceClosure_of_room (by rw [hstamped]; decide), hstamped]
  rfl

end Boundary

/-! ### Routing (R56) -/

section Route

variable {s : State} {e : Eye}

theorem routeReturn_of_loop (h : s.plan.active.refMode = .loop) : routeReturn e s = s := by
  unfold routeReturn
  rw [h]

theorem routeReturn_of_followLeft (h : s.plan.active.refMode = .followLeft) : routeReturn .left s = leftReturn s := by
  unfold routeReturn
  rw [h]

theorem routeReturn_of_other (hloop : s.plan.active.refMode ≠ .loop)
    (h : ¬ (s.plan.active.refMode = .followLeft ∧ e = .left)) :
    routeReturn e s = if s.timing.run = .stopped then strayReturn e s else assignReturn e s := by
  unfold routeReturn
  split
  · next hmode => exact absurd hmode hloop
  · next hmode => exact absurd ⟨hmode, rfl⟩ h
  · rfl

theorem leftReturn_of_stray (h : ¬ (s.timing.run = .running ∧ halfPeriodTest s = true)) :
    leftReturn s = strayReturn .left s := if_neg h

theorem leftReturn_of_boundary (hrun : s.timing.run = .running) (h : halfPeriodTest s = true) :
    leftReturn s = boundary s .leftReturn (setRef .lockedL s) := by
  rw [leftReturn, if_pos ⟨hrun, h⟩]
  exact takeBoundary_of_running (by rw [setRef_timing, toRef_run, hrun]) s

theorem halfPeriodTest_of_late (h : ∀ f, s.timing.frame = some f → f.period ≤ 2 * since f.start s.timing.timebase) :
    halfPeriodTest s = true := by
  unfold halfPeriodTest
  split
  · rfl
  · next f hf => exact decide_eq_true (h f hf)

theorem halfPeriodTest_of_early {f : Frame} (hf : s.timing.frame = some f)
    (h : 2 * since f.start s.timing.timebase < f.period) : halfPeriodTest s = false := by
  rw [halfPeriodTest, hf]
  exact decide_eq_false (Nat.not_le.2 h)

end Route

/-- Settles O32: the mode, the run state and the half-period test route a return. -/
theorem returnEdgesAreRoutedByMode : Obligations.ReturnEdgesAreRoutedByMode := by
  refine fun e s hpins => ⟨routeReturn e s, exec_event hpins rfl rfl, routeReturn_of_loop, fun hloop hrun => ?_,
    fun hloop hrun hother => ?_, fun hmode he hrun => ?_, fun hmode he hrun => ⟨fun f hf hearly => ?_, fun hlate => ?_⟩⟩
  · by_cases hleft : s.plan.active.refMode = .followLeft ∧ e = .left
    · obtain ⟨hmode, rfl⟩ := hleft
      rw [routeReturn_of_followLeft hmode, leftReturn_of_stray (by rw [hrun]; exact fun h => nomatch h.1)]
      exact strayEffect_strayReturn .left s
    · rw [routeReturn_of_other hloop hleft, if_pos hrun]
      exact strayEffect_strayReturn e s
  · rw [routeReturn_of_other hloop hother, if_neg hrun]
    exact returnEffect_assignReturn e s
  · subst he
    rw [routeReturn_of_followLeft hmode, leftReturn_of_stray (by rw [hrun]; exact fun h => nomatch h.1)]
    exact strayEffect_strayReturn .left s
  · subst he
    rw [routeReturn_of_followLeft hmode,
      leftReturn_of_stray (by rw [halfPeriodTest_of_early hf hearly]; exact fun h => nomatch h.2)]
    exact strayEffect_strayReturn .left s
  · subst he
    rw [routeReturn_of_followLeft hmode, leftReturn_of_boundary hrun (halfPeriodTest_of_late hlate)]
    obtain ⟨-, hframe⟩ := referenceMoved_setRef s .lockedL
    refine ⟨boundaryTaken_boundary (referenceMoved_setRef s .lockedL), fun hstage => ?_, fun href l => ?_,
      fun hslots heyes => ⟨openedSlot .leftReturn (setRef .lockedL s), ?_, ?_⟩⟩
    · have hstage' : (setRef .lockedL s).plan.stage ≠ .committing := by rwa [setRef_plan]
      have href : (setRef .lockedL s).timing.refState = .lockedL := by rw [setRef_timing, toRef_refState]
      rw [boundary_timing_of_none s hstage']
      refine ⟨href, ?_⟩
      change ((setRef .lockedL s).timing.lockHeld || (setRef .lockedL s).timing.refState.isLocked) = true
      rw [href]
      exact Bool.or_true _
    · exact holds_boundary_mono s (holds_setRef.2 (.inr ⟨rfl, href.symm⟩))
    · refine boundary_slots_of_empty s ?_ ?_ <;> rw [hframe]
      · exact hslots
      · exact heyes
    · have hopened := openedSlot_leftReturn (setRef .lockedL s)
      rw [show (setRef .lockedL s).timing.pairNumber = s.timing.pairNumber by rw [hframe],
        show (setRef .lockedL s).timing.timebase = s.timing.timebase by rw [hframe]] at hopened
      rw [boundary_timing]
      exact hopened

end Sys2Proof.Machine
end

section
/-!
PROOFS. The moves of the reference state (R3, R4, R12 to R14, R16, R17) and the two lapses of a boundary source (R11, R18,
R19).
-/

namespace Sys2Proof.Machine

/-- The state with other reference inputs. -/
def State.withInputs (s : State) (inputs : PerRef RefInput) : State :=
  { s with timing := { s.timing with inputs := inputs } }

/-! ### A change of an input (R12, R14) -/

section Inputs

variable {s : State} {r : RefId} {f : RefInput → RefInput} {inputs : PerRef RefInput}

theorem referenceMoved_withInputs (s : State) (inputs : PerRef RefInput) : ReferenceMoved s (s.withInputs inputs) :=
  ⟨grew_of_links rfl, rfl⟩

theorem referenceMoved_setRef_withInputs (s : State) (inputs : PerRef RefInput) (v : RefState) :
    ReferenceMoved s (setRef v (s.withInputs inputs)) := by
  obtain ⟨hgrew, hframe⟩ := referenceMoved_setRef (s.withInputs inputs) v
  refine ⟨(grew_of_links rfl).trans hgrew, ?_⟩
  generalize setRef v (s.withInputs inputs) = t at hframe ⊢
  exact hframe

theorem onInput_of_same (h : (f (s.timing.inputs.get r)).state = (s.timing.inputs.get r).state) :
    onInput r f s = s.withInputs (s.timing.inputs.set r (f (s.timing.inputs.get r))) := if_pos h

theorem onInput_of_change (h : (f (s.timing.inputs.get r)).state ≠ (s.timing.inputs.get r).state) :
    onInput r f s =
      setRef
        ((s.withInputs (s.timing.inputs.set r (f (s.timing.inputs.get r)))).timing.formedRef s.plan.active.refMode)
        (s.withInputs (s.timing.inputs.set r (f (s.timing.inputs.get r)))) := if_neg h

theorem onInput_inputs (r : RefId) (f : RefInput → RefInput) (s : State) :
    (onInput r f s).timing.inputs = s.timing.inputs.set r (f (s.timing.inputs.get r)) := by
  rw [onInput_timing]
  split
  · rfl
  · rw [toRef_inputs]

/-- A change of an input that leaves the value of the reference state leaves the state (R12). -/
theorem onInput_of_same_value
    (h : (s.withInputs (s.timing.inputs.set r (f (s.timing.inputs.get r)))).timing.formedRef s.plan.active.refMode =
      s.timing.refState) :
    onInput r f s = s.withInputs (s.timing.inputs.set r (f (s.timing.inputs.get r))) := by
  by_cases hstate : (f (s.timing.inputs.get r)).state = (s.timing.inputs.get r).state
  · exact onInput_of_same hstate
  · rw [onInput_of_change hstate]
    exact setRef_of_eq _ _ h

/-- The inputs matter under EXTERNAL alone. -/
theorem formedRef_withInputs_of_not_external {m : RefMode} (h : m ≠ .external) :
    (s.withInputs inputs).timing.formedRef m = s.timing.formedRef m := by
  cases m with
  | external => exact absurd rfl h
  | _ => rfl

theorem selected_of_a {t : Timing} (h : t.inputs.a.state = .good) : t.selected = some .a := if_pos h

theorem selected_of_b {t : Timing} (ha : t.inputs.a.state ≠ .good) (hb : t.inputs.b.state = .good) :
    t.selected = some .b := by
  rw [Timing.selected, if_neg ha, if_pos hb]

theorem selected_of_none {t : Timing} (h : ∀ q, (t.inputs.get q).state ≠ .good) : t.selected = none := by
  have ha : t.inputs.a.state ≠ .good := h .a
  have hb : t.inputs.b.state ≠ .good := h .b
  rw [Timing.selected, if_neg ha, if_neg hb]

/-- An input that is not GOOD has no part in the selection (R14). -/
theorem selected_of_not_good {t t' : Timing} {r : RefId} (h : (t.inputs.get r).state ≠ .good)
    (h' : (t'.inputs.get r).state ≠ .good) (hother : ∀ q, q ≠ r → t'.inputs.get q = t.inputs.get q) :
    t'.selected = t.selected := by
  cases r with
  | a =>
    have ha : t.inputs.a.state ≠ .good := h
    have ha' : t'.inputs.a.state ≠ .good := h'
    have hb : t'.inputs.b = t.inputs.b := hother .b (by decide)
    rw [Timing.selected, Timing.selected, if_neg ha, if_neg ha', hb]
  | b =>
    have hb : t.inputs.b.state ≠ .good := h
    have hb' : t'.inputs.b.state ≠ .good := h'
    have ha : t'.inputs.a = t.inputs.a := hother .a (by decide)
    rw [Timing.selected, Timing.selected, if_neg hb, if_neg hb', ha]

/-- The selected input is GOOD, and A comes first (R14). -/
theorem selected_of_good {t : Timing} {q : RefId} (h : (t.inputs.get q).state = .good)
    (hother : q = .b → (t.inputs.get .a).state ≠ .good) : t.selected = some q := by
  cases q with
  | a => exact selected_of_a h
  | b => exact selected_of_b (hother rfl) h

/-- Under EXTERNAL the reference state is LOCKED_A while A is GOOD alone (R12, R14). -/
theorem good_of_lockedA (h : ReferenceInv s) (hmode : s.plan.active.refMode = .external)
    (href : s.timing.refState = .lockedA) : s.timing.inputs.a.state = .good := by
  unfold ReferenceInv at h
  rw [hmode, href] at h
  dsimp only at h
  by_contra ha
  rw [if_neg ha] at h
  split at h
  · cases h
  · split at h <;> cases h

/-- A change of an input that was not GOOD and is not, or of B under a lock on A, moves the input alone (R12, R14). -/
theorem onInput_of_unselected (h : ReferenceInv s)
    (hcase : s.plan.active.refMode ≠ .external ∨
      ((f (s.timing.inputs.get r)).state ≠ .good ∧ (s.timing.inputs.get r).state ≠ .good) ∨
      (s.timing.refState = .lockedA ∧ r = .b)) :
    onInput r f s = s.withInputs (s.timing.inputs.set r (f (s.timing.inputs.get r))) := by
  have hformed := ((referenceInv_iff s).1 h).1
  refine onInput_of_same_value ?_
  by_cases hmode : s.plan.active.refMode = .external
  · rw [hmode] at hformed ⊢
    have hselected : (s.withInputs (s.timing.inputs.set r (f (s.timing.inputs.get r)))).timing.selected =
        s.timing.selected := by
      rcases hcase.resolve_left (not_not.2 hmode) with ⟨hnew, hold⟩ | ⟨href, rfl⟩
      · refine selected_of_not_good hold ?_ fun q hq => PerRef.get_set_ne _ _ hq
        change ((s.timing.inputs.set r (f (s.timing.inputs.get r))).get r).state ≠ .good
        rwa [PerRef.get_set_self]
      · have ha := good_of_lockedA h hmode href
        have ha' : (s.withInputs (s.timing.inputs.set .b (f (s.timing.inputs.get .b)))).timing.selected = some .a :=
          selected_of_a ha
        rw [ha', selected_of_a ha]
    rw [hformed]
    exact Timing.formedRef_of_same rfl rfl hselected rfl
  · rw [formedRef_withInputs_of_not_external hmode, ← hformed]

end Inputs

/-! ### What follows a change of the reference state (R3, R4, R16) -/

section AfterChange

variable {s u : State}

theorem boundaryAfterChange_of_same (h : u.timing.refState = s.timing.refState) : boundaryAfterChange s u = u :=
  if_neg fun hchange => hchange.1 h

theorem boundaryAfterChange_of_not_owed (h : boundaryOwed u = false) : boundaryAfterChange s u = u :=
  if_neg fun hchange => by simp [h] at hchange

theorem boundaryAfterChange_of_out_of_service (h : ¬ InService u) : boundaryAfterChange s u = u :=
  if_neg fun hchange => h ((scheduleInService_iff u).1 hchange.2.1)

theorem boundaryAfterChange_of_owed (hrun : u.timing.run = .running) (hchange : u.timing.refState ≠ s.timing.refState)
    (hservice : InService u) (howed : boundaryOwed u = true) : boundaryAfterChange s u = boundary s .schedule u := by
  rw [boundaryAfterChange, if_pos ⟨hchange, (scheduleInService_iff u).2 hservice, howed⟩]
  exact takeBoundary_of_running hrun s

theorem boundaryOwed_of_no_frame (h : u.timing.frame = none) : boundaryOwed u = true := by
  rw [boundaryOwed, h]

theorem boundaryOwed_iff {f : Frame} {n : Time} (hf : u.timing.frame = some f) (hn : u.timing.next = some n) :
    boundaryOwed u = decide (since f.start n ≤ since f.start u.timing.timebase) := by
  rw [boundaryOwed, hf, hn]

/-- REF_CHANGE, once posted, is pending whether a boundary follows or not. -/
theorem holds_boundaryAfterChange {l : Link} {k : EventKind} (h : holds (u.links.get l).events k = true) :
    holds ((boundaryAfterChange s u).links.get l).events k = true := by
  unfold boundaryAfterChange takeBoundary
  split
  · split
    · exact holds_boundary_mono s h
    · exact h
  · exact h

end AfterChange

/-! ### The lock and the schedule (R12, R14, R16, R17) -/

section Moves

variable {s : State} {v : RefState} {inputs : PerRef RefInput}

theorem isLocked_lockedTo (q : RefId) : (lockedTo q).isLocked = true := by cases q <;> rfl

/-- REF_CHANGE goes to all links with the move. -/
theorem postedAll_setRef (h : v ≠ s.timing.refState) : PostedAll .refChange s (setRef v (s.withInputs inputs)) := by
  intro l
  rw [setRef_of_ne v (s.withInputs inputs) h, postAll_get]
  rfl

theorem setRef_withInputs (h : v ≠ s.timing.refState) :
    setRef v (s.withInputs inputs) =
      { s with
        timing :=
          { s.timing with
            inputs := inputs, refState := v
            lockHeld := s.timing.lockHeld || (v.isLocked && s.timing.run != .stopped && s.timing.frame.isSome)
            rephase :=
              if (v == .lockedA || v == .lockedB) && s.timing.run == .running && s.timing.frame.isSome then some .first
              else none }
        links := (setRef v (s.withInputs inputs)).links } := by
  have hne : ¬ v = (s.withInputs inputs).timing.refState := h
  rw [setRef, if_neg hne]
  rfl

/-- A lock on input `q` in RUNNING (R4, R12, R16). -/
theorem movedToLock_boundaryAfterChange {q : RefId} (hrun : s.timing.run = .running)
    (hchange : lockedTo q ≠ s.timing.refState) :
    MovedToLock q s (boundaryAfterChange s (setRef (lockedTo q) (s.withInputs inputs))) := by
  have hu := setRef_withInputs (inputs := inputs) hchange
  have hposted := postedAll_setRef (inputs := inputs) hchange
  obtain ⟨hgrew, -⟩ := id (referenceMoved_setRef_withInputs s inputs (lockedTo q))
  have hmoved := referenceMoved_setRef_withInputs s inputs (lockedTo q)
  have hlock : ((lockedTo q) == .lockedA || (lockedTo q) == .lockedB) = true := by cases q <;> rfl
  have hphase : (s.timing.run == .running) = true := by rw [hrun]; rfl
  have hstopped : (s.timing.run != .stopped) = true := by rw [hrun]; rfl
  rw [hlock, hphase, isLocked_lockedTo, hstopped] at hu
  have hrefChange (l : Link) : holds ((setRef (lockedTo q) (s.withInputs inputs)).links.get l).events .refChange = true := by
    rw [hposted l, holds_or_mask]
    exact .inr rfl
  generalize setRef (lockedTo q) (s.withInputs inputs) = u at hu hposted hgrew hmoved hrefChange ⊢
  refine ⟨fun l => holds_boundaryAfterChange (hrefChange l), fun f n hf hn => ?_, fun hf => ?_⟩
  · have hsome : s.timing.frame.isSome = true := by rw [hf]; rfl
    simp only [hsome, Bool.and_true, Bool.or_true, if_true] at hu
    have howed := boundaryOwed_iff (u := u) (f := f) (n := n) (by rw [hu]; exact hf) (by rw [hu]; exact hn)
    have hbase : u.timing.timebase = s.timing.timebase := by rw [hu]
    rw [hbase] at howed
    refine ⟨fun hlate => ?_, fun hpast => ?_⟩
    · rw [boundaryAfterChange_of_not_owed (by rw [howed]; exact decide_eq_false (Nat.not_le.2 hlate))]
      refine ⟨hgrew.onlyEvents, hposted, ?_⟩
      rw [hu]
    · have href : u.timing.refState = lockedTo q := by rw [hu]
      have hrephase : u.timing.rephase = some .first := by rw [hu]
      have hservice : InService u := by
        refine .inr (.inr (.inr (.inr ⟨?_, hrephase⟩)))
        rw [href]
        cases q
        · exact .inl rfl
        · exact .inr rfl
      rw [boundaryAfterChange_of_owed (by rw [hu]; exact hrun) (by rw [href]; exact hchange) hservice
        (by rw [howed]; exact decide_eq_true hpast)]
      refine ⟨boundaryTaken_boundary hmoved, fun hstage => ?_⟩
      rw [boundary_timing_of_none s (by rw [hu]; exact hstage)]
      refine ⟨href, ?_, ?_⟩
      · change (u.timing.lockHeld || u.timing.refState.isLocked) = true
        rw [href, isLocked_lockedTo, Bool.or_true]
      · change advanceRephase .schedule u.timing.rephase = _
        rw [hrephase]
        rfl
  · have hnone : s.timing.frame.isSome = false := by rw [hf]; rfl
    simp only [hnone, Bool.and_false, Bool.or_false, Bool.false_eq_true, if_false] at hu
    have hservice : ¬ InService u := by
      rw [InService, hu]
      cases q <;> simp [lockedTo]
    rw [boundaryAfterChange_of_out_of_service hservice]
    refine ⟨hgrew.onlyEvents, hposted, ?_⟩
    rw [hu]

/-- A lock lost in RUNNING (R3, R4, R12, R14, R17). -/
theorem movedToSchedule_boundaryAfterChange (hrun : s.timing.run = .running) (hmode : s.plan.active.refMode = .external)
    (hv : v = if s.timing.lockHeld then .holdover else .seeking) (hchange : v ≠ s.timing.refState) :
    MovedToSchedule s (boundaryAfterChange s (setRef v (s.withInputs inputs))) := by
  have hu := setRef_withInputs (inputs := inputs) hchange
  have hposted := postedAll_setRef (inputs := inputs) hchange
  obtain ⟨hgrew, -⟩ := id (referenceMoved_setRef_withInputs s inputs v)
  have hmoved := referenceMoved_setRef_withInputs s inputs v
  have hunlocked : v.isLocked = false ∧ (v == .lockedA || v == .lockedB) = false := by
    rw [hv]
    split <;> exact ⟨rfl, rfl⟩
  rw [hunlocked.1, hunlocked.2] at hu
  simp only [Bool.false_and, Bool.or_false, Bool.false_eq_true, if_false] at hu
  have hrefChange (l : Link) : holds ((setRef v (s.withInputs inputs)).links.get l).events .refChange = true := by
    rw [hposted l, holds_or_mask]
    exact .inr rfl
  generalize setRef v (s.withInputs inputs) = u at hu hposted hgrew hmoved hrefChange ⊢
  have href : u.timing.refState = v := by rw [hu]
  have hbase : u.timing.timebase = s.timing.timebase := by rw [hu]
  have howed {f : Frame} {n : Time} (hf : s.timing.frame = some f) (hn : s.timing.next = some n) :
      boundaryOwed u = decide (since f.start n ≤ since f.start s.timing.timebase) := by
    rw [← hbase]
    exact boundaryOwed_iff (by rw [hu]; exact hf) (by rw [hu]; exact hn)
  refine ⟨fun l => holds_boundaryAfterChange (hrefChange l), fun f n hf hn hlate => ?_, fun hcase => ?_⟩
  · rw [boundaryAfterChange_of_not_owed (by rw [howed hf hn]; exact decide_eq_false (Nat.not_le.2 hlate))]
    refine ⟨hgrew.onlyEvents, hposted, ?_⟩
    rw [← hv, hu]
  · have hservice : InService u := by
      rw [InService, href, hv]
      split
      · exact .inr (.inl rfl)
      · refine .inr (.inr (.inr (.inl ⟨rfl, ?_⟩)))
        rw [hu, hmode]
        decide
    have hnow : boundaryOwed u = true := by
      rcases hcase with hnone | ⟨f, n, hf, hn, hpast⟩
      · exact boundaryOwed_of_no_frame (by rw [hu]; exact hnone)
      · rw [howed hf hn]
        exact decide_eq_true hpast
    rw [boundaryAfterChange_of_owed (by rw [hu]; exact hrun) (by rw [href]; exact hchange) hservice hnow]
    refine ⟨boundaryTaken_boundary hmoved, fun hstage => ?_⟩
    rw [boundary_timing_of_none s (by rw [hu]; exact hstage), ← hv]
    refine ⟨href, ?_⟩
    change advanceRephase .schedule u.timing.rephase = none
    rw [hu]
    rfl

end Moves

end Sys2Proof.Machine
end

section
/-!
PROOFS. The lapses of a boundary source (R11, R12, R14, R16 to R19) and the reference pulses (R10, R12, R14 to R17).
-/

namespace Sys2Proof.Machine

/-! ### An input gained and lost (R12, R14) -/

section Input

variable {s : State} {r q : RefId} {f : RefInput → RefInput}

theorem onInput_of_selected (hmode : s.plan.active.refMode = .external)
    (hstate : (f (s.timing.inputs.get r)).state ≠ (s.timing.inputs.get r).state)
    (hselected : (s.withInputs (s.timing.inputs.set r (f (s.timing.inputs.get r)))).timing.selected = some q) :
    onInput r f s = setRef (lockedTo q) (s.withInputs (s.timing.inputs.set r (f (s.timing.inputs.get r)))) := by
  rw [onInput_of_change hstate, hmode, Timing.formedRef_external_of_some hselected]

theorem onInput_of_none_selected (hrun : s.timing.run = .running) (hmode : s.plan.active.refMode = .external)
    (hstate : (f (s.timing.inputs.get r)).state ≠ (s.timing.inputs.get r).state)
    (hselected : (s.withInputs (s.timing.inputs.set r (f (s.timing.inputs.get r)))).timing.selected = none) :
    onInput r f s =
      setRef (if s.timing.lockHeld then .holdover else .seeking)
        (s.withInputs (s.timing.inputs.set r (f (s.timing.inputs.get r)))) := by
  have hvalue : (s.withInputs (s.timing.inputs.set r (f (s.timing.inputs.get r)))).timing.formedRef .external =
      if s.timing.lockHeld then .holdover else .seeking := by
    rw [Timing.formedRef_external_of_none hselected]
    simp [State.withInputs, hrun]
  rw [onInput_of_change hstate, hmode, hvalue]

/-- An input that becomes GOOD and is selected has the lock (R12, R14). -/
theorem movedToLock_of_gained (hrun : s.timing.run = .running) (hmode : s.plan.active.refMode = .external)
    (hold : (s.timing.inputs.get r).state ≠ .good) (hnew : (f (s.timing.inputs.get r)).state = .good)
    (href : s.timing.refState ≠ lockedTo r) (hother : r = .b → s.timing.inputs.a.state ≠ .good) :
    MovedToLock r s (boundaryAfterChange s (onInput r f s)) := by
  rw [onInput_of_selected hmode (by rw [hnew]; exact hold.symm) (selected_of_good (q := r) ?_ ?_)]
  · exact movedToLock_boundaryAfterChange hrun href.symm
  · change ((s.timing.inputs.set r (f (s.timing.inputs.get r))).get r).state = .good
    rwa [PerRef.get_set_self]
  · rintro rfl
    exact hother rfl

/-- The loss of the input locked to moves the lock to the other input if that is GOOD, and else puts the schedule in
service (R12, R14). -/
theorem moved_of_lost (hrun : s.timing.run = .running) (hmode : s.plan.active.refMode = .external)
    (hstate : (f (s.timing.inputs.get r)).state ≠ (s.timing.inputs.get r).state)
    (hnew : (f (s.timing.inputs.get r)).state ≠ .good) (href : s.timing.refState = lockedTo r) :
    (∀ q, q ≠ r → (s.timing.inputs.get q).state = .good → MovedToLock q s (boundaryAfterChange s (onInput r f s))) ∧
      ((∀ q, q ≠ r → (s.timing.inputs.get q).state ≠ .good) →
        MovedToSchedule s (boundaryAfterChange s (onInput r f s))) := by
  have hself : ((s.timing.inputs.set r (f (s.timing.inputs.get r))).get r).state ≠ .good := by
    rwa [PerRef.get_set_self]
  have hkept {q : RefId} (hq : q ≠ r) :
      (s.timing.inputs.set r (f (s.timing.inputs.get r))).get q = s.timing.inputs.get q := PerRef.get_set_ne _ _ hq
  refine ⟨fun q hq hgood => ?_, fun hnone => ?_⟩
  · have hselected : (s.withInputs (s.timing.inputs.set r (f (s.timing.inputs.get r)))).timing.selected = some q := by
      refine selected_of_good (congrArg RefInput.state (hkept hq) |>.trans hgood) fun hb => ?_
      have hr : r = .a := by cases r <;> simp_all
      rw [hr] at hself ⊢
      exact hself
    have hchange : lockedTo q ≠ s.timing.refState := by
      rw [href]
      cases q <;> cases r <;> simp_all [lockedTo]
    rw [onInput_of_selected hmode hstate hselected]
    exact movedToLock_boundaryAfterChange hrun hchange
  · have hselected : (s.withInputs (s.timing.inputs.set r (f (s.timing.inputs.get r)))).timing.selected = none := by
      refine selected_of_none fun q => ?_
      by_cases hq : q = r
      · rw [hq]
        exact hself
      · exact fun hgood => hnone q hq ((congrArg RefInput.state (hkept hq)).symm.trans hgood)
    rw [onInput_of_none_selected hrun hmode hstate hselected]
    refine movedToSchedule_boundaryAfterChange hrun hmode rfl ?_
    rw [href]
    cases r <;> split <;> decide

end Input

/-! ### The two ways an event that may bring a boundary ends -/

section Outcome

variable {s u t : State}

/-- The event left `u`, or took a boundary from it. -/
def MayFollow (s u t : State) : Prop := t = u ∨ ∃ cause, u.timing.run = .running ∧ t = boundary s cause u

theorem mayFollow_takeBoundary (cause : Cause) : MayFollow s u (takeBoundary s cause u) := by
  unfold takeBoundary
  split
  · next hrun => exact .inr ⟨cause, hrun, rfl⟩
  · exact .inl rfl

theorem mayFollow_boundaryAfterChange : MayFollow s u (boundaryAfterChange s u) := by
  unfold boundaryAfterChange
  split
  · exact mayFollow_takeBoundary .schedule
  · exact .inl rfl

theorem mayFollow_pulseBoundary : MayFollow s u (pulseBoundary s u) := by
  unfold pulseBoundary
  split
  · exact .inl rfl
  · exact mayFollow_takeBoundary .pulse

theorem MayFollow.eq_of_not_running (h : MayFollow s u t) (hrun : u.timing.run ≠ .running) : t = u := by
  rcases h with h | ⟨cause, hrunning, -⟩
  · exact h
  · exact absurd hrunning hrun

/-- The inputs are those of the event unless a change of rate was applied with a boundary (R11). -/
theorem MayFollow.inputs (h : MayFollow s u t) (hmoved : ReferenceMoved s u)
    (hcase : ¬ RateCommitWaits s ∨ t.timing.pairNumber = s.timing.pairNumber) : t.timing.inputs = u.timing.inputs := by
  obtain ⟨-, hframe⟩ := hmoved
  rcases h with rfl | ⟨cause, -, rfl⟩
  · rfl
  · refine boundary_inputs_of_same_rate s fun hrate => ?_
    have hplan : u.plan = s.plan := by rw [hframe]
    have hpair : u.timing.pairNumber = s.timing.pairNumber := by rw [hframe]
    rcases hcase with hnot | hsame
    · exact hnot (by rwa [RateCommitWaits, hplan] at hrate)
    · rw [boundary_timing, (boundaryTiming_drawn cause u).2.2.1, hpair] at hsame
      simp at hsame

end Outcome

/-! ### The lapses (R11, R18, R19) -/

section Lapses

variable {s : State}

theorem exec_refAbsenceExpiry {r : RefId} (hpins : s.pins.resetAsserted = false)
    (hstate : (s.timing.inputs.get r).state ≠ .absent)
    (hdue : (s.timing.inputs.get r).deadline = some s.timing.timebase) :
    exec (.refAbsenceExpiry r) s = .next (boundaryAfterChange s (onInput r (fun _ => RefInput.expired) s)) := by
  refine (exec_event hpins rfl rfl).trans (congrArg Host.Outcome.next (if_pos ?_))
  simp [absenceDue, hstate, hdue, State.now]

theorem exec_leftReturnLapse {b : Time} {period : Nat} (hpins : s.pins.resetAsserted = false)
    (hmode : s.plan.active.refMode = .followLeft) (href : s.timing.refState = .seeking ∨ s.timing.refState = .lockedL)
    (hb : (∃ f, s.timing.frame = some f ∧ b = f.start ∧ period = f.period) ∨
      (s.timing.frame = none ∧ s.timing.runStart = some b ∧ period = s.plan.active.basePeriod))
    (hdue : s.timing.timebase = b + BitVec.ofNat 48 (2 * period)) (hrun : s.timing.run ≠ .stopped) :
    exec .leftReturnLapse s = .next (takeBoundary s .schedule (setRef .holdover s)) := by
  refine (exec_event hpins rfl rfl).trans (congrArg Host.Outcome.next (if_pos ((leftLapseDue_iff s).2 ?_)))
  rcases hb with ⟨f, hf, rfl, rfl⟩ | ⟨hnone, hstart, rfl⟩
  · exact .leftReturnLapse f hmode hrun href.symm hf hdue
  · exact .firstReturnLapse b hmode hrun href.symm hnone hstart hdue

end Lapses

/-- Settles O31: the two lapses move the reference state, with a boundary where one is owed. -/
theorem lostSourcesMoveTheReference : Obligations.LostSourcesMoveTheReference := by
  refine ⟨fun r s hpins hstate hdue => ⟨_, exec_refAbsenceExpiry hpins hstate hdue, fun hcase => ?_, fun href => ?_,
    fun hrun => ?_, fun hcase href => ?_, fun hrun hmode href => ?_⟩,
    fun s b period hpins hmode href hb hdue => ⟨fun hrun => ⟨_,
      exec_leftReturnLapse hpins hmode href hb hdue (by rw [hrun]; decide), ?_⟩, fun hrun => ⟨_,
      exec_leftReturnLapse hpins hmode href hb hdue (by rw [hrun]; decide), ?_⟩⟩⟩
  · rw [mayFollow_boundaryAfterChange.inputs (referenceMoved_onInput s r _) hcase, onInput_inputs]
    rfl
  · have hkept := keptApartFromLinks_referenceInv.toKeptByRuns.toKeptByEvents
    exact hkept.boundaryAfterChange s (hkept.input r _ s href)
  · obtain ⟨hgrew, hframe⟩ := referenceMoved_onInput s r fun _ => RefInput.expired
    rw [mayFollow_boundaryAfterChange.eq_of_not_running (by rw [hframe]; exact hrun)]
    exact ⟨hgrew.onlyEvents, hframe⟩
  · have hunselected := onInput_of_unselected (f := fun _ => RefInput.expired) href
      (hcase.imp_right fun h => h.imp_left fun hgood => ⟨by decide, hgood⟩)
    rw [hunselected, boundaryAfterChange_of_same (s := s) (u := s.withInputs (s.timing.inputs.set r .expired)) rfl]
    rfl
  · exact moved_of_lost (f := fun _ => RefInput.expired) hrun hmode hstate.symm (by decide) href
  · have hchange : RefState.holdover ≠ s.timing.refState := by
      rcases href with h | h <;> rw [h] <;> decide
    rw [takeBoundary_of_running (by rw [setRef_timing, toRef_run, hrun])]
    refine ⟨boundaryTaken_boundary (referenceMoved_setRef s .holdover),
      fun l => holds_boundary_mono s (holds_setRef.2 (.inr ⟨rfl, hchange⟩)), fun hstage => ?_⟩
    rw [boundary_timing_of_none s (by rwa [setRef_plan]), setRef_timing]
    exact toRef_refState _ _
  · have hchange : RefState.holdover ≠ s.timing.refState := by
      rcases href with h | h <;> rw [h] <;> decide
    rw [takeBoundary_of_not_running (by rw [setRef_timing, toRef_run, hrun]; decide)]
    refine ⟨postedAll_setRef (inputs := s.timing.inputs) hchange, (grew_setRef .holdover s).onlyEvents, ?_⟩
    refine (setRef_withInputs (inputs := s.timing.inputs) hchange).trans ?_
    have hunlocked : (s.timing.lockHeld || (RefState.holdover.isLocked && s.timing.run != .stopped &&
        s.timing.frame.isSome)) = s.timing.lockHeld := Bool.or_false _
    rw [hunlocked]
    rfl

/-! ### A reference pulse (R10, R15, R16) -/

section Pulse

variable {pn : Nat} {t last : Time} {x : RefInput}

/-- A pulse's time and deadline are kept, whatever it qualifies (R10, R11). -/
theorem pulse_time (pn : Nat) (t : Time) (x : RefInput) :
    (x.pulse pn t).lastPulse = some t ∧ (x.pulse pn t).deadline = some (later t (2 * pn)) := by
  unfold RefInput.pulse
  dsimp only
  (repeat' split) <;> exact ⟨rfl, rfl⟩

theorem pulse_of_first (h : x.state = .absent ∨ x.lastPulse = none) :
    (x.pulse pn t).state = .qualifying ∧ (x.pulse pn t).count = 0 := by
  unfold RefInput.pulse
  rcases h with h | h
  · rw [h]
    exact ⟨rfl, rfl⟩
  · rw [h]
    cases x.state <;> exact ⟨rfl, rfl⟩

/-- A later pulse is in tolerance or not (R10). -/
theorem pulse_of_later (hstate : x.state ≠ .absent) (hlast : x.lastPulse = some last) :
    if ((since last t : Int) - pn).natAbs ≤ pn / 1024 then
      (x.pulse pn t).count = min 8 (x.count + 1) ∧
        (x.pulse pn t).state = if (x.pulse pn t).count = 8 then .good else x.state
    else (x.pulse pn t).state = .qualifying ∧ (x.pulse pn t).count = 0 := by
  have hpulse : x.pulse pn t =
      if ((since last t : Int) - pn).natAbs ≤ pn / 1024 then
        ⟨if (if x.count < 8 then x.count + 1 else 8) = 8 then .good else x.state,
          if x.count < 8 then x.count + 1 else 8, some t, some (later t (2 * pn))⟩
      else ⟨.qualifying, 0, some t, some (later t (2 * pn))⟩ := by
    unfold RefInput.pulse
    rw [hlast]
    cases hst : x.state with
    | absent => exact absurd hst hstate
    | _ => rfl
  rw [hpulse]
  split
  · refine ⟨?_, rfl⟩
    dsimp only
    split <;> omega
  · exact ⟨rfl, rfl⟩

end Pulse

section RefPulse

variable {s : State} {r : RefId}

/-- The state of a pulse just qualified. -/
def qualified (r : RefId) (s : State) : State := onInput r (RefInput.pulse s.plan.active.basePeriod s.now) s

theorem referenceMoved_qualified (r : RefId) (s : State) : ReferenceMoved s (qualified r s) :=
  referenceMoved_onInput s r _

theorem mayFollow_refPulse (r : RefId) (s : State) : MayFollow s (qualified r s) (refPulse r s) := by
  unfold refPulse
  dsimp only
  split
  · exact mayFollow_pulseBoundary
  · exact mayFollow_boundaryAfterChange

/-- A pulse that is no boundary of its own: its input was not GOOD or is not, or is not the one locked to (R15). -/
theorem refPulse_of_change
    (h : ¬ (((s.timing.inputs.get r).state = .good ∧ ((qualified r s).timing.inputs.get r).state = .good) ∧
      (qualified r s).plan.active.refMode = .external ∧ (qualified r s).timing.refState = lockedTo r)) :
    refPulse r s = boundaryAfterChange s (qualified r s) := if_neg h

theorem qualified_input (r : RefId) (s : State) :
    (qualified r s).timing.inputs.get r =
      (s.timing.inputs.get r).pulse s.plan.active.basePeriod s.timing.timebase := by
  rw [qualified, onInput_inputs, PerRef.get_set_self, State.now]

/-- The state with the input of a pulse qualified, the reference state apart (R10). -/
def State.pulsed (s : State) (r : RefId) : State :=
  s.withInputs
    (s.timing.inputs.set r ((s.timing.inputs.get r).pulse s.plan.active.basePeriod s.timing.timebase))

/-- A pulse of the input locked to that stays GOOD may be a boundary (R15). -/
theorem refPulse_of_locked (hmode : s.plan.active.refMode = .external) (href : s.timing.refState = lockedTo r)
    (hold : (s.timing.inputs.get r).state = .good)
    (hnew : ((s.timing.inputs.get r).pulse s.plan.active.basePeriod s.timing.timebase).state = .good) :
    refPulse r s = pulseBoundary s (s.pulsed r) := by
  have hqualified : qualified r s = s.pulsed r := onInput_of_same (hnew.trans hold.symm)
  have hlocked : refPulse r s = pulseBoundary s (qualified r s) := by
    refine if_pos ⟨⟨hold, ?_⟩, ?_, ?_⟩
    · exact (congrArg RefInput.state (qualified_input r s)).trans hnew
    · exact (congrArg (fun v : State => v.plan.active.refMode) hqualified).trans hmode
    · exact (congrArg (fun v : State => v.timing.refState) hqualified).trans href
  rw [hlocked, hqualified]

theorem pulseBoundary_of_taken {u : State} (hrun : u.timing.run = .running)
    (h : u.timing.rephase = none ∨ afterThreshold u = true) : pulseBoundary s u = boundary s .pulse u := by
  rw [pulseBoundary, if_neg ?_, takeBoundary_of_running hrun]
  rintro ⟨hsome, hearly⟩
  rcases h with hnone | hafter
  · rw [hnone] at hsome
    cases hsome
  · exact hearly hafter

theorem pulseBoundary_of_early {u : State} (hrephase : u.timing.rephase ≠ none) (h : afterThreshold u = false) :
    pulseBoundary s u = u := by
  rw [pulseBoundary, if_pos ⟨Option.isSome_iff_ne_none.2 hrephase, by rw [h]; exact Bool.false_ne_true⟩]

theorem afterThreshold_eq {u : State} {f : Frame} (hf : u.timing.frame = some f) :
    afterThreshold u =
      decide (f.offset.natAbs + f.exposure + u.plan.active.gap < since f.start u.timing.timebase) := by
  rw [afterThreshold, hf, State.now]

end RefPulse

/-! ### The end of a re-phase (R16) -/

section Rephase

variable {v : RefState} {t : Timing} {u : PlanUnit}

theorem toRef_rephase_of_unlocked (hv : v.isLocked = false) (h : t.rephase = none) : (t.toRef v).rephase = none := by
  unfold Timing.toRef
  split
  · exact h
  · cases v with
    | lockedA | lockedB | lockedL => cases hv
    | _ => rfl

/-- An application away from EXTERNAL, or with the inputs put back to QUALIFYING, moves to no lock (R11, R12, R21). -/
theorem settled_rephase (h : t.rephase = none) (hmode : u.active.refMode = .external)
    (hinputs : rateChanges u = true → ∀ q, (t.inputs.get q).state ≠ .good) : (t.settled u).rephase = none := by
  unfold Timing.settled
  split
  · next hchange =>
    refine toRef_rephase_of_unlocked ?_ h
    have hstaged : u.staged.refMode ≠ .external := by rw [← hmode]; exact modeChanges_iff.1 hchange
    cases hm : u.staged.refMode with
    | external => exact absurd hm hstaged
    | _ => rfl
  · next hsame =>
    split
    · next hrate =>
      have hstaged : u.staged.refMode = .external := by
        rw [modeChanges_eq_false.1 (by simpa using hsame), hmode]
      refine toRef_rephase_of_unlocked ?_ h
      rw [hstaged, Timing.formedRef_external_of_none (selected_of_none (hinputs hrate))]
      split <;> rfl
    · exact h

/-- A boundary that a pulse gives ends the re-phase (R16). -/
theorem boundary_rephase_of_pulse {s : State} (begun : State) (hmode : s.plan.active.refMode = .external) :
    (boundary begun .pulse s).timing.rephase = none := by
  have hentered : (s.timing.entered .pulse).rephase = none := by
    change advanceRephase .pulse s.timing.rephase = none
    cases s.timing.rephase <;> rfl
  by_cases hstage : s.plan.stage = .committing
  · rw [boundary_timing, boundaryTiming_timing_of_waiting .pulse s hstage]
    refine settled_rephase (by rw [Timing.frameBegun, applied_rephase, hentered]) hmode fun hrate q => ?_
    change (((s.timing.entered .pulse).applied s.plan true).inputs.get q).state ≠ .good
    rw [applied_inputs, if_pos hrate]
    exact fun h => nomatch h
  · rw [boundary_timing_of_none begun hstage]
    exact hentered

end Rephase

/-- Settles O30: the pulse is qualified, and the lock record and the re-phase decide on a boundary. -/
theorem referencePulseQualifiesAndMayBeABoundary : Obligations.ReferencePulseQualifiesAndMayBeABoundary := by
  intro r s hpins
  obtain ⟨hlast, hdeadline⟩ := pulse_time s.plan.active.basePeriod s.timing.timebase (s.timing.inputs.get r)
  have hinputs : (qualified r s).timing.inputs = s.timing.inputs.set r
      ((s.timing.inputs.get r).pulse s.plan.active.basePeriod s.timing.timebase) := onInput_inputs r _ s
  obtain ⟨hgrew, hframe⟩ := id (referenceMoved_qualified r s)
  have hstate := congrArg RefInput.state (qualified_input r s)
  refine ⟨refPulse r s, (s.timing.inputs.get r).pulse s.plan.active.basePeriod s.timing.timebase,
    exec_event hpins rfl rfl, hlast, hdeadline, pulse_of_first, fun last => pulse_of_later, fun hcase => ?_,
    fun hrun href => ?_, fun hcase href => ?_, fun hmode hrun => ⟨fun hold hnew href hother => ?_,
    fun href hold hnew => ?_, fun href hold hnew => ⟨fun hrephase => ?_, fun f hrephase hf => ⟨fun hafter => ?_,
    fun hearly => ?_⟩⟩⟩⟩
  · rw [(mayFollow_refPulse r s).inputs (referenceMoved_qualified r s) hcase, hinputs]
  · have hkept := keptApartFromLinks_referenceInv.toKeptByRuns.toKeptByEvents.refPulse r href
    refine ⟨hkept, ?_⟩
    rw [(mayFollow_refPulse r s).eq_of_not_running (by rw [hframe]; exact hrun)]
    exact ⟨hgrew.onlyEvents, hframe⟩
  · have hunselected : qualified r s = s.pulsed r := onInput_of_unselected href hcase
    rw [refPulse_of_change, boundaryAfterChange_of_same (by rw [hunselected]; rfl), hunselected]
    · rfl
    · rintro ⟨⟨hold, -⟩, hmode, hlocked⟩
      rw [hunselected] at hmode hlocked
      rcases hcase with hother | ⟨-, hbad⟩ | ⟨hlockedA, rfl⟩
      · exact hother hmode
      · exact hbad hold
      · exact absurd (hlockedA.symm.trans hlocked) (by decide)
  · rw [refPulse_of_change fun h => hold h.1.1]
    exact movedToLock_of_gained hrun hmode hold hnew href hother
  · rw [refPulse_of_change fun h => hnew (hstate.symm.trans h.1.2)]
    exact moved_of_lost (f := RefInput.pulse s.plan.active.basePeriod s.now) hrun hmode
      (fun h => hnew (h.trans hold)) hnew href
  · rw [refPulse_of_locked hmode href hold hnew, pulseBoundary_of_taken (u := s.pulsed r) hrun (.inl hrephase)]
    refine ⟨boundaryTaken_boundary (referenceMoved_withInputs s _), fun hstage => ?_⟩
    rw [boundary_timing_of_none (s := s.pulsed r) s hstage]
    change (s.timing.lockHeld || s.timing.refState.isLocked) = true
    rw [href, isLocked_lockedTo, Bool.or_true]
  · rw [refPulse_of_locked hmode href hold hnew, pulseBoundary_of_taken (u := s.pulsed r) hrun (.inr ?_)]
    · exact ⟨boundary_rephase_of_pulse (s := s.pulsed r) s hmode, boundaryTaken_boundary (referenceMoved_withInputs s _)⟩
    · rw [afterThreshold_eq (u := s.pulsed r) hf]
      exact decide_eq_true hafter
  · rw [refPulse_of_locked hmode href hold hnew, pulseBoundary_of_early (u := s.pulsed r) hrephase ?_]
    · rfl
    · rw [afterThreshold_eq (u := s.pulsed r) hf]
      exact decide_eq_false (Nat.not_lt.2 hearly)

end Sys2Proof.Machine
end

section
/-!
PROOFS. RESTART (R7, R8, R34, R55, R92, R104, R108, R159).
-/

namespace Sys2Proof.Machine

/-! ### The replies that RESTART owes (R8, R92, R104) -/

section Debts

variable {s : State} {k l : Link}

/-- What RESTART has to answer to a link is at most the one reply owed to it while it is EXECUTING. -/
theorem ReplyInv.debts_le (h : ReplyInv s) (k : Link) :
    owedBy s.plan.committer k + owedBy s.tc.owed k + owedBy s.memory.cutReader k ≤
      if (s.links.get k).state = .executing then 1 else 0 := by
  rw [← h.1 k, owedReplies_eq, ← owes_restarted s.memory k]
  omega

theorem owedBy_self (k : Link) : owedBy (some k) k = 1 := if_pos rfl

theorem owedBy_eq_zero_iff {o : Option Link} : owedBy o k = 0 ↔ o ≠ some k := by
  unfold owedBy
  split
  · next h => simp [h]
  · next h => simp [h]

/-- A link that is not busy is owed nothing that RESTART answers. -/
theorem ReplyInv.no_debt (h : ReplyInv s) (hidle : (s.links.get l).busy = false) :
    s.plan.committer ≠ some l ∧ s.tc.owed ≠ some l ∧ s.memory.cutReader ≠ some l := by
  have hsum := h.debts_le l
  rw [if_neg fun hstate => by simp [LinkState.busy, hstate] at hidle] at hsum
  refine ⟨owedBy_eq_zero_iff.1 ?_, owedBy_eq_zero_iff.1 ?_, owedBy_eq_zero_iff.1 ?_⟩ <;> omega

/-- A link that is owed one of those replies is owed no other. -/
theorem ReplyInv.one_debt (h : ReplyInv s) (k : Link) :
    (s.plan.committer = some k → s.tc.owed ≠ some k ∧ s.memory.cutReader ≠ some k) ∧
      (s.tc.owed = some k → s.plan.committer ≠ some k ∧ s.memory.cutReader ≠ some k) ∧
      (s.memory.cutReader = some k → s.plan.committer ≠ some k ∧ s.tc.owed ≠ some k) := by
  have hsum := h.debts_le k
  have hone : (if (s.links.get k).state = .executing then 1 else 0) ≤ 1 := by split <;> omega
  simp only [← owedBy_eq_zero_iff]
  refine ⟨fun hk => ?_, fun hk => ?_, fun hk => ?_⟩ <;> rw [hk, owedBy_self] at hsum <;> omega

theorem cutReader_of_port {b : Burst} {gap : Nat} {a : BitVec 32} {n : Nat} (hport : s.memory.port = some b)
    (hb : b.holder = .logRead k gap a n) : s.memory.cutReader = some k := by
  obtain ⟨holder, total, left, got⟩ := b
  obtain rfl : holder = .logRead k gap a n := hb
  rw [RecordMemory.cutReader, hport]

end Debts

/-! ### The replies given (R8, R92, R104) -/

section Replies

variable {s u : State} {k : Link}

theorem abortCommit_of_committer (h : s.plan.committer = some k) : abortCommit s u = replyDuring s k .abrt [] u := by
  rw [abortCommit, h]

theorem abortCommit_get_ne (h : s.plan.committer ≠ some k) : (abortCommit s u).links.get k = u.links.get k := by
  unfold abortCommit
  split
  · next j hj => exact replyDuring_get_ne u s .abrt [] fun hk => h (by rw [hj, hk])
  · rfl

theorem abortCommit_events (s u : State) (k : Link) :
    ((abortCommit s u).links.get k).events = (u.links.get k).events := by
  unfold abortCommit
  split
  · exact replyDuring_events s .abrt [] k
  · rfl

theorem answerCutRead_of_port {b : Burst} {gap : Nat} {a : BitVec 32} {n : Nat} (hport : s.memory.port = some b)
    (hb : b.holder = .logRead k gap a n) :
    answerCutRead s u =
      replyDuring s k .ok (BitVec.ofNat 8 gap :: 0 :: bytesOf 4 (u.log.readers.get k).cursor.toNat) u := by
  obtain ⟨holder, total, left, got⟩ := b
  obtain rfl : holder = .logRead k gap a n := hb
  rw [answerCutRead, hport]
  simp [logReadReport, carriedRecords]

theorem answerCutRead_cases (s u : State) :
    (s.memory.cutReader = none ∧ answerCutRead s u = u) ∨
      ∃ j data, s.memory.cutReader = some j ∧ answerCutRead s u = replyDuring s j .ok data u := by
  unfold answerCutRead
  split
  · next j gap a n total left got hport => exact .inr ⟨j, _, cutReader_of_port hport rfl, rfl⟩
  · next hnot =>
    refine .inl ⟨?_, rfl⟩
    unfold RecordMemory.cutReader
    split
    · next j gap a n total left got hport => exact absurd hport (hnot j gap a n total left got)
    · rfl

theorem answerCutRead_get_ne (h : s.memory.cutReader ≠ some k) : (answerCutRead s u).links.get k = u.links.get k := by
  rcases answerCutRead_cases s u with ⟨-, heq⟩ | ⟨j, data, hj, heq⟩ <;> rw [heq]
  exact replyDuring_get_ne u s .ok data fun hk => h (by rw [hj, hk])

theorem answerCutRead_events (s u : State) (k : Link) :
    ((answerCutRead s u).links.get k).events = (u.links.get k).events := by
  rcases answerCutRead_cases s u with ⟨-, heq⟩ | ⟨j, data, -, heq⟩ <;> rw [heq]
  exact replyDuring_events s .ok data k

end Replies

/-! ### What RESTART posts (R6, R12, R107) -/

section Posted

variable (s : State)

theorem emptied_ready (g : PairLog) (k : Link) : g.emptied.ready k = false := by
  simp [PairLog.ready, PairLog.unread, PairLog.emptied]

/-- The blocks as RESTART leaves them, before anything is posted. -/
def State.restarted (s : State) : State :=
  { s with
    timing := s.timing.ended
    trig := TriggerUnit.cut
    matcher := s.matcher.restarted
    log := s.log.emptied
    plan := s.plan.freed
    tc := { s.tc with waiting := none }
    memory := s.memory.restarted }

/-- RESTART re-forms LOG_READY and the reference state, and posts TIMING_STOPPED when a run ended (R6, R12, R107). -/
theorem restartBlocks_eq :
    restartBlocks s =
      if s.timing.run = .stopped then recomputeRef (reformReadyAll s.restarted)
      else postAll .timingStopped (recomputeRef (reformReadyAll s.restarted)) := rfl

theorem restartBlocks_refState :
    (restartBlocks s).timing.refState = refValue (reformReadyAll s.restarted) := by
  rw [restartBlocks_eq, recomputeRef]
  split
  · rw [setRef_timing, toRef_refState]
  · rw [postAll_timing, setRef_timing, toRef_refState]

theorem holds_reformed (k : Link) (kind : EventKind) :
    holds ((recomputeRef (reformReadyAll s.restarted)).links.get k).events kind = true ↔
      (kind ≠ .logReady ∧ holds (s.links.get k).events kind = true) ∨
        (kind = .refChange ∧ (restartBlocks s).timing.refState ≠ s.timing.refState) := by
  have hready : holds ((reformReadyAll s.restarted).links.get k).events kind = true ↔
      kind ≠ .logReady ∧ holds (s.links.get k).events kind = true := by
    rw [reformReadyAll, onLinks_get]
    dsimp only
    rw [holds_showReady_eq, show s.restarted.log.ready k = false from emptied_ready s.log k]
    split
    · next h => simp [h]
    · next h => simp [h, State.restarted]
  rw [recomputeRef, holds_setRef, hready, restartBlocks_refState]
  rfl

theorem holds_restartBlocks (k : Link) (kind : EventKind) :
    holds ((restartBlocks s).links.get k).events kind =
      match kind with
      | .logReady => false
      | .timingStopped => holds (s.links.get k).events kind || decide (s.timing.run ≠ .stopped)
      | .refChange =>
        holds (s.links.get k).events kind || decide ((restartBlocks s).timing.refState ≠ s.timing.refState)
      | _ => holds (s.links.get k).events kind := by
  have hreformed := holds_reformed s k kind
  have hall : holds ((restartBlocks s).links.get k).events kind = true ↔
      holds ((recomputeRef (reformReadyAll s.restarted)).links.get k).events kind = true ∨
        (kind = .timingStopped ∧ s.timing.run ≠ .stopped) := by
    by_cases hrun : s.timing.run = .stopped
    · rw [restartBlocks_eq, if_pos hrun]
      simp [hrun]
    · rw [restartBlocks_eq, if_neg hrun, holds_postAll]
      simp [hrun]
  rw [hreformed] at hall
  rw [Bool.eq_iff_iff, hall]
  cases kind <;> simp

theorem onlyEvents_restartBlocks : OnlyEvents s (restartBlocks s) := by
  have hready : OnlyEvents s (reformReadyAll s.restarted) := fun l => by
    rw [reformReadyAll, onLinks_get]
    rfl
  have hshown : OnlyEvents s (recomputeRef (reformReadyAll s.restarted)) :=
    hready.trans (grew_setRef _ _).onlyEvents
  rw [restartBlocks_eq]
  split
  · exact hshown
  · exact hshown.trans (grew_postAll _ _).onlyEvents

end Posted

/-! ### The burst that RESTART cuts (R159) -/

section Cut

variable {m : RecordMemory} {b : Burst}

theorem restartCuts_iff :
    b.restartCuts = true ↔ b.holder = .record ∨ ∃ k gap a n, b.holder = .logRead k gap a n := by
  unfold Burst.restartCuts
  split
  · next h => simp [h]
  · next l gap a n h => simp [h]
  · next hrecord hread =>
    refine iff_of_false Bool.false_ne_true ?_
    rintro (h | ⟨k, gap, a, n, h⟩)
    · exact hrecord h
    · exact hread k gap a n h

theorem memory_restarted_of_cut (hport : m.port = some b) (h : b.restartCuts = true) :
    m.restarted = { m with port := none } := by
  simp [RecordMemory.restarted, hport, h]

theorem memory_restarted_of_kept (h : ∀ b, m.port = some b → b.restartCuts = false) : m.restarted = m := by
  unfold RecordMemory.restarted
  cases hport : m.port with
  | none => rw [Option.filter_none, ← hport]
  | some b =>
    have hkept : (some b).filter (fun b => !b.restartCuts) = some b := by simp [h b hport]
    rw [hkept, ← hport]

end Cut

section Restart

variable {s u : State} {l k : Link} {cast : Addressing}

theorem answerDuring_get_ne (h : k ≠ l) (begun : State) (st : Status) (data : List Byte) (u : State) :
    (answerDuring begun l cast st data u).links.get k = u.links.get k := by
  cases cast with
  | unicast => exact replyDuring_get_ne u begun st data h
  | broadcast => rfl

/-- RESTART moves the links alone after its blocks. -/
theorem takeRestart_frame (l : Link) (cast : Addressing) (s : State) :
    takeRestart l cast s = { restartBlocks s with links := (takeRestart l cast s).links } := by
  unfold takeRestart
  apply State.eq_of_fields <;> simp

theorem takeRestart_events (l : Link) (cast : Addressing) (s : State) (k : Link) (kind : EventKind) :
    holds ((takeRestart l cast s).links.get k).events kind = holds ((restartBlocks s).links.get k).events kind := by
  rw [takeRestart, holds_answerDuring, answerCutRead_events, answerOwed_events, abortCommit_events]

theorem answerable_restartBlocks (k : Link) : Answerable k s (restartBlocks (s.taken l cast)) := by
  have hovr : ((s.taken l cast).links.get k).ovr = (s.links.get k).ovr := by
    by_cases hk : k = l
    · rw [hk, taken_ovr]
    · rw [taken_get_ne cast hk]
  refine ⟨by rw [restartBlocks_frame]; rfl, ?_⟩
  rw [onlyEvents_restartBlocks, ← hovr]

/-- The committer of a discarded commit is answered ABRT (R8). -/
theorem answered_takeRestart_committer (hinv : ReplyInv s) (hidle : (s.links.get l).busy = false)
    (h : s.plan.committer = some k) : Answered k .abrt [] s (takeRestart l cast (s.taken l cast)) := by
  obtain ⟨howed, hreader⟩ := (hinv.one_debt k).1 h
  have hk : k ≠ l := fun hk => (hinv.no_debt hidle).1 (by rw [← hk, h])
  have hanswered : Answered k .abrt [] s (abortCommit (s.taken l cast) (restartBlocks (s.taken l cast))) := by
    rw [abortCommit_of_committer (s := s.taken l cast) h]
    exact (answerable_restartBlocks k).answered (taken_attention l k cast)
  refine hanswered.of_link ?_
  rw [takeRestart, answerDuring_get_ne hk, answerCutRead_get_ne (s := s.taken l cast) hreader,
    answerOwed_get_ne (o := (s.taken l cast).tc.owed) howed]

/-- The sender of a discarded timecode set is answered ABRT (R92). -/
theorem answered_takeRestart_timecode (hinv : ReplyInv s) (hidle : (s.links.get l).busy = false)
    (h : s.tc.owed = some k) : Answered k .abrt [] s (takeRestart l cast (s.taken l cast)) := by
  obtain ⟨hcommitter, hreader⟩ := (hinv.one_debt k).2.1 h
  have hk : k ≠ l := fun hk => (hinv.no_debt hidle).2.1 (by rw [← hk, h])
  have hanswerable : Answerable k s (abortCommit (s.taken l cast) (restartBlocks (s.taken l cast))) :=
    (answerable_restartBlocks k).of_link (by rw [abortCommit_frame])
      (abortCommit_get_ne (s := s.taken l cast) hcommitter)
  have hanswered : Answered k .abrt [] s (answerOwed (s.taken l cast) (some k) .abrt
      (abortCommit (s.taken l cast) (restartBlocks (s.taken l cast)))) :=
    hanswerable.answered (taken_attention l k cast)
  refine hanswered.of_link ?_
  rw [takeRestart, answerDuring_get_ne hk, answerCutRead_get_ne (s := s.taken l cast) hreader,
    show (s.taken l cast).tc.owed = some k from h]

/-- A LOG_READ cut under way is answered OK with its gap value and no record (R104). -/
theorem answered_takeRestart_read (hinv : ReplyInv s) (hidle : (s.links.get l).busy = false) {b : Burst} {gap n : Nat}
    {a : BitVec 32} (hport : s.memory.port = some b) (hb : b.holder = .logRead k gap a n) :
    Answered k .ok (BitVec.ofNat 8 gap :: 0 :: bytesOf 4 s.log.next.toNat) s
      (takeRestart l cast (s.taken l cast)) := by
  have hreader := cutReader_of_port hport hb
  obtain ⟨hcommitter, howed⟩ := (hinv.one_debt k).2.2 hreader
  have hk : k ≠ l := fun hk => (hinv.no_debt hidle).2.2 (by rw [← hk, hreader])
  have hanswerable : Answerable k s (answerOwed (s.taken l cast) (s.taken l cast).tc.owed .abrt
      (abortCommit (s.taken l cast) (restartBlocks (s.taken l cast)))) := by
    refine (answerable_restartBlocks (l := l) (cast := cast) k).of_link ?_ ?_
    · simp
    · rw [answerOwed_get_ne (o := (s.taken l cast).tc.owed) howed,
        abortCommit_get_ne (s := s.taken l cast) hcommitter]
  have hcursor : ((answerOwed (s.taken l cast) (s.taken l cast).tc.owed .abrt
      (abortCommit (s.taken l cast) (restartBlocks (s.taken l cast)))).log.readers.get k).cursor = s.log.next := by
    rw [answerOwed_log, abortCommit_frame, restartBlocks_frame]
    simp [PairLog.emptied, State.taken]
  rw [← hcursor]
  refine (hanswerable.answered (taken_attention l k cast)).of_link ?_
  rw [takeRestart, answerDuring_get_ne hk, answerCutRead_of_port (s := s.taken l cast) hport hb]

/-- The link of RESTART is acknowledged, and nothing but its reply moves it (R7). -/
theorem acknowledged_takeRestart (hinv : ReplyInv s) (hidle : (s.links.get l).busy = false) :
    Acknowledged l cast .ok [] s (takeRestart l cast (s.taken l cast)) := by
  obtain ⟨hcommitter, howed, hreader⟩ := hinv.no_debt hidle
  refine acknowledged_answerDuring ?_ ?_ (onlyEvents_restartBlocks (s.taken l cast))
  · rw [answerCutRead_frame, answerOwed_frame, abortCommit_frame, restartBlocks_frame]
    rfl
  · rw [answerCutRead_get_ne (s := s.taken l cast) hreader, answerOwed_get_ne (o := (s.taken l cast).tc.owed) howed,
      abortCommit_get_ne (s := s.taken l cast) hcommitter]

end Restart

/-- Settles O25: RESTART's blocks are written out in `restartBlocks`, and each reply owed is one link's. -/
theorem restartEmptiesTheRun : Obligations.RestartEmptiesTheRun := by
  intro l cast s hready hinv
  obtain ⟨-, hidle⟩ := id hready
  have hframe := takeRestart_frame l cast (s.taken l cast)
  have hblocks := restartBlocks_frame (s.taken l cast)
  have hevents := takeRestart_events l cast (s.taken l cast)
  have htiming : (takeRestart l cast (s.taken l cast)).timing = s.timing.stopped s.plan.active.refMode := by
    rw [hframe]
    exact restartBlocks_timing (s.taken l cast)
  refine ⟨takeRestart l cast (s.taken l cast), handOver_ready hready cast _, acknowledged_takeRestart hinv hidle, ?_, ?_,
    fun e => ?_, ?_, ?_, ?_, ?_, ?_, ?_, fun k => ?_, ?_, ?_, fun k hstage heditor => ?_, fun k w hw howed => ?_,
    fun k gap a n b hport hb => answered_takeRestart_read hinv hidle hport hb, fun k kind => ?_, ?_, ?_, ?_, ?_⟩
  · rw [referenceInv_iff, htiming, hframe, hblocks]
    exact Timing.refOk_stopped
  · rw [htiming]
    exact stopped_frame_timing
  · rw [hframe, hblocks]
    cases e <;> exact ⟨rfl, rfl, rfl⟩
  · rw [hframe, hblocks]
    rfl
  · rw [hframe, hblocks]
    rfl
  · rw [hframe, hblocks]
    rfl
  · rw [hframe, hblocks]
    rfl
  · rw [hframe, hblocks]
    rfl
  · rw [hframe, hblocks]
    rfl
  · rw [hframe, hblocks]
    cases k <;> rfl
  · rintro ⟨b, hport, hcut⟩
    rw [hframe, hblocks]
    exact memory_restarted_of_cut hport (restartCuts_iff.2 hcut)
  · intro hkept
    rw [hframe, hblocks]
    refine memory_restarted_of_kept (m := s.memory) fun b hport => ?_
    obtain ⟨hrecord, hread⟩ := hkept b hport
    rw [← Bool.not_eq_true, restartCuts_iff]
    rintro (h | ⟨k, gap, a, n, h⟩)
    · exact hrecord h
    · exact hread k gap a n h
  · exact answered_takeRestart_committer hinv hidle (by rw [PlanUnit.committer, if_pos hstage, heditor])
  · exact answered_takeRestart_timecode hinv hidle (by rw [TimecodeCounter.owed, hw]; exact howed)
  · have hrefState : (takeRestart l cast (s.taken l cast)).timing.refState =
        (restartBlocks (s.taken l cast)).timing.refState := by rw [hframe]
    rw [hevents, holds_restartBlocks, taken_events, hrefState]
    cases kind <;> rfl
  · rw [hframe, hblocks]
    rfl
  · rw [hframe, hblocks]
    rfl
  · rw [hframe, hblocks]
    rfl
  · rw [hframe, hblocks]
    rfl

end Sys2Proof.Machine
end

section
/-!
PROOFS. RUN (R4, R61): a run begins, with its first boundary at once where no other source brings it.
-/

namespace Sys2Proof.Machine

/-! ### The start of a run (R4) -/

section Start

variable {s : State} {start : Option (BitVec 32)} {l : Link} {cast : Addressing}

/-- A run without its first boundary begins no re-phase (R16). -/
theorem toRef_rephase_of_no_frame {v : RefState} {t : Timing} (hframe : t.frame = none) (hrephase : t.rephase = none) :
    (t.toRef v).rephase = none := by
  unfold Timing.toRef
  split <;> simp [hframe, hrephase]

/-- The timing of a run just begun, with the reference state of its mode (R4, R12). -/
theorem startRun_timing_eq :
    (startRun start s).timing =
      { s.timing.started start with refState := (s.timing.started start).enteredRef s.plan.active.refMode } := by
  have hlock := toRef_lockHeld_of_no_frame ((s.timing.started start).enteredRef s.plan.active.refMode)
    (s.timing.started start) rfl
  have hrephase := toRef_rephase_of_no_frame (v := (s.timing.started start).enteredRef s.plan.active.refMode)
    (t := s.timing.started start) rfl rfl
  rw [startRun_timing, toRef_frame, hlock, hrephase]
  rfl

/-- The state of a RUN that has begun its run and been answered (R4). -/
def runBegun (l : Link) (cast : Addressing) (start : Option (BitVec 32)) (s : State) : State :=
  answerDuring s l cast .ok [] (startRun start s)

theorem runBegun_frame :
    runBegun l cast start s =
      { s with
        timing := (startRun start s).timing, matcher := s.matcher.forgetEyes, tc := { s.tc with firstMark := true }
        links := (runBegun l cast start s).links } := by
  have h := answerDuring_frame s (startRun start s) l cast .ok []
  have hstart := startRun_frame s start
  rw [runBegun]
  generalize answerDuring s l cast .ok [] (startRun start s) = t at h ⊢
  refine h.trans ?_
  rw [hstart]

theorem takeRun_of_not_stopped (h : s.timing.run ≠ .stopped) : takeRun l cast start s = answer l cast .state [] s :=
  if_neg h

theorem takeRun_of_stopped (h : s.timing.run = .stopped) :
    takeRun l cast start s =
      if firstBoundaryAtRun (runBegun l cast start s) then takeBoundary s .schedule (runBegun l cast start s)
      else runBegun l cast start s := if_pos h

theorem runBegun_running : (runBegun l cast start s).timing.run = .running := by
  rw [runBegun_frame, startRun_timing_eq]
  rfl

/-- The first boundary waits for a left return, and under EXTERNAL for a pulse of the selected input (R4). -/
theorem firstBoundaryAtRun_eq_false
    (h : s.plan.active.refMode = .followLeft ∨
      (s.plan.active.refMode = .external ∧ (s.timing.inputs.a.state = .good ∨ s.timing.inputs.b.state = .good))) :
    firstBoundaryAtRun (runBegun l cast start s) = false := by
  have hmode : (runBegun l cast start s).plan.active.refMode = s.plan.active.refMode := by rw [runBegun_frame]
  have hinputs : (runBegun l cast start s).timing.inputs = s.timing.inputs := by
    rw [runBegun_frame, startRun_timing_eq]
    rfl
  unfold firstBoundaryAtRun
  rw [hmode]
  rcases h with h | ⟨h, hgood⟩
  · rw [h]
  · rw [h, Timing.selected, hinputs]
    by_cases ha : s.timing.inputs.a.state = .good
    · simp [ha]
    · simp [ha, hgood.resolve_left ha]

theorem firstBoundaryAtRun_eq_true
    (h : s.plan.active.refMode = .internal ∨ s.plan.active.refMode = .loop ∨
      (s.plan.active.refMode = .external ∧ s.timing.inputs.a.state ≠ .good ∧ s.timing.inputs.b.state ≠ .good)) :
    firstBoundaryAtRun (runBegun l cast start s) = true := by
  have hmode : (runBegun l cast start s).plan.active.refMode = s.plan.active.refMode := by rw [runBegun_frame]
  have hinputs : (runBegun l cast start s).timing.inputs = s.timing.inputs := by
    rw [runBegun_frame, startRun_timing_eq]
    rfl
  unfold firstBoundaryAtRun
  rw [hmode]
  rcases h with h | h | ⟨h, ha, hb⟩
  · rw [h]
  · rw [h]
  · rw [h, Timing.selected, hinputs]
    simp [ha, hb]

theorem enteredRef_of_waiting {t : Timing} {m : RefMode}
    (h : m = .followLeft ∨ (m = .external ∧ (t.inputs.a.state = .good ∨ t.inputs.b.state = .good))) :
    t.enteredRef m =
      if m = .followLeft then .seeking else if t.inputs.a.state = .good then .lockedA else .lockedB := by
  rcases h with rfl | ⟨rfl, hgood⟩
  · rfl
  · change t.formedRef .external = if t.inputs.a.state = .good then .lockedA else .lockedB
    by_cases ha : t.inputs.a.state = .good
    · rw [Timing.formedRef_external_of_some (selected_of_a ha), if_pos ha]
      rfl
    · rw [Timing.formedRef_external_of_some (selected_of_b ha (hgood.resolve_left ha)), if_neg ha]
      rfl

/-- The reference state of a run that starts on the schedule (R12, R20). -/
def RefMode.onSchedule : RefMode → RefState
  | .internal => .free
  | .loop => .loop
  | _ => .seeking

theorem enteredRef_of_schedule {t : Timing} {m : RefMode} (hlock : t.lockHeld = false)
    (h : m = .internal ∨ m = .loop ∨
      (m = .external ∧ t.inputs.a.state ≠ .good ∧ t.inputs.b.state ≠ .good)) :
    t.enteredRef m = m.onSchedule := by
  rcases h with rfl | rfl | ⟨rfl, ha, hb⟩
  · rfl
  · rfl
  · change t.formedRef .external = .seeking
    rw [Timing.formedRef_external_of_none (selected_of_none fun q => by cases q <;> assumption), hlock]
    rfl

end Start

/-! ### The first boundary (R4) -/

section First

variable {s t : State} {l : Link} {cast : Addressing} {start : Option (BitVec 32)}

/-- A reply that precedes what only posts acknowledges its command all the same (log 14). -/
theorem acknowledged_runBegun (hgrew : Grew (runBegun l cast start (s.taken l cast)) t) :
    Acknowledged l cast .ok [] s t := by
  have hposts := (posts_startRun (s.taken l cast) start).1
  cases cast with
  | unicast =>
    refine answered_of_grew (b := s.taken l .unicast) (u := startRun start (s.taken l .unicast)) .ok [] ?_ ?_
      (taken_attention l l .unicast) (fun h => ?_) hgrew
    · rw [startRun_frame]
      rfl
    · rw [hposts.onlyEvents l]
      exact taken_ovr l .unicast
    · exact hposts.att l (by rwa [taken_attention])
  | broadcast =>
    have hlink := (hposts.trans hgrew).onlyEvents l
    simp only [Acknowledged]
    rw [hlink]
    simp [State.taken]

/-- The frame of a period that starts from an accumulator at 0 (R4, R39). -/
theorem drawAccumulator_zero {p : Plan} (h : p.inRanges) :
    drawAccumulator p 0 = ⟨p.basePeriod, p.remainder, none, false, false, none⟩ := by
  have hlt : p.remainder < p.rateNum := Nat.mod_lt _ h.rateNum_pos
  rw [drawAccumulator_of_no_carry (by rwa [Nat.zero_add]), Nat.zero_add]

/-- The timing of a run that starts on the schedule (R4). -/
theorem firstBoundary_timing (begun : State) (hstage : s.plan.stage ≠ .committing) (hranges : s.plan.active.inRanges)
    (href : ((s.timing.started start).enteredRef s.plan.active.refMode).isLocked = false) :
    (boundary begun .schedule (runBegun l cast start s)).timing =
      { s.timing.started start with
        next := some (later s.timing.timebase s.plan.active.basePeriod), acc := s.plan.active.remainder
        frame := some (frameOf s.plan.active s.timing.timebase (start.getD s.timing.pairNumber)
          (drawAccumulator s.plan.active 0))
        pairNumber := start.getD s.timing.pairNumber + 1
        refState := (s.timing.started start).enteredRef s.plan.active.refMode } := by
  have hplan : (runBegun l cast start s).plan = s.plan := by rw [runBegun_frame]
  have htiming : (runBegun l cast start s).timing =
      { s.timing.started start with refState := (s.timing.started start).enteredRef s.plan.active.refMode } := by
    rw [runBegun_frame, startRun_timing_eq]
  have hentered : (runBegun l cast start s).timing.entered .schedule = (runBegun l cast start s).timing := by
    rw [htiming, Timing.entered]
    dsimp only
    rw [href]
    rfl
  have hdraw : drawPeriod s.plan.active (runBegun l cast start s).timing.acc (runBegun l cast start s).timing.ramp =
      drawAccumulator s.plan.active 0 := by
    rw [htiming]
    rfl
  rw [boundary_timing_of_none begun (by rwa [hplan]), hentered, hplan, Timing.frameBegun, hdraw, htiming,
    drawAccumulator_zero hranges]
  rfl

/-- The slot of a run's first boundary, in an empty table (R66, R67). -/
theorem firstBoundary_slot (begun : State) (hstage : s.plan.stage ≠ .committing) (hranges : s.plan.active.inRanges)
    (hslots : s.matcher.slots = [])
    (heyes : ∀ e, (s.trig.eyes.get e).lastPulse = none ∧ (s.trig.eyes.get e).waiting = []) :
    (boundary begun .schedule (runBegun l cast start s)).matcher.eyes = s.matcher.forgetEyes.eyes ∧
      ∃ f x, (boundary begun .schedule (runBegun l cast start s)).timing.frame = some f ∧
        (boundary begun .schedule (runBegun l cast start s)).matcher.slots = [x] ∧
        SlotOpened false s f (boundary begun .schedule (runBegun l cast start s)) x := by
  have hframe := runBegun_frame (s := s) (l := l) (cast := cast) (start := start)
  have hplan : (runBegun l cast start s).plan = s.plan := by rw [hframe]
  have htrig : (runBegun l cast start s).trig = s.trig := by rw [hframe]
  have hlens : (runBegun l cast start s).lens = s.lens := by rw [hframe]
  have hmatcher : (runBegun l cast start s).matcher = s.matcher.forgetEyes := by rw [hframe]
  have hempty : (runBegun l cast start s).matcher.slots = [] := by rw [hmatcher]; exact hslots
  have hactive : planAtBoundary (runBegun l cast start s) = s.plan.active := by
    rw [planAtBoundary_of_none (by rwa [hplan]), hplan]
  have hnumbers : ∀ y ∈ (runBegun l cast start s).matcher.slots,
      y.number ≠ (runBegun l cast start s).timing.pairNumber := by
    rw [hempty]
    exact fun y hy => (nomatch hy)
  have hover : ∀ e, ((runBegun l cast start s).trig.eyes.get e).waiting = [] ∧
      ∀ p, ((runBegun l cast start s).trig.eyes.get e).lastPulse = some p →
        since p.start p.stop < since p.start (runBegun l cast start s).timing.timebase := by
    rw [htrig]
    refine fun e => ⟨(heyes e).2, fun p hp => ?_⟩
    rw [(heyes e).1] at hp
    cases hp
  have hstamped : (stampedBoundary .schedule (runBegun l cast start s)).matcher = s.matcher.forgetEyes := by
    rw [← hmatcher]
    simp [stampedBoundary]
  obtain ⟨hbody, -⟩ := boundaryBody_opened (cause := .schedule) hnumbers hover
  rw [forceClosure_of_room (by rw [hstamped]; exact hslots ▸ (by decide)), hstamped] at hbody
  have hslot := slotOpened_openedSlot (cause := .schedule) (by rwa [hactive]) hnumbers hover
  refine ⟨by rw [boundary_matcher, hbody], (runBegun l cast start s).frameNow,
    openedSlot .schedule (runBegun l cast start s), ?_, ?_, ?_⟩
  · rw [boundary_timing]
    exact (boundaryTiming_drawn .schedule _).1
  · rw [boundary_matcher, hbody]
    exact congrArg (· ++ [openedSlot .schedule (runBegun l cast start s)]) hslots
  · rw [boundary_eq, answerAtBoundary_frame]
    unfold SlotOpened at hslot ⊢
    rw [hactive, hlens, htrig] at hslot
    rw [planAtBoundary_of_none hstage]
    exact hslot

end First

/-- Settles O23: RUN begins the run, and takes its first boundary where nothing else brings it. -/
theorem runStartsARun : Obligations.RunStartsARun := by
  refine fun l cast start s hready => ⟨takeRun l cast start (s.taken l cast), handOver_ready hready cast _,
    fun hrun => ?_, fun hrun hmode => ?_, fun hrun hstage htc hranges hmode => ?_⟩
  · rw [takeRun_of_not_stopped (s := s.taken l cast) hrun]
    exact refused_answer l cast .state s
  · rw [takeRun_of_stopped (s := s.taken l cast) hrun,
      if_neg (by rw [firstBoundaryAtRun_eq_false (s := s.taken l cast) hmode]; exact Bool.false_ne_true)]
    have hframe := runBegun_frame (s := s.taken l cast) (l := l) (cast := cast) (start := start)
    have htiming : (runBegun l cast start (s.taken l cast)).timing =
        { s.timing.started start with refState := (s.timing.started start).enteredRef s.plan.active.refMode } := by
      rw [hframe]
      exact startRun_timing_eq (s := s.taken l cast)
    refine ⟨acknowledged_runBegun (.refl _), ?_, fun e => ?_, ?_⟩
    · rw [htiming, enteredRef_of_waiting (t := s.timing.started start) hmode]
      rfl
    · rw [hframe]
      exact PerEye.get_build _ e
    · generalize runBegun l cast start (s.taken l cast) = t at hframe ⊢
      rw [hframe]
      rfl
  · rw [takeRun_of_stopped (s := s.taken l cast) hrun, if_pos (firstBoundaryAtRun_eq_true (s := s.taken l cast) hmode),
      takeBoundary_of_running runBegun_running]
    have hframe := runBegun_frame (s := s.taken l cast) (l := l) (cast := cast) (start := start)
    have hentered := enteredRef_of_schedule (t := s.timing.started start) rfl hmode
    have hunlocked : ((s.timing.started start).enteredRef s.plan.active.refMode).isLocked = false := by
      rw [hentered]
      cases s.plan.active.refMode <;> rfl
    have htiming := firstBoundary_timing (s := s.taken l cast) (l := l) (cast := cast) (start := start)
      (s.taken l cast) hstage hranges hunlocked
    have hplan : (runBegun l cast start (s.taken l cast)).plan = s.plan := by rw [hframe]; rfl
    have hstage' : (runBegun l cast start (s.taken l cast)).plan.stage ≠ .committing := by rwa [hplan]
    have htc' : (runBegun l cast start (s.taken l cast)).tc = { s.tc with firstMark := true } := by rw [hframe]; rfl
    have hgrew : Grew (runBegun l cast start (s.taken l cast))
        (boundary (s.taken l cast) .schedule (runBegun l cast start (s.taken l cast))) := by
      have hbody := (posts_boundaryBody (runBegun l cast start (s.taken l cast)) .schedule).1
      have hlinks := boundary_links_of_none (cause := .schedule) (s.taken l cast) hstage' (by rw [htc']; exact htc)
      unfold Grew
      rw [hlinks]
      exact hbody
    refine ⟨acknowledged_runBegun hgrew, ⟨frameOf s.plan.active s.timing.timebase (start.getD s.timing.pairNumber)
      (drawAccumulator s.plan.active 0), ?_, rfl, rfl, ?_, ?_⟩, ?_, ?_, ?_, ?_, fun hslots heyes => ?_, ?_⟩
    · exact htiming.trans (congrArg (fun v : RefState =>
        { s.timing.started start with
          next := some (later s.timing.timebase s.plan.active.basePeriod), acc := s.plan.active.remainder
          frame := some (frameOf s.plan.active s.timing.timebase (start.getD s.timing.pairNumber)
            (drawAccumulator s.plan.active 0))
          pairNumber := start.getD s.timing.pairNumber + 1, refState := v }) hentered)
    · rw [drawAccumulator_zero hranges]
      rfl
    · rw [drawAccumulator_zero hranges]
      rfl
    · rw [boundary_tc, htc']
      simp [TimecodeCounter.atBoundary, htc]
    · rw [boundary_plan_eq, boundaryTiming_of_none _ _ hstage', hplan]
    · rw [boundary_frame, hframe]
      rfl
    · rw [boundary_frame, hframe]
      rfl
    · obtain ⟨heyes', f, x, hf, hx, hopened⟩ := firstBoundary_slot (s := s.taken l cast) (l := l) (cast := cast)
        (start := start) (s.taken l cast) hstage hranges hslots heyes
      refine ⟨fun e => ?_, f, x, hf, hx, hopened⟩
      rw [heyes']
      exact PerEye.get_build _ e
    · have hscan := scanAtBoundary_boundary (s := runBegun l cast start (s.taken l cast)) (cause := .schedule)
        (s.taken l cast)
      have hbase : (runBegun l cast start (s.taken l cast)).timing.timebase = s.timing.timebase := by
        rw [hframe, startRun_timing_eq]
        rfl
      unfold ScanAtBoundary at hscan ⊢
      rw [hbase, show (runBegun l cast start (s.taken l cast)).lens = s.lens by rw [hframe]; rfl,
        show (runBegun l cast start (s.taken l cast)).memory = s.memory by rw [hframe]; rfl] at hscan
      exact hscan

end Sys2Proof.Machine
end
